-- ==== Sys2Proof/Word.lean ====
section
/-!
DEFINITION. Word: the machine words of the KT-620 and its plainest arithmetic.

Quantities the manual treats as numbers (ticks, speeds, tensions, counts) are `Int` or `Nat`; bit vectors
stand for characters on the deck link, for the wrapping accumulators and for the microsecond timebase.
-/

namespace Sys2Proof

/-- One character on the deck link (R180). -/
abbrev Byte := BitVec 8

/-- A wrapping 32-bit count: the servo's accumulators (R101) and the timebase (R132). -/
abbrev Count32 := BitVec 32

/-- A label or a profile name: its characters in order (R27, R168). -/
abbrev Label := List Byte

/-- "Clamped to a … b" (R2): a result below `lo` is replaced by `lo`, one above `hi` by `hi`. -/
def clampInt (lo hi x : Int) : Int := max lo (min hi x)

end Sys2Proof
end

