-- ==== Sys2Proof/Syntax.lean ====
section
/-!
DEFINITION. Syntax: the commands of the KT-620, one constructor of `Instr` for each row of
spec/opcode_table.json, with the operands each row's event or request carries.
-/

namespace Sys2Proof

/-- A direction of travel (R59) or a sense of rotation (R3, R101). -/
inductive Dir where
  | forward
  | reverse
deriving DecidableEq, Repr

/-- The rate code of an address word (R5). -/
inductive Rate where
  | r44100
  | r48000
deriving DecidableEq, Repr

/-- The two reels (00_scope section 6.6). -/
inductive Reel where
  | supply
  | takeUp
deriving DecidableEq, Repr

/-- A tape address block:sample (R1, R27). -/
structure Addr where
  block  : Nat
  sample : Nat
deriving DecidableEq, Repr

/-- What an address read brings (R5), with the time of its arrival on the 1 µs timebase (R132). -/
structure TapeRead where
  block   : Nat
  tag     : Nat
  rate    : Rate
  good    : Bool
  latched : Int
  time    : Count32
deriving DecidableEq, Repr

/-- The three converter codes of one scan: channels 0 and 1 and the rotating channel (R120). -/
structure ScanCodes where
  supplyArm : Nat
  takeUpArm : Nat
  rotating  : Nat
deriving DecidableEq, Repr

/-- The header of a request frame: destination, originating station, sequence (section 10.9). -/
structure Hdr where
  dest    : Nat
  station : Nat
  seq     : Nat
deriving DecidableEq, Repr

/-- A complete request frame with a good CRC (R181, section 10.9). -/
structure Frame where
  hdr     : Hdr
  unit    : Nat
  cmd     : Nat
  payload : List Byte
deriving DecidableEq, Repr

/-- The target field of LOCATE (R80, R183). -/
inductive LocTarget where
  | mark (number : Nat)
  | address (a : Addr)
  | next
  | previous
deriving DecidableEq, Repr

/-- A profile record (R168). -/
structure Profile where
  name     : Label
  hub      : Nat
  flange   : Nat
  nominal  : Nat
  tPlay    : Nat
  tWind    : Nat
  gain     : Nat
  kv       : Nat
  aLight   : Nat
  aFull    : Nat
  windMax  : Nat
  torque   : Nat
  slew     : Nat
  easeTime : Nat
deriving DecidableEq, Repr

/-- The commands. Requests carry their frame's header and the parameters as the frame's fields encode them
(R183): enumerations and choices are numbers here, so that a value outside the list reaches the owning
block, which refuses it as its rule gives. -/
inductive Instr where
  /-- COLD_START (R199) -/
  | coldStart
  /-- INTERNAL_RESET_END (R199, R177), with the station address switch as it stands (R181) -/
  | internalResetEnd (switch : Nat)
  /-- LINK_SILENCE_END (R193) -/
  | linkSilenceEnd
  /-- PROFILE_UPDATE (R58) -/
  | profileUpdate
  /-- THREAD (R60) -/
  | thread
  /-- UNTHREAD (R60) -/
  | unthread
  /-- RAMP_COMPLETE (R63) -/
  | rampComplete
  /-- ENGAGE_TIMEOUT (R63) -/
  | engageTimeout
  /-- READY (R112) -/
  | ready
  /-- EASE (R65) -/
  | ease
  /-- RESTORE_COMPLETE (R66) -/
  | restoreComplete
  /-- RELEASE_RAMP_END (R64) -/
  | releaseRampEnd
  /-- STATIONARY (R68) -/
  | stationary
  /-- HALT_END (R78) -/
  | haltEnd
  /-- ENTRY_TO_RUN (R69) -/
  | entryToRun
  /-- SEARCH_EXHAUSTED (R91) -/
  | searchExhausted
  /-- ARRIVAL_TEST (R93) -/
  | arrivalTest
  /-- HOLD_EXPIRY (R96) -/
  | holdExpiry
  /-- SCAN (R120) -/
  | scan
  /-- SCAN_COMPLETION (R120) -/
  | scanCompletion (codes : ScanCodes)
  /-- REEL_CURRENT (R126) -/
  | reelCurrent (codes : ScanCodes)
  /-- CAPSTAN_OVERLOAD (R127) -/
  | capstanOverload (codes : ScanCodes)
  /-- SUPPLY_LOW (R128) -/
  | supplyLow (codes : ScanCodes)
  /-- SERVO_COMPUTATION (R102) -/
  | servoComputation
  /-- RADIUS_WINDOW (R104) -/
  | radiusWindow
  /-- TENSION_LOSS (R113) -/
  | tensionLoss
  /-- SPEED_RUNAWAY (R115) -/
  | speedRunaway
  /-- ROLLER_COUNT (R3) -/
  | rollerCount (sense : Dir)
  /-- REEL_TACHOMETER_COUNT (R101) -/
  | reelTachometerCount (reel : Reel) (sense : Dir)
  /-- ADDRESS_READ (R7) -/
  | addressRead (read : TapeRead)
  /-- ADDRESS_DROPOUT (R8) -/
  | addressDropout (read : TapeRead)
  /-- CAPSTAN_LOCK (R143) -/
  | capstanLock (read : TapeRead)
  /-- INTERNAL_EDGE (R132) -/
  | internalEdge
  /-- WORD_CLOCK_EDGE (R133), with its time -/
  | wordClockEdge (time : Count32)
  /-- QUALIFIED (R135), with the time of the word-clock edge that completes qualification -/
  | qualified (time : Count32)
  /-- SILENCE_TIMEOUT (R136) -/
  | silenceTimeout
  /-- MISSED_EDGES (R144), with the time of the edge where the reference in use is word clock -/
  | missedEdges (time : Count32)
  /-- START_SAMPLE (R145), with the input's level -/
  | startSample (high : Bool)
  /-- RECORD_PERMIT_CHANGE (R149), with the input's new state -/
  | recordPermitChange (present : Bool)
  /-- SAVE_STAGE_END (R175), with whether a read-back agrees (used at stage 4) -/
  | saveStageEnd (agrees : Bool)
  /-- LINE_IDLE (R180) -/
  | lineIdle
  /-- UNKNOWN_COMMAND (R182), with the frame -/
  | unknownCommand (frame : Frame)
  /-- REPLY (R184) -/
  | reply
  /-- SLOT_ANSWER (R191) -/
  | slotAnswer
  /-- WARM_RESET (R192) -/
  | warmReset
  /-- STATUS_POLL (R189), command 0x00 of every unit -/
  | statusPoll (h : Hdr) (unit : Nat)
  /-- ENGAGE (R62) -/
  | engage (h : Hdr) (profile : Nat)
  /-- RELEASE (R64) -/
  | release (h : Hdr)
  /-- STOP (R67), with whatever payload it carries (R182) -/
  | stop (h : Hdr) (payload : List Byte)
  /-- PLAY (R69) -/
  | play (h : Hdr)
  /-- CUE (R71) -/
  | cue (h : Hdr) (speed : Int)
  /-- WIND (R72) -/
  | wind (h : Hdr) (direction speed : Nat)
  /-- LOCATE (R80) -/
  | locate (h : Hdr) (target : LocTarget) (preroll followOn holdLimit : Nat)
  /-- POSITION_READ (R24) -/
  | positionRead (h : Hdr)
  /-- ANCHOR_READ (R25) -/
  | anchorRead (h : Hdr) (index : Nat)
  /-- LOCATE_READ (R100) -/
  | locateRead (h : Hdr)
  /-- TENSION_READ (R117) -/
  | tensionRead (h : Hdr)
  /-- SENSE_READ (R130) -/
  | senseRead (h : Hdr)
  /-- REFERENCE_SELECT (R134) -/
  | referenceSelect (h : Hdr) (selection : Nat)
  /-- REFERENCE_READ (R146) -/
  | referenceRead (h : Hdr)
  /-- FAULT_READ (R197) -/
  | faultRead (h : Hdr)
  /-- FAULT_CLEAR (R198) -/
  | faultClear (h : Hdr)
  /-- MARK_SET (R35); number 255 is "first free" (R183) -/
  | markSet (h : Hdr) (number kind : Nat) (a : Addr) (label : Label)
  /-- MARK_HERE (R36); number 255 is "first free" -/
  | markHere (h : Hdr) (number kind : Nat) (label : Label)
  /-- MARK_MOVE (R37) -/
  | markMove (h : Hdr) (number : Nat) (a : Addr)
  /-- MARK_TRIM (R38) -/
  | markTrim (h : Hdr) (number : Nat) (amount : Int)
  /-- MARK_NAME (R39) -/
  | markName (h : Hdr) (number : Nat) (label : Label)
  /-- MARK_PAIR (R41) -/
  | markPair (h : Hdr) (a b : Nat)
  /-- MARK_UNPAIR (R42) -/
  | markUnpair (h : Hdr) (number : Nat)
  /-- MARK_LOCK (R34) -/
  | markLock (h : Hdr) (number : Nat)
  /-- MARK_UNLOCK (R34) -/
  | markUnlock (h : Hdr) (number : Nat)
  /-- MARK_RETIRE (R43) -/
  | markRetire (h : Hdr) (number : Nat)
  /-- MARK_RETIRE_REEL (R44) -/
  | markRetireReel (h : Hdr) (tag : Nat)
  /-- MARK_READ (R45) -/
  | markRead (h : Hdr) (number : Nat)
  /-- MARK_FIND_NEXT (R46) -/
  | markFindNext (h : Hdr)
  /-- MARK_FIND_PREVIOUS (R46) -/
  | markFindPrevious (h : Hdr)
  /-- MARK_FIND_NEAREST (R47) -/
  | markFindNearest (h : Hdr) (a : Addr)
  /-- MARK_FIND_LABEL (R47) -/
  | markFindLabel (h : Hdr) (label : Label)
  /-- ARM (R153) -/
  | arm (h : Hdr) (inMark tracks rehearse : Nat)
  /-- DISARM (R154); number 255 is ALL (R183) -/
  | disarm (h : Hdr) (inMark : Nat)
  /-- SAFE (R149) -/
  | safe (h : Hdr) (tracks setting : Nat)
  /-- RECORD_ON (R164) -/
  | recordOn (h : Hdr) (tracks : Nat)
  /-- RECORD_OFF (R165) -/
  | recordOff (h : Hdr)
  /-- PUNCH_READ (R166) -/
  | punchRead (h : Hdr)
  /-- PROFILE_WRITE (R171) -/
  | profileWrite (h : Hdr) (number : Nat) (p : Profile)
  /-- STORE_SAVE (R174) -/
  | storeSave (h : Hdr)
  /-- SERVICE_MASK (R188) -/
  | serviceMask (h : Hdr) (mask : Nat)
  /-- POLL_CONFIGURE (R190) -/
  | pollConfigure (h : Hdr) (slot condition sense : Nat)
  /-- RESET (R192) -/
  | reset (h : Hdr)
  /-- GROUP_POLL (R191) -/
  | groupPoll (h : Hdr)
  /-- PROFILE_READ (R170) -/
  | profileRead (h : Hdr) (number : Nat)
  /-- STORE_READ (R176) -/
  | storeRead (h : Hdr)
  /-- IDENTIFY (R179) -/
  | identify (h : Hdr)
  /-- CHARACTER_RECEIVED (R180), with whether its stop bit was missing -/
  | characterReceived (c : Byte) (framingError : Bool)
deriving DecidableEq, Repr

end Sys2Proof
end

