-- ==== Sys2Proof/Decode.lean ====
section
/-!
DEFINITION. Decode: the command that a word spells by the table's bits. The table gives no row any bits, so no word spells
a command; the encoding of request frames, which the spec does give, stands in Sys2Proof/Machine/Wire.lean.
-/

namespace Sys2Proof

/-- The command a word of the opcode table spells: none, for the table gives no bits. -/
def decodeTableWord (nbits w : Nat) : Option Instr :=
  match nbits, w with
  | _, _ => none

end Sys2Proof
end

