-- ==== Sys2Proof/Config.lean ====
section
/-!
DEFINITION. Config: what the card fixes by its design and never changes: capacities, the factory profile, the
default arm calibration, identity codes, and the limits of the measured quantities. The spec leaves no value
of the card open in a way that needs a free value (log entry 25).
-/

namespace Sys2Proof.Config

/-- Ticks run from 0 to this (00_scope section 6.1). -/
def maxTick : Int := 104857599

/-- The highest block number (R5, R6). -/
def maxBlock : Nat := 1048575

/-- Limits of the roller counter (R3). -/
def counterMax : Int := 2147483647
def counterMin : Int := -2147483648

/-- Capacity of the anchor map (R12). -/
def maxAnchors : Nat := 64

/-- Number of mark slots (R26). -/
def markSlots : Nat := 100

/-- Capacity of the armed list (R152). -/
def maxEntries : Nat := 4

/-- Head-contact ceiling in ticks/s (R57, R58). -/
def headContact : Int := 40000

/-- The measured speeds between which reads are taken (R6). -/
def readSlow : Int := 2500
def readFast : Int := 40000

/-- The factory name of a profile, "14IN HALF" (R168). -/
def factoryName : Label := [0x31#8, 0x34#8, 0x49#8, 0x4E#8, 0x20#8, 0x48#8, 0x41#8, 0x4C#8, 0x46#8]

/-- The factory values of a profile record (R168). -/
def factoryProfile : Profile where
  name     := factoryName
  hub      := 5000
  flange   := 17500
  nominal  := 300000
  tPlay    := 180
  tWind    := 220
  gain     := 32
  kv       := 64
  aLight   := 200000
  aFull    := 80000
  windMax  := 1200
  torque   := 900
  slew     := 40
  easeTime := 60

/-- Vendor and part codes of IDENTIFY (R179). -/
def vendorCode : Nat := 0x5A57
def partCode : Nat := 620

end Sys2Proof.Config
end

