-- ==== Sys2Proof/Machine/State.lean ====
section
/-!
DEFINITION. State: everything the spec gives the card, as plain data, block by block, with the queue of waiting
commands; the outcomes' reasons; and the card right after reset.
-/

namespace Sys2Proof.Machine

/-! ## Position Tracker (chapter 1) -/

/-- One anchor of the map (R12). -/
structure Anchor where
  count : Int
  ticks : Int
  live  : Bool
deriving DecidableEq, Repr

/-- The jump candidate (R16). -/
structure Jump where
  count : Int
  block : Nat
deriving DecidableEq, Repr

/-- A reel's identity: tag and rate code (R9, R11). -/
structure ReelId where
  tag  : Nat
  rate : Rate
deriving DecidableEq, Repr

structure Tracker where
  /-- the signed 32-bit roller counter (R3) -/
  counter   : Int
  /-- the anchor map, lowest count first (R12) -/
  map       : List Anchor
  jump      : Option Jump
  /-- loaded tag and rate; `none` is ABSENT and NONE (R11) -/
  loaded    : Option ReelId
  candidate : Option ReelId
  /-- the consecutive-rejection count (R8) -/
  rejects   : Nat
deriving DecidableEq, Repr

/-! ## Mark Table (chapter 2) -/

inductive MarkKind where
  | cue
  | punchIn
  | punchOut
  | guardStart
  | guardEnd
deriving DecidableEq, Repr

/-- The state of a non-free mark (R28): a PROVISIONAL mark, and no other, carries a capture count. -/
inductive Standing where
  | firm
  | provisional (capture : Int)
deriving DecidableEq, Repr

/-- A mark record (R27); its number is its key in the table. -/
structure Mark where
  kind     : MarkKind
  addr     : Addr
  /-- `none` is "unclaimed" -/
  tag      : Option Nat
  standing : Standing
  spread   : Option Nat
  partner  : Option Nat
  label    : Label
  owner    : Nat
  locked   : Bool
deriving DecidableEq, Repr

/-- The non-free slots, numbers strictly rising (R26): a slot not listed is FREE. -/
abbrev MarkTable := List (Nat × Mark)

/-! ## Motion Controller (chapters 3 and 4) -/

/-- Tension level of STOPPED, with the restore flag as the third value (R55, section 10.9). -/
inductive Level where
  | full
  | eased
  | restoring
deriving DecidableEq, Repr

inductive PlayPhase where
  | entry
  | run
deriving DecidableEq, Repr

inductive LocPhase where
  | search
  | run
  | approach
  | creep
  | hold
deriving DecidableEq, Repr

inductive StopKind where
  | normal
  | safe
deriving DecidableEq, Repr

/-- The transport mode with its level, phase or stop kind (R55). -/
inductive Mode where
  | empty
  | released
  | engaging
  | stopped (level : Level)
  | play (phase : PlayPhase)
  | cue
  | wind
  | locate (phase : LocPhase)
  | stopping (kind : StopKind)
  | releasing
  | halting
deriving DecidableEq, Repr

/-- The target of a locate in progress: the resolved mark or the requested address (R83). -/
inductive Target where
  | mark (number : Nat)
  | address (a : Addr)
deriving DecidableEq, Repr

inductive FollowOn where
  | stop
  | play
  | playOnTrigger
deriving DecidableEq, Repr

/-- The arrival judgement (R95). -/
inductive Judgement where
  | arrived
  | reckoned
deriving DecidableEq, Repr

/-- The locate context (R83); its phase stands in the mode. -/
structure LocCtx where
  target      : Target
  preroll     : Nat
  followOn    : FollowOn
  holdLimit   : Nat
  targetTick  : Int
  /-- D_app (R82) -/
  approach    : Int
  searchStart : Int
  /-- the settle latch (R90) -/
  latch       : Bool
  reversals   : Nat
  lastDir     : Option Dir
  /-- direction of the creep run in progress (R94) -/
  creep       : Option Dir
  judgement   : Option Judgement
  holdTimer   : Nat
deriving DecidableEq, Repr

/-- How a locate ended (R98). -/
inductive LocEnd where
  | arrived
  | reckoned
  | inexact
  | noAddress
  | targetLost
  | superseded
  | stopped
  | endOfTape
  | holdExpired
  | fault
deriving DecidableEq, Repr

/-- The locate result record (R98). -/
structure LocResult where
  targetTick : Int
  mark       : Option Nat
  result     : LocEnd
  error      : Option Int
  reversals  : Nat
deriving DecidableEq, Repr

/-- A motion request held pending a restore (R66): speeds as clamped at acceptance. -/
inductive Held where
  | play
  | cue (want : Int)
  | wind (want : Int)
  | locate (ctx : LocCtx)
deriving DecidableEq, Repr

structure Motion where
  mode         : Mode
  /-- the speed command (R58) -/
  vCmd         : Int
  /-- the requested speed of CUE and WIND (R71, R72) -/
  want         : Int
  liftersUp    : Bool
  pinchIn      : Bool
  brakesOn     : Bool
  tapeTimer    : Nat
  /-- the leader side (R61) -/
  leader       : Option Dir
  idle         : Nat
  rampK        : Nat
  engageTimer  : Nat
  /-- the published ramp setpoint (R63, R64, R66) -/
  setpoint     : Int
  /-- T₀ of the release ramp (R64) -/
  releaseStart : Int
  releaseK     : Nat
  restoreK     : Nat
  /-- consecutive stationary updates (R68, R93) -/
  still        : Nat
  entryCount   : Nat
  haltTimer    : Nat
  haltStill    : Nat
  held         : Option Held
  loc          : Option LocCtx
  result       : Option LocResult
deriving DecidableEq, Repr

/-! ## Reel Servo (chapter 5) -/

/-- The calibration of one arm (R106). -/
structure ArmCal where
  centre : Int
  base   : Int
  rate   : Int
deriving DecidableEq, Repr

structure Servo where
  accRoller   : Count32
  accSupply   : Count32
  accTakeUp   : Count32
  /-- the 17 latest snapshots of the roller accumulator, the present one first (R103) -/
  history     : List Count32
  vMeas       : Int
  winCount    : Nat
  refRoller   : Count32
  refSupply   : Count32
  refTakeUp   : Count32
  rSupply     : Int
  rTakeUp     : Int
  calSupply   : ArmCal
  calTakeUp   : ArmCal
  codeSupply  : Nat
  codeTakeUp  : Nat
  tSupply     : Int
  tTakeUp     : Int
  tSet        : Int
  cmdSupply   : Int
  cmdTakeUp   : Int
  drives      : Bool
  rampDone    : Bool
  ready       : Nat
  loss        : Nat
  runaway     : Nat
  /-- per arm, R114's previous state: at a stop at the previous engaged computation -/
  stopSupply  : Bool
  stopTakeUp  : Bool
  /-- per arm, found at its stop by the latest computation, whatever the mode (R114, R117) -/
  foundSupply : Bool
  foundTakeUp : Bool
deriving DecidableEq, Repr

/-! ## Sensor Scanner (chapter 6) -/

/-- One entry of the sensor table (R119). -/
structure Channel where
  code       : Nat
  value      : Int
  age        : Nat
  saturation : Bool
deriving DecidableEq, Repr

inductive Optical where
  | clear
  | opaqueTape
deriving DecidableEq, Repr

structure Scanner where
  /-- the entries of channels 0 to 6 -/
  table   : List Channel
  /-- the rotation pointer: the rotating channel of the scan in hand (R120) -/
  pointer : Nat
  /-- the rotation pointer as of the latest scan completion (R130) -/
  latest  : Nat
  optical : Optical
deriving DecidableEq, Repr

/-! ## Fault Monitor (chapter 11, section 6.5) -/

inductive Quality where
  | locked
  | reckoned
  | unknown
deriving DecidableEq, Repr

/-- The seven causes in the order of R194. -/
inductive Cause where
  | tensionLoss
  | armLimit
  | speedRunaway
  | reelCurrent
  | capstanOverload
  | supplyLow
  | engageTimeout
deriving DecidableEq, Repr

/-- A fault record (R195). -/
structure FaultRec where
  cause    : Cause
  count    : Nat
  mode     : Mode
  estimate : Int
  quality  : Quality
deriving DecidableEq, Repr

/-- One conversion of a rotating channel. -/
structure Conversion where
  channel : Nat
  code    : Nat
deriving DecidableEq, Repr

structure Monitor where
  /-- the fault set, in the order of R194 -/
  faults    : List FaultRec
  reel2     : Nat
  reel3     : Nat
  overload  : Nat
  lowCount  : Nat
  supplyLow : Bool
  /-- a conversion whose judgement brings a report and is still to be taken, as an event of its own (R121; log entry 36) -/
  due       : Option Conversion
deriving DecidableEq, Repr

/-! ## Capstan and Reference Unit (chapter 7) -/

inductive RefSel where
  | internal
  | wordClock
deriving DecidableEq, Repr

inductive RefState where
  | internal
  | qualifying
  | external
  | fallback
deriving DecidableEq, Repr

structure Capstan where
  /-- the latest reading of the 1 µs timebase (R132) -/
  timebase     : Count32
  selection    : RefSel
  refState     : RefState
  qual         : Nat
  divider      : Nat
  /-- the derived edge that opened the open period, if one is open (R133) -/
  openAt       : Option Count32
  /-- the latest derived period, NONE since a divider restart (R146) -/
  latest       : Option Nat
  /-- the word-clock edge the silence timer counts from; `none` while it is stopped (R136) -/
  silence      : Option Count32
  lastInternal : Count32
  /-- time of the latest reference edge and reference period (R132) -/
  lastEdge     : Count32
  period       : Nat
  vRef         : Int
  lock         : Bool
  lockCount    : Nat
  missed       : Nat
  lastPhase    : Option Int
  correction   : Int
  enable       : Bool
  command      : Int
  startHigh    : Bool
  startArmed   : Bool
  startCount   : Nat
  startEdges   : Nat
deriving DecidableEq, Repr

/-! ## Punch Unit (chapter 8) -/

inductive Tracks where
  | a
  | b
  | both
deriving DecidableEq, Repr

/-- The stage of an ARMED entry (R152). -/
inductive Stage where
  | idle
  | waiting
  | cleared
deriving DecidableEq, Repr

/-- The result of a COMPLETE entry (R159). -/
inductive PunchResult where
  | done
  | lateIn
  | rehearsed
  | guarded
  | suppressed
  | uncleanOut
  | aborted
deriving DecidableEq, Repr

/-- The state of an armed entry with the fields present in it (R152). -/
inductive EntryState where
  | armed (stage : Stage) (missed : Bool)
  | active (late : Bool) (drop : Option Int) (actualIn : Addr)
  | complete (result : PunchResult) (actualIn actualOut : Option Addr)
deriving DecidableEq, Repr

structure Entry where
  inMark   : Nat
  outMark  : Nat
  tracks   : Tracks
  rehearse : Bool
  state    : EntryState
deriving DecidableEq, Repr

/-- A guard zone: both bounds inclusive, with the marks that formed it (R150, R166). -/
structure Zone where
  low   : Int
  high  : Int
  marks : List Nat
deriving DecidableEq, Repr

/-- The manual state with its tracks and manual drop point (R164). -/
inductive Manual where
  | off
  | pendingOn (tracks : Tracks)
  | on (tracks : Tracks) (drop : Option Int)
  | pendingOff (tracks : Tracks) (drop : Option Int)
deriving DecidableEq, Repr

/-- The last completion record (R159). -/
structure Completion where
  inMark    : Nat
  outMark   : Nat
  tracks    : Tracks
  rehearse  : Bool
  result    : PunchResult
  actualIn  : Option Addr
  actualOut : Option Addr
deriving DecidableEq, Repr

structure Punch where
  gateA     : Bool
  gateB     : Bool
  monA      : Bool
  monB      : Bool
  offset    : Nat
  /-- the record permit input, and the permit as last seen (R149) -/
  permitPin : Bool
  permit    : Bool
  safeA     : Bool
  safeB     : Bool
  entries   : List Entry
  zones     : List Zone
  manual    : Manual
  last      : Option Completion
deriving DecidableEq, Repr

/-! ## Settings Store (chapter 9) -/

/-- The factory sector as it stands on its medium; `checkOk` says its check value matches (R172). -/
structure FactorySector where
  supply   : ArmCal
  takeUp   : ArmCal
  serial   : Nat
  revision : Nat
  checkOk  : Bool
deriving DecidableEq, Repr

/-- A saved image (R173): profiles, marks, reference selection. -/
structure Image where
  profiles  : List Profile
  marks     : MarkTable
  selection : RefSel
deriving DecidableEq, Repr

/-- The user sector as it stands on its medium (R173). -/
structure UserSector where
  image   : Image
  count   : Nat
  /-- the validity marker is present -/
  marker  : Bool
  /-- its check matches the image -/
  checkOk : Bool
deriving DecidableEq, Repr

/-- A save in WRITING: the stage in progress, 1 to 4, and the snapshot (R174, R175). -/
structure Save where
  stage    : Nat
  snapshot : Image
deriving DecidableEq, Repr

inductive SaveResult where
  | none
  | done
  | failed
deriving DecidableEq, Repr

inductive Source where
  | user
  | defaults
deriving DecidableEq, Repr

structure Store where
  profiles    : List Profile
  active      : Nat
  factory     : FactorySector
  /-- the factory sector was VALID when read (R172) -/
  factoryFlag : Bool
  serial      : Nat
  revision    : Nat
  user        : UserSector
  /-- the sector flag, true for VALID (R173) -/
  sectorFlag  : Bool
  save        : Option Save
  lastSave    : SaveResult
  source      : Source
deriving DecidableEq, Repr

/-! ## Deck Link Port (chapter 10) -/

/-- The receiver's framing state (R180). -/
inductive Rx where
  | disregard                     -- until the next idle
  | idle                          -- the line is idle: the next character starts a frame
  | collecting (chars : List Byte)  -- the characters after SYNC
deriving DecidableEq, Repr

/-- What the port owes or drives on the line (R184, R191); `reset` says that the warm reset of R192
follows the reply. -/
inductive Tx where
  | quiet
  | replyDue (frame : List Byte) (reset : Bool)
  | slotDue (answer : Byte)
  | sending (reset : Bool)
deriving DecidableEq, Repr

/-- An entry of the retry table (R186). -/
structure Retry where
  unit    : Nat
  seq     : Nat
  cmd     : Nat
  payload : List Byte
  reply   : List Byte
deriving DecidableEq, Repr

structure Link where
  address : Nat
  /-- the 250 ms after cold start are running (R193) -/
  silent  : Bool
  rx      : Rx
  tx      : Tx
  /-- the characters last sent on the line -/
  sent    : List Byte
  /-- the retry table by station, numbers strictly rising (R186) -/
  retry   : List (Nat × Retry)
  /-- the event summary, bits as in R187 -/
  summary : BitVec 16
  mask    : BitVec 16
  /-- the group-poll slot; `none` is NONE (R190) -/
  slot    : Option Nat
  cond    : Nat
  sense   : Bool
deriving DecidableEq, Repr

/-! ## The card -/

/-- The whole card, and the commands that wait. -/
structure State where
  tracker : Tracker
  marks   : MarkTable
  motion  : Motion
  servo   : Servo
  scanner : Scanner
  monitor : Monitor
  capstan : Capstan
  punch   : Punch
  store   : Store
  link    : Link
  /-- the internal reset of a cold start is in force (R199) -/
  inReset : Bool
  /-- the commands that wait, first in first out -/
  pending : List Instr
deriving DecidableEq, Repr

/-- Reasons a step could stop with a fault. There is none: every command of the card ends in a next state, and the
card's own fault causes (R194) are records and orders inside State. Safe: nothing stops. -/
inductive Fault where
deriving DecidableEq, Repr

/-- Reasons a step could refuse. -/
inductive Refusal where
  /-- Asked for by the host's interface: a command that has no meaning yet. No arm of `exec` answers it.
  Safe: the machine would stop. -/
  | notModelled (mnemonic : String)
deriving DecidableEq, Repr

/-- The arm calibration taken when the factory sector is invalid (R172). -/
def defaultCal : ArmCal where
  centre := 2048
  base   := 200
  rate   := 16

/-- An entry that stands for no measurement (R119). -/
def blankChannel : Channel where
  code       := 0
  value      := 0
  age        := 65535
  saturation := false

/-- The factory state of the eight profile records (R168). -/
def factoryProfiles : List Profile := List.replicate 8 Config.factoryProfile

/-- DESIGN CHOICE (unsafe, log entry 6): the factory sector of the card after reset is one whose check does not match. -/
def blankFactory : FactorySector where
  supply   := defaultCal
  takeUp   := defaultCal
  serial   := 0
  revision := 0
  checkOk  := false

/-- A user sector that has never been saved holds no marker (R173). DESIGN CHOICE (unsafe, log entry 6) for its contents. -/
def blankUser : UserSector where
  image   := { profiles := factoryProfiles, marks := [], selection := .internal }
  count   := 0
  marker  := false
  checkOk := false

/-- The card right after the internal reset of a cold start has ended (R23, R54, R79, R118, R131, R147, R167,
R178, R193, R200), with an invalid factory sector and an invalid user sector. Values no rule gives are in log
entries 4, 6 and 7. -/
def State.reset : State where
  tracker := { counter := 0, map := [], jump := none, loaded := none, candidate := none, rejects := 0 }
  marks := []
  motion :=
    { mode := .empty, vCmd := 0, want := 0, liftersUp := true, pinchIn := false, brakesOn := true, tapeTimer := 0,
      leader := none, idle := 0, rampK := 0, engageTimer := 0, setpoint := 0, releaseStart := 0, releaseK := 0,
      restoreK := 0, still := 0, entryCount := 0, haltTimer := 0, haltStill := 0, held := none, loc := none,
      result := none }
  servo :=
    { accRoller := 0, accSupply := 0, accTakeUp := 0, history := List.replicate 17 0, vMeas := 0, winCount := 0,
      refRoller := 0, refSupply := 0, refTakeUp := 0, rSupply := 11250, rTakeUp := 11250, calSupply := defaultCal,
      calTakeUp := defaultCal, codeSupply := 0, codeTakeUp := 0, tSupply := 0, tTakeUp := 0, tSet := 0,
      cmdSupply := 0, cmdTakeUp := 0, drives := false, rampDone := false, ready := 0, loss := 0, runaway := 0,
      stopSupply := false, stopTakeUp := false, foundSupply := false, foundTakeUp := false }
  scanner := { table := List.replicate 7 blankChannel, pointer := 6, latest := 6, optical := .clear }
  monitor := { faults := [], reel2 := 0, reel3 := 0, overload := 0, lowCount := 0, supplyLow := false, due := none }
  capstan :=
    { timebase := 0, selection := .internal, refState := .internal, qual := 0, divider := 0, openAt := none,
      latest := none, silence := none, lastInternal := 0, lastEdge := 0, period := 10000, vRef := 10000,
      lock := false, lockCount := 0, missed := 0, lastPhase := none, correction := 0, enable := false, command := 0,
      startHigh := true, startArmed := false, startCount := 0, startEdges := 0 }
  punch :=
    { gateA := false, gateB := false, monA := false, monB := false, offset := 0, permitPin := false, permit := false,
      safeA := true, safeB := true, entries := [], zones := [], manual := .off, last := none }
  store :=
    { profiles := factoryProfiles, active := 0, factory := blankFactory, factoryFlag := false, serial := 0,
      revision := 0, user := blankUser, sectorFlag := false, save := none, lastSave := .none, source := .defaults }
  link :=
    { address := 1, silent := true, rx := .disregard, tx := .quiet, sent := [], retry := [], summary := 0, mask := 0,
      slot := none, cond := 0, sense := false }
  inReset := false
  pending := []

end Sys2Proof.Machine
end

