-- ==== Sys2Proof/Machine/Arith.lean ====
section
/-!
DEFINITION. Arith: the card's integer arithmetic (R2), the conversions between ticks and block:sample (R1), and the
rising lists of numbered records that the mark table and the retry table are kept in.
-/

namespace Sys2Proof.Machine

/-- Bit by bit, from bit `k - 1` down: the largest value above `r` whose square does not exceed `n`. -/
def isqrtBits : Nat → Nat → Nat → Nat
  | 0, _, r => r
  | k + 1, n, r => if (r + 2 ^ k) * (r + 2 ^ k) ≤ n then isqrtBits k n (r + 2 ^ k) else isqrtBits k n r

/-- The largest integer whose square does not exceed `n` (R2). -/
def isqrt (n : Nat) : Nat := isqrtBits (Nat.log2 n / 2 + 1) n 0

/-- `isqrt` of a product formed as a signed integer; a value below 0 has none and gives 0. -/
def isqrtInt (x : Int) : Int := isqrt x.toNat

/-- The magnitude of a signed quantity. -/
def mag (x : Int) : Int := if x < 0 then -x else x

/-- Tick value from block:sample with `spb` (R1). -/
def tickOf (a : Addr) (spb : Nat) : Int := a.block * 100 + a.sample * 100 / spb

/-- The block of a tick value (R1). -/
def blockOf (t : Int) : Nat := (t / 100).toNat

/-- The sample of a tick value with `spb` (R1). -/
def sampleOf (t : Int) (spb : Nat) : Nat := ((t % 100) * spb / 100).toNat

/-- block:sample of a tick value with `spb` (R1). -/
def addrOf (t : Int) (spb : Nat) : Addr where
  block  := blockOf t
  sample := sampleOf t spb

/-- `v` moved from `prev` toward `target` by at most `step` (R58, R110). -/
def moveToward (prev target step : Int) : Int := clampInt (prev - step) (prev + step) target

/-- A cap on the magnitude of a signed quantity: it keeps the sign (R58). -/
def capMag (cap v : Int) : Int := clampInt (-cap) cap v

/-- The record of number `k`, if any. -/
def slotGet {α : Type} (k : Nat) : List (Nat × α) → Option α
  | [] => none
  | (n, a) :: r => if n = k then some a else slotGet k r

/-- `a` placed as the record of number `k`, the numbers kept rising. -/
def slotPut {α : Type} (k : Nat) (a : α) : List (Nat × α) → List (Nat × α)
  | [] => [(k, a)]
  | (n, b) :: r =>
    if k < n then (k, a) :: (n, b) :: r
    else if k = n then (k, a) :: r
    else (n, b) :: slotPut k a r

/-- No record of number `k`. -/
def slotDrop {α : Type} (k : Nat) (l : List (Nat × α)) : List (Nat × α) := l.filter fun p => p.1 ≠ k

/-- `f` on every record, with its number; the numbers stay. -/
def slotMap {α : Type} (f : Nat → α → α) (l : List (Nat × α)) : List (Nat × α) := l.map fun p => (p.1, f p.1 p.2)

/-- The numbers of a table are strictly rising. -/
abbrev Rising {α : Type} (l : List (Nat × α)) : Prop := (l.map Prod.fst).Pairwise (· < ·)

/-- Insertion into a list ordered by a key, behind the elements of equal key. -/
def insertByKey {α : Type} (key : α → Int) (x : α) : List α → List α
  | [] => [x]
  | y :: r => if key x < key y then x :: y :: r else y :: insertByKey key x r

/-- A list in order of a key, elements of equal key in the order they stood in. -/
def sortByKey {α : Type} (key : α → Int) (l : List α) : List α :=
  l.foldl (fun acc x => insertByKey key x acc) []

end Sys2Proof.Machine
end

