-- ==== Sys2Proof/Machine/Flags.lean ====
section
/-!
DEFINITION. Flags: the updates of State block by block; the event summary, the service mask and the SERVICE line
(R187, R188); and the result codes of replies (R182).
-/

namespace Sys2Proof.Machine

/-! ## Updates of one block -/

def State.onTracker (s : State) (f : Tracker → Tracker) : State := { s with tracker := f s.tracker }
def State.onMarks (s : State) (f : MarkTable → MarkTable) : State := { s with marks := f s.marks }
def State.onMotion (s : State) (f : Motion → Motion) : State := { s with motion := f s.motion }
def State.onServo (s : State) (f : Servo → Servo) : State := { s with servo := f s.servo }
def State.onScanner (s : State) (f : Scanner → Scanner) : State := { s with scanner := f s.scanner }
def State.onMonitor (s : State) (f : Monitor → Monitor) : State := { s with monitor := f s.monitor }
def State.onCapstan (s : State) (f : Capstan → Capstan) : State := { s with capstan := f s.capstan }
def State.onPunch (s : State) (f : Punch → Punch) : State := { s with punch := f s.punch }
def State.onStore (s : State) (f : Store → Store) : State := { s with store := f s.store }
def State.onLink (s : State) (f : Link → Link) : State := { s with link := f s.link }

/-! ## Events -/

/-- The eleven events in bit order (R187). -/
inductive Event where
  | locateDone
  | punchDone
  | fault
  | tapeEnd
  | reelIdentified
  | rebased
  | addressDropout
  | pairBroken
  | marksLost
  | referenceChange
  | storeDone
deriving DecidableEq, Repr

/-- The event's bit in the summary and the mask (R187). -/
def Event.bit : Event → BitVec 16
  | .locateDone      => 0x0001#16
  | .punchDone       => 0x0002#16
  | .fault           => 0x0004#16
  | .tapeEnd         => 0x0008#16
  | .reelIdentified  => 0x0010#16
  | .rebased         => 0x0020#16
  | .addressDropout  => 0x0040#16
  | .pairBroken      => 0x0080#16
  | .marksLost       => 0x0100#16
  | .referenceChange => 0x0200#16
  | .storeDone       => 0x0400#16

/-- Raise an event into the summary (R187): raising a latched one changes nothing. -/
def raise (e : Event) (s : State) : State := s.onLink fun l => { l with summary := l.summary ||| e.bit }

/-- Raise an event where `c` holds. -/
def raiseIf (c : Bool) (e : Event) (s : State) : State := if c then raise e s else s

/-- The event stands in the summary. -/
abbrev Latched (e : Event) (s : State) : Prop := s.link.summary &&& e.bit ≠ 0

/-- The SERVICE line is pulled low exactly when summary and mask share an event (R188); during the internal
reset it is released (R199). -/
def serviceLow (s : State) : Bool := !s.inReset && (s.link.summary &&& s.link.mask) != 0

/-! ## Result codes -/

/-- The result codes of R182. -/
inductive Code where
  | ok
  | clamped
  | busy
  | notEngaged
  | notReady
  | noTape
  | faulted
  | noPosition
  | range
  | full
  | noMark
  | protectedMark
  | order
  | guarded
  | imprecise
  | inUse
  | unlocked
  | noPermit
  | wrongUnit
  | badStation
deriving DecidableEq, Repr

/-- The code's character (R182). -/
def Code.number : Code → Nat
  | .ok            => 0x00
  | .clamped       => 0x01
  | .busy          => 0x02
  | .notEngaged    => 0x03
  | .notReady      => 0x04
  | .noTape        => 0x05
  | .faulted       => 0x06
  | .noPosition    => 0x07
  | .range         => 0x08
  | .full          => 0x09
  | .noMark        => 0x0A
  | .protectedMark => 0x0B
  | .order         => 0x0C
  | .guarded       => 0x0D
  | .imprecise     => 0x0E
  | .inUse         => 0x0F
  | .unlocked      => 0x10
  | .noPermit      => 0x11
  | .wrongUnit     => 0x12
  | .badStation    => 0x13

/-- What an owning block returns for a request: result code and reply payload (R182). -/
structure Resp where
  code    : Code
  payload : List Byte
deriving DecidableEq, Repr

/-- A refusal carries no payload unless its rule names one (R182). -/
def Resp.refuse (c : Code) : Resp where
  code    := c
  payload := []

/-- OK without a payload. -/
def Resp.ok : Resp where
  code    := .ok
  payload := []

/-- OK with a payload. -/
def Resp.okWith (p : List Byte) : Resp where
  code    := .ok
  payload := p

/-- OK, or CLAMPED where the request's own clamping applied. -/
def Resp.clampedIf (c : Bool) (p : List Byte) : Resp where
  code    := if c then .clamped else .ok
  payload := p

/-- Who a request came from, and whether as a broadcast (R181, R185). -/
structure Ctx where
  station   : Nat
  broadcast : Bool
deriving DecidableEq, Repr

/-- A request's effect in its owning block: the result and the state after it. -/
abbrev Handler := Ctx → State → Resp × State

end Sys2Proof.Machine
end

