-- ==== Sys2Proof/Machine/Fields.lean ====
section
/-!
DEFINITION. Fields: the fields payloads are built from (R183), written and read, most significant character first.
Where the spec leaves an encoding to a reading of its lists, log entry 11 says which.
-/

namespace Sys2Proof.Machine

/-! ## Writing -/

/-- A number of one character. -/
def n1 (x : Int) : List Byte := [BitVec.ofInt 8 x]

/-- A number of two characters, two's complement. -/
def n2 (x : Int) : List Byte :=
  [BitVec.ofNat 8 ((x % 65536).toNat / 256), BitVec.ofNat 8 ((x % 65536).toNat % 256)]

/-- A number of four characters, two's complement. -/
def n4 (x : Int) : List Byte :=
  [BitVec.ofNat 8 ((x % 4294967296).toNat / 16777216), BitVec.ofNat 8 ((x % 4294967296).toNat / 65536 % 256),
   BitVec.ofNat 8 ((x % 4294967296).toNat / 256 % 256), BitVec.ofNat 8 ((x % 4294967296).toNat % 256)]

/-- yes/no. -/
def yesNo (b : Bool) : List Byte := if b then [1#8] else [0#8]

/-- A two-valued enumeration whose first listed value holds when `b` does (R183: numbered from 0 as listed). -/
def firstOf (b : Bool) : List Byte := if b then [0#8] else [1#8]

/-- block:sample. -/
def addrField (a : Addr) : List Byte := n4 a.block ++ n2 a.sample

/-- An optional field. -/
def optField {α : Type} (f : α → List Byte) : Option α → List Byte
  | none => [0#8]
  | some a => 1#8 :: f a

/-- A list: one count character, then the elements. -/
def listField {α : Type} (f : α → List Byte) (l : List α) : List Byte := n1 l.length ++ l.flatMap f

/-- A label or name: one length character, then the characters. -/
def labelField (l : Label) : List Byte := n1 l.length ++ l

/-! ## Reading -/

/-- A reader takes its field from the front of the payload, or fails where the payload is too short. -/
abbrev Reader (α : Type) := List Byte → Option (α × List Byte)

def take1 : Reader Nat
  | a :: r => some (a.toNat, r)
  | [] => none

def take2 : Reader Nat
  | a :: b :: r => some (a.toNat * 256 + b.toNat, r)
  | _ => none

def take4 : Reader Nat
  | a :: b :: c :: d :: r => some (a.toNat * 16777216 + b.toNat * 65536 + c.toNat * 256 + d.toNat, r)
  | _ => none

/-- A signed number of two characters. -/
def takeSigned2 : Reader Int := fun ps =>
  match take2 ps with
  | some (x, r) => some (if x < 32768 then (x : Int) else (x : Int) - 65536, r)
  | none => none

/-- A signed number of four characters. -/
def takeSigned4 : Reader Int := fun ps =>
  match take4 ps with
  | some (x, r) => some (if x < 2147483648 then (x : Int) else (x : Int) - 4294967296, r)
  | none => none

def takeAddr : Reader Addr := fun ps =>
  match take4 ps with
  | some (b, r) =>
    match take2 r with
    | some (x, r') => some ({ block := b, sample := x }, r')
    | none => none
  | none => none

def takeLabel : Reader Label
  | n :: r => if n.toNat ≤ r.length then some (r.take n.toNat, r.drop n.toNat) else none
  | [] => none

end Sys2Proof.Machine
end

