-- ==== Sys2Proof/Machine/Operands.lean ====
section
/-!
DEFINITION. Operands: the values that request fields name (R183): enumerations numbered from 0 in the order in which the
owning rule lists them, choices, and labels; and the numbers that replies give the values of the state.
-/

namespace Sys2Proof.Machine

/-- The choice "first free" of MARK SET and MARK HERE, and ALL of DISARM (R183). -/
def choice : Nat := 255

/-- Mark kinds (R27). -/
def kindOf : Nat → Option MarkKind
  | 0 => some .cue
  | 1 => some .punchIn
  | 2 => some .punchOut
  | 3 => some .guardStart
  | 4 => some .guardEnd
  | _ => none

def MarkKind.number : MarkKind → Nat
  | .cue => 0
  | .punchIn => 1
  | .punchOut => 2
  | .guardStart => 3
  | .guardEnd => 4

/-- Track choices (R149, R153). -/
def tracksOf : Nat → Option Tracks
  | 0 => some .a
  | 1 => some .b
  | 2 => some .both
  | _ => none

def Tracks.number : Tracks → Nat
  | .a => 0
  | .b => 1
  | .both => 2

def Tracks.hasA : Tracks → Bool
  | .a => true
  | .b => false
  | .both => true

def Tracks.hasB : Tracks → Bool
  | .a => false
  | .b => true
  | .both => true

/-- A yes/no field; any other value is none (log entry 28). -/
def yesNoOf : Nat → Option Bool
  | 0 => some false
  | 1 => some true
  | _ => none

/-- SAFE or UNSAFE (R149): true is SAFE. -/
def safeOf : Nat → Option Bool
  | 0 => some true
  | 1 => some false
  | _ => none

/-- FORWARD or REVERSE (R72). -/
def dirOf : Nat → Option Dir
  | 0 => some .forward
  | 1 => some .reverse
  | _ => none

/-- Follow-ons of LOCATE (R80). -/
def followOnOf : Nat → Option FollowOn
  | 0 => some .stop
  | 1 => some .play
  | 2 => some .playOnTrigger
  | _ => none

def FollowOn.number : FollowOn → Nat
  | .stop => 0
  | .play => 1
  | .playOnTrigger => 2

/-- INTERNAL or WORD_CLOCK (R134). -/
def selectionOf : Nat → Option RefSel
  | 0 => some .internal
  | 1 => some .wordClock
  | _ => none

def RefSel.number : RefSel → Nat
  | .internal => 0
  | .wordClock => 1

def RefState.number : RefState → Nat
  | .internal => 0
  | .qualifying => 1
  | .external => 2
  | .fallback => 3

def Quality.number : Quality → Nat
  | .locked => 0
  | .reckoned => 1
  | .unknown => 2

def Cause.number : Cause → Nat
  | .tensionLoss => 0
  | .armLimit => 1
  | .speedRunaway => 2
  | .reelCurrent => 3
  | .capstanOverload => 4
  | .supplyLow => 5
  | .engageTimeout => 6

def LocPhase.number : LocPhase → Nat
  | .search => 0
  | .run => 1
  | .approach => 2
  | .creep => 3
  | .hold => 4

/-- HELD, in the phase field of LOCATE and LOCATE READ (log entry 11). -/
def heldNumber : Nat := 5

def LocEnd.number : LocEnd → Nat
  | .arrived => 0
  | .reckoned => 1
  | .inexact => 2
  | .noAddress => 3
  | .targetLost => 4
  | .superseded => 5
  | .stopped => 6
  | .endOfTape => 7
  | .holdExpired => 8
  | .fault => 9

def Judgement.number : Judgement → Nat
  | .arrived => 0
  | .reckoned => 1

def Judgement.toEnd : Judgement → LocEnd
  | .arrived => .arrived
  | .reckoned => .reckoned

def Stage.number : Stage → Nat
  | .idle => 0
  | .waiting => 1
  | .cleared => 2

def PunchResult.number : PunchResult → Nat
  | .done => 0
  | .lateIn => 1
  | .rehearsed => 2
  | .guarded => 3
  | .suppressed => 4
  | .uncleanOut => 5
  | .aborted => 6

def SaveResult.number : SaveResult → Nat
  | .none => 0
  | .done => 1
  | .failed => 2

/-- The mode character of the status payload (section 10.9). -/
def Mode.number : Mode → Nat
  | .empty => 0
  | .released => 1
  | .engaging => 2
  | .stopped _ => 3
  | .play _ => 4
  | .cue => 5
  | .wind => 6
  | .locate _ => 7
  | .stopping _ => 8
  | .releasing => 9
  | .halting => 10

/-- The phase character of the status payload (section 10.9). -/
def Mode.phaseNumber : Mode → Nat
  | .play .entry => 1
  | .play .run => 2
  | .locate .search => 3
  | .locate .run => 4
  | .locate .approach => 5
  | .locate .creep => 6
  | .locate .hold => 7
  | _ => 0

/-- The tension-level character of the status payload (section 10.9). -/
def Mode.levelNumber : Mode → Nat
  | .stopped .full => 1
  | .stopped .eased => 2
  | .stopped .restoring => 3
  | _ => 0

/-- The stop-kind character of the status payload (section 10.9). -/
def Mode.stopNumber : Mode → Nat
  | .stopping .normal => 1
  | .stopping .safe => 2
  | _ => 0

/-- A label's characters are 0x20 to 0x7E (R27, R33). -/
abbrev PlainLabel (l : Label) : Prop := ∀ c ∈ l, 0x20 ≤ c.toNat ∧ c.toNat ≤ 0x7E

/-- A label cut to its first 12 characters (R33). -/
def cutLabel (l : Label) : Label := l.take 12

/-- The label had to be cut (R33). -/
def labelCut (l : Label) : Bool := decide (12 < l.length)

end Sys2Proof.Machine
end

