-- ==== Sys2Proof/Machine/Ops.lean ====
section
/-!
DEFINITION. Ops: what the blocks publish to one another: the position estimate and quality (R13 to R15), the
current marks and their tick values (R29, R30), the active profile (R169), the tension setpoint (R107),
the deceleration limit (R88), and the output lines that follow the transport mode (R56, R111, R140).
-/

namespace Sys2Proof.Machine

/-! ## Position -/

/-- The loaded spb; 480 while the rate is NONE (R11). -/
def Rate.spb : Rate → Nat
  | .r44100 => 441
  | .r48000 => 480

def Tracker.spb (t : Tracker) : Nat :=
  match t.loaded with
  | none => 480
  | some r => Rate.spb r.rate

/-- The card's loaded spb. -/
def spb (s : State) : Nat := s.tracker.spb

/-- The loaded tag, `none` while ABSENT (R11). -/
def loadedTag (s : State) : Option Nat := s.tracker.loaded.map ReelId.tag

/-- The estimate on or beyond the segment from `a` to `b` (R13): below `a`, between them, or above `b`. -/
def onSegment (a b : Anchor) (c : Int) : Int :=
  if c < a.count then a.ticks - (a.count - c) * (b.ticks - a.ticks) / (b.count - a.count)
  else if c ≤ b.count then a.ticks + (c - a.count) * (b.ticks - a.ticks) / (b.count - a.count)
  else b.ticks + (c - b.count) * (b.ticks - a.ticks) / (b.count - a.count)

/-- E(C) before the clamp (R13). -/
def rawEstimate : List Anchor → Int → Int
  | [], c => c
  | [a], c => a.ticks + (c - a.count)
  | [a, b], c => onSegment a b c
  | a :: b :: d :: r, c => if c ≤ b.count then onSegment a b c else rawEstimate (b :: d :: r) c

/-- E(C) (R13). -/
def estimateAt (map : List Anchor) (c : Int) : Int := clampInt 0 Config.maxTick (rawEstimate map c)

/-- The current estimate E (R14). -/
def estimate (s : State) : Int := estimateAt s.tracker.map s.tracker.counter

/-- The live anchor (R12). -/
def liveAnchor (map : List Anchor) : Option Anchor := map.find? (·.live)

/-- The position quality (R15). -/
def quality (s : State) : Quality :=
  match liveAnchor s.tracker.map with
  | some a =>
    if mag (s.tracker.counter - a.count) ≤ 300 then .locked else .reckoned
  | none => if s.tracker.map = [] then .unknown else .reckoned

/-- The place at the heads as block:sample with the loaded spb (R14). -/
def placeHere (s : State) : Addr := addrOf (estimate s) (spb s)

/-! ## Marks -/

/-- The mark of number `n`, `none` for a FREE slot (R26). -/
def markAt (s : State) (n : Nat) : Option Mark := slotGet n s.marks

/-- The mark is current for the loaded reel (R29). -/
abbrev IsCurrent (s : State) (m : Mark) : Prop := m.tag = loadedTag s

/-- The tick value of a current mark (R30). -/
def tickValue (s : State) (m : Mark) : Int := tickOf m.addr (spb s)

/-- The tick value of mark `n`; a FREE slot has none and gives 0. -/
def markTick (s : State) (n : Nat) : Int :=
  match markAt s n with
  | some m => tickValue s m
  | none => 0

/-- The block of mark `n`'s address. -/
def markBlock (s : State) (n : Nat) : Nat :=
  match markAt s n with
  | some m => m.addr.block
  | none => 0

/-- The spread of a mark in blocks, 0 without one (R82, R150). -/
def spreadOf (m : Mark) : Int :=
  match m.spread with
  | some x => x
  | none => 0

/-- The mark is PROVISIONAL (R28). -/
def Mark.isProvisional (m : Mark) : Bool :=
  match m.standing with
  | .firm => false
  | .provisional _ => true

/-- The address-order view: numbers with tick values, by tick value and then by number (R30). -/
def view (s : State) : List (Nat × Int) :=
  sortByKey Prod.snd ((s.marks.filter fun p => IsCurrent s p.2).map fun p => (p.1, tickValue s p.2))

/-- The first mark at least one block ahead of E (R46, R81). -/
def findNext (s : State) : Option (Nat × Int) := (view s).find? fun p => estimate s + 100 ≤ p.2

/-- The last mark at least one block behind E (R46, R81). -/
def findPrevious (s : State) : Option (Nat × Int) := (view s).reverse.find? fun p => p.2 ≤ estimate s - 100

/-! ## Profile and tension -/

/-- The active profile (R169). -/
def activeProfile (s : State) : Profile := s.store.profiles.getD s.store.active Config.factoryProfile

/-- The profile's midpoint radius (R105). -/
def midpoint (p : Profile) : Int := ((p.hub : Int) + p.flange) / 2

/-- The tension setpoint of the mode as it stands (R107). -/
def tensionSetpoint (s : State) : Int :=
  match s.motion.mode with
  | .play _ => (activeProfile s).tPlay
  | .cue => (activeProfile s).tPlay
  | .locate .run => (activeProfile s).tWind
  | .locate _ => (activeProfile s).tPlay
  | .wind => (activeProfile s).tWind
  | .stopping _ => (activeProfile s).tWind
  | .stopped .full => (activeProfile s).tPlay
  | .stopped .eased => ((activeProfile s).tPlay : Int) / 2
  | .stopped .restoring => s.motion.setpoint
  | .engaging => s.motion.setpoint
  | .releasing => s.motion.setpoint
  | .halting => (activeProfile s).tWind
  | .empty => 0
  | .released => 0

/-- The deceleration limit a (R88). -/
def decelLimit (s : State) : Int :=
  let p := activeProfile s
  let rh := max s.servo.rSupply s.servo.rTakeUp
  let f := clampInt 0 1000 ((rh - p.hub) * 1000 / ((p.flange : Int) - p.hub))
  p.aLight - ((p.aLight : Int) - p.aFull) * f / 1000

/-! ## Modes and the lines that follow them -/

/-- PLAY RUN. -/
abbrev InRun (s : State) : Prop := s.motion.mode = .play .run

/-- The lifters' column of R56: true where the row calls for them up, `none` in STOPPING. -/
def Mode.liftersRow : Mode → Option Bool
  | .empty => some true
  | .released => some true
  | .engaging => some true
  | .stopped .full => some false
  | .stopped .eased => some true
  | .stopped .restoring => some true
  | .play _ => some false
  | .cue => some false
  | .wind => some true
  | .locate .run => some true
  | .locate _ => some false
  | .stopping _ => none
  | .releasing => some true
  | .halting => some true

/-- The brakes' column of R56: true where they are applied. -/
def Mode.brakesRow : Mode → Bool
  | .empty => true
  | .released => true
  | .halting => true
  | _ => false

/-- The modes in which both torques are forced to zero and the drives disabled (R111). -/
def Mode.forcedZero : Mode → Bool
  | .empty => true
  | .released => true
  | .halting => true
  | _ => false

/-- The engaged set of R113. -/
def Mode.engaged : Mode → Bool
  | .stopped _ => true
  | .play _ => true
  | .cue => true
  | .wind => true
  | .locate _ => true
  | .stopping _ => true
  | _ => false

/-- The capstan is enabled (R140). -/
def Mode.capstanOn : Mode → Bool
  | .stopped _ => true
  | .play _ => true
  | .cue => true
  | .wind => true
  | .locate _ => true
  | .stopping .normal => true
  | _ => false

/-- The capstan lines as the mode, v_ref and the correction stand (R140, R142). -/
def driveCapstan (s : State) : State :=
  s.onCapstan fun c =>
    { c with
      enable := s.motion.mode.capstanOn
      command :=
        if s.motion.mode.capstanOn then
          if s.motion.mode = .play .run then c.vRef + c.correction else c.vRef
        else 0 }

/-- UNLOCKED with both counts 0 (R143). -/
def unlockCapstan (s : State) : State :=
  s.onCapstan fun c => { c with lock := false, lockCount := 0, missed := 0 }

/-- The solenoids at entry to a mode (R56, R57): raised at once where the row calls for it, lowered only by a
profile update, left as they are in STOPPING. -/
def solenoids (m : Mode) (s : State) : State :=
  s.onMotion fun x =>
    { x with
      mode := m
      liftersUp := if m.liftersRow = some true then true else x.liftersUp
      pinchIn := decide (m = .play .run)
      brakesOn := m.brakesRow }

/-- The reel lines at entry to a mode (R111): forced zero with no slew. -/
def reelLines (m : Mode) (s : State) : State :=
  if m.forcedZero then s.onServo fun v => { v with cmdSupply := 0, cmdTakeUp := 0, drives := false } else s

/-- At the end of ENGAGING the ready count returns to 0 and the ramp-complete flag is cleared (R112). -/
def endEngaging (m : Mode) (s : State) : State :=
  if s.motion.mode = .engaging ∧ m ≠ .engaging then s.onServo fun v => { v with ready := 0, rampDone := false } else s

/-- Lowering of the lifters (R57): at a profile update at which the mode's row calls for them down and both speeds
are within the head-contact ceiling. -/
def lowerLifters (s : State) : State :=
  if s.motion.mode.liftersRow = some false ∧ mag s.servo.vMeas ≤ Config.headContact ∧ mag s.motion.vCmd ≤ Config.headContact
  then s.onMotion fun x => { x with liftersUp := false }
  else s

end Sys2Proof.Machine
end

