-- ==== Sys2Proof/Machine/Punch.lean ====
section
/-!
DEFINITION. Punch: the Punch Unit (chapter 8): guard zones, gate conditions and drops, the armed list, the position
test and the block-edge event, manual record, and the unit's requests.
-/

namespace Sys2Proof.Machine

/-! ## Guard zones (R150) -/

/-- A position lies in a zone. -/
abbrev InZone (z : Zone) (t : Int) : Prop := z.low ≤ t ∧ t ≤ z.high

/-- A stretch overlaps a zone. -/
abbrev OverlapsZone (lo hi : Int) (z : Zone) : Prop := z.low ≤ hi ∧ lo ≤ z.high

/-- A position lies in some zone of the set. -/
abbrev InGuard (s : State) (t : Int) : Prop := ∃ z ∈ s.punch.zones, InZone z t

/-- A stretch overlaps some zone of the set. -/
abbrev OverlapsGuard (s : State) (lo hi : Int) : Prop := ∃ z ∈ s.punch.zones, OverlapsZone lo hi z

/-- A zone with its bounds clamped. -/
def makeZone (lo hi : Int) (marks : List Nat) : Zone where
  low   := clampInt 0 Config.maxTick lo
  high  := clampInt 0 Config.maxTick hi
  marks := marks

/-- The zone a current guard mark forms: a pair's zone is formed by its start mark (log entry 21). -/
def zoneOf (s : State) (n : Nat) (m : Mark) : List Zone :=
  match m.kind with
  | .guardStart =>
    match m.partner with
    | none => [makeZone (tickValue s m - 100 * spreadOf m) Config.maxTick [n]]
    | some p =>
      match markAt s p with
      | some e => [makeZone (tickValue s m - 100 * spreadOf m) (tickValue s e + 100 * spreadOf e) [n, p]]
      | none => [makeZone (tickValue s m - 100 * spreadOf m) Config.maxTick [n]]
  | .guardEnd =>
    match m.partner with
    | none => [makeZone 0 (tickValue s m + 100 * spreadOf m) [n]]
    | some _ => []
  | _ => []

/-- The guard zone set of the Mark Table as it stands. -/
def zonesOf (s : State) : List Zone :=
  s.marks.flatMap fun p => if IsCurrent s p.2 then zoneOf s p.1 p.2 else []

/-- Recompute the set. -/
def recomputeZones (s : State) : State := s.onPunch fun p => { p with zones := zonesOf s }

/-- The lowest low bound among the zones that start above `t` (and at or below `top`, where given). -/
def lowestAbove (zones : List Zone) (t : Int) (top : Option Int) : Option Int :=
  zones.foldl
    (fun acc z =>
      if t < z.low ∧ (∀ h ∈ top, z.low ≤ h) then
        match acc with
        | none => some z.low
        | some a => some (min a z.low)
      else acc)
    none

/-! ## Entries (R152) -/

def entryIn (s : State) (e : Entry) : Int := markTick s e.inMark
def entryOut (s : State) (e : Entry) : Int := markTick s e.outMark

/-- The upper end of an entry's range. -/
def entryTop (s : State) (e : Entry) : Int := entryOut s e + 100

/-- The lead point. -/
def leadPoint (s : State) (e : Entry) : Int := entryIn s e - 200

/-- Two entries' ranges overlap. -/
abbrev RangesOverlap (s : State) (e f : Entry) : Prop := entryIn s e ≤ entryTop s f ∧ entryIn s f ≤ entryTop s e

def Entry.isActive (e : Entry) : Bool :=
  match e.state with
  | .active _ _ _ => true
  | _ => false

def Entry.isArmed (e : Entry) : Bool :=
  match e.state with
  | .armed _ _ => true
  | _ => false

/-- The ACTIVE entry; by the law of R152 there is at most one. -/
def activeEntry (s : State) : Option Entry := s.punch.entries.find? (·.isActive)

/-- The entry with this in-mark. -/
def entryFor (s : State) (n : Nat) : Option Entry := s.punch.entries.find? fun e => decide (e.inMark = n)

/-- `e` in place of the entry with its in-mark. -/
def putEntry (e : Entry) (l : List Entry) : List Entry := l.map fun x => if x.inMark = e.inMark then e else x

/-- The list in order of in tick. -/
def orderEntries (s : State) (l : List Entry) : List Entry := sortByKey (entryIn s) l

/-- The stage an ARMED entry takes afresh (R152): the test at entry to PLAY RUN. -/
def freshStage (s : State) (e : Entry) : Stage :=
  if InRun s ∧ estimate s < leadPoint s e then .waiting else .idle

/-- An ARMED entry takes its stage afresh; `missed` stays. -/
def restage (s : State) (e : Entry) : Entry :=
  match e.state with
  | .armed _ missed => { e with state := .armed (freshStage s e) missed }
  | _ => e

/-- An entry becomes COMPLETE (R159): the last completion record is replaced and PUNCH_DONE raised. -/
def completeEntry (e : Entry) (r : PunchResult) (ain aout : Option Addr) (s : State) : State :=
  raise .punchDone <| s.onPunch fun p =>
    { p with
      entries := putEntry { e with state := .complete r ain aout } p.entries
      last := some { inMark := e.inMark, outMark := e.outMark, tracks := e.tracks, rehearse := e.rehearse,
                     result := r, actualIn := ain, actualOut := aout } }

/-! ## Lines and drops (R148, R151) -/

abbrev GateOn (s : State) : Prop := s.punch.gateA = true ∨ s.punch.gateB = true
abbrev MonitorOn (s : State) : Prop := s.punch.monA = true ∨ s.punch.monB = true

/-- Every gate that is on turns off, latched with the offset. -/
def closeGates (offset : Nat) (s : State) : State :=
  if GateOn s then s.onPunch fun p => { p with gateA := false, gateB := false, offset := offset } else s

/-- Both monitors turn off, latched with the offset. -/
def closeMonitors (offset : Nat) (s : State) : State :=
  if MonitorOn s then s.onPunch fun p => { p with monA := false, monB := false, offset := offset } else s

/-- At least one selected track is UNSAFE (R156). -/
abbrev TrackFree (s : State) (t : Tracks) : Prop :=
  (t.hasA = true ∧ s.punch.safeA = false) ∨ (t.hasB = true ∧ s.punch.safeB = false)

/-- The conditions gates and monitors share (R151): PLAY RUN, capstan LOCKED, quality LOCKED, outside every zone. -/
abbrev MonitorConditions (s : State) : Prop :=
  InRun s ∧ s.capstan.lock = true ∧ quality s = .locked ∧ ¬ InGuard s (estimate s)

/-- A gate condition fails while a gate is on (R151). -/
abbrev GateLost (s : State) : Prop :=
  GateOn s ∧ ¬ (MonitorConditions s ∧ s.punch.permit = true ∧
    (s.punch.gateA = true → s.punch.safeA = false) ∧ (s.punch.gateB = true → s.punch.safeB = false))

/-- A monitor condition fails while a monitor line is on (R151). -/
abbrev MonitorLost (s : State) : Prop := MonitorOn s ∧ ¬ MonitorConditions s

/-- A gate condition that a pending manual record needs has failed (R165). -/
abbrev PendingLost (s : State) : Prop := ¬ (MonitorConditions s ∧ s.punch.permit = true)

/-- End the ACTIVE entry, if it is one of the given sort (rehearsal or not), with result ABORTED: the closes of R158, at the
position test and at a block edge, end the entry themselves before the conditions are judged. The actual out is the
estimate at that moment (log entry 30). -/
def endActive (rehearsal : Bool) (s : State) : State :=
  match activeEntry s with
  | some e =>
    match e.state with
    | .active _ _ ain =>
      if e.rehearse = rehearsal then completeEntry e .aborted (some ain) (some (placeHere s)) s else s
    | _ => s
  | none => s

/-- Manual record ends (R165). -/
def manualOff (s : State) : State := s.onPunch fun p => { p with manual := .off }

/-- The asynchronous drop of the gates (R151). -/
def dropGates (s : State) : State := manualOff (endActive false (closeGates 0 s))

/-- The drop of the monitors of a rehearsal (R151). -/
def dropMonitors (s : State) : State := endActive true (closeMonitors 0 s)

/-- A pending manual record is given up where a condition it needs has failed (R165). -/
def dropPending (s : State) : State :=
  match s.punch.manual with
  | .pendingOn _ => if PendingLost s then manualOff s else s
  | _ => s

/-- What a change of any gate condition brings about in the step that makes it (R151). -/
def gateGuard (s : State) : State :=
  let s := if GateLost s then dropGates s else s
  let s := if MonitorLost s then dropMonitors s else s
  dropPending s

/-- The ACTIVE entry ended by an asynchronous drop with result ABORTED (R154, R161, R162). -/
def abortActive (s : State) : State :=
  dropMonitors (if ∃ e ∈ activeEntry s, e.rehearse = false then dropGates s else s)

/-! ## Recomputation and its reactions (R161, R164) -/

/-- The drop point of an entry now (R161). -/
def formDrop (s : State) (e : Entry) : Option Int := lowestAbove s.punch.zones (estimate s) (some (entryTop s e))

/-- One entry judged against a new set: an ARMED one whose range overlaps a zone is GUARDED; the ACTIVE one ends ABORTED at its
place in the list where a zone holds the present estimate, and has its drop point formed again otherwise. -/
def judgeEntry (s : State) (n : Nat) : State :=
  match entryFor s n with
  | some e =>
    match e.state with
    | .armed _ _ => if OverlapsGuard s (entryIn s e) (entryTop s e) then completeEntry e .guarded none none s else s
    | .active late _ ain =>
      if InGuard s (estimate s) then abortActive s
      else s.onPunch fun p => { p with entries := putEntry { e with state := .active late (formDrop s e) ain } p.entries }
    | .complete _ _ _ => s
  | none => s

/-- The manual drop point formed again while ON or PENDING_OFF (R164). -/
def reformManual (s : State) : State :=
  match s.punch.manual with
  | .on t _ => s.onPunch fun p => { p with manual := .on t (lowestAbove p.zones (estimate s) none) }
  | .pendingOff t _ => s.onPunch fun p => { p with manual := .pendingOff t (lowestAbove p.zones (estimate s) none) }
  | _ => s

/-- The in-marks of the list, in list order: the entries a step takes one after another. -/
def entryKeys (s : State) : List Nat := s.punch.entries.map Entry.inMark

/-- The set recomputed, every entry judged in list order, and manual record judged on the new set. -/
def guardReact (s : State) : State :=
  let s := recomputeZones s
  let s := (entryKeys s).foldl judgeEntry s
  gateGuard (reformManual s)

/-! ## Removal and range updates (R160, R162) -/

/-- The entry with this in-mark removed, an ACTIVE one ended first (R154, R162). -/
def removeEntry (n : Nat) (s : State) : State :=
  let s := if ∃ e ∈ entryFor s n, e.isActive = true then abortActive s else s
  s.onPunch fun p => { p with entries := p.entries.filter fun e => e.inMark ≠ n }

/-- The entries that mark `n` belongs to are removed (R162). -/
def removeEntriesOf (s : State) (n : Nat) : State :=
  ((s.punch.entries.filter fun e => e.inMark = n ∨ e.outMark = n).map Entry.inMark).foldl (fun s k => removeEntry k s) s

/-- A moved entry is removed if its range overlaps that of an entry still in the list (R160). -/
def dropOverlapping (s : State) (n : Nat) : State :=
  match entryFor s n with
  | some e =>
    if ∃ f ∈ s.punch.entries, f.inMark ≠ n ∧ RangesOverlap s e f then
      s.onPunch fun p => { p with entries := p.entries.filter fun f => f.inMark ≠ n }
    else s
  | none => s

/-- Address or claiming changes of the given marks, taken by the armed list (R160). -/
def moveEntries (moved : List Nat) (s : State) : State :=
  let touched := fun e : Entry => e.isActive = false ∧ (e.inMark ∈ moved ∨ e.outMark ∈ moved)
  if ∃ e ∈ s.punch.entries, touched e then
    let keys := (orderEntries s (s.punch.entries.filter fun e => touched e)).map Entry.inMark
    let s := keys.foldl dropOverlapping s
    s.onPunch fun p =>
      { p with entries := orderEntries s (p.entries.map fun e => if e.inMark ∈ keys then restage s e else e) }
  else s

/-! ## PLAY RUN entered and left (R152, R163) -/

/-- At entry to PLAY RUN every ARMED entry takes its stage. -/
def enterRunPunch (s : State) : State := s.onPunch fun p => { p with entries := p.entries.map (restage s) }

/-- An ARMED entry becomes IDLE and keeps its missed flag. -/
def idleEntry (e : Entry) : Entry :=
  match e.state with
  | .armed _ missed => { e with state := .armed .idle missed }
  | _ => e

/-- Leaving PLAY RUN: the pass ends (R163). -/
def leaveRunPunch (s : State) : State :=
  let s := dropMonitors (dropGates s)
  s.onPunch fun p => { p with entries := p.entries.map idleEntry }

/-! ## Lead check, punch-in, misses (R156, R157) -/

/-- The tests of the lead check and of punch-in other than guard clearance. -/
abbrev PunchTests (s : State) (e : Entry) : Prop :=
  InRun s ∧ s.capstan.lock = true ∧ quality s = .locked ∧ s.punch.manual = .off ∧
  (e.rehearse = true ∨ (s.punch.permit = true ∧ TrackFree s e.tracks))

/-- The lead check of one WAITING entry whose lead point has been reached (R156). -/
def leadCheck (s : State) (n : Nat) : State :=
  match entryFor s n with
  | some e =>
    match e.state with
    | .armed .waiting missed =>
      if leadPoint s e ≤ estimate s then
        if OverlapsGuard s (entryIn s e) (entryTop s e) ∨ InGuard s (estimate s) then completeEntry e .guarded none none s
        else if PunchTests s e then
          s.onPunch fun p => { p with entries := putEntry { e with state := .armed .cleared missed } p.entries }
        else completeEntry e .suppressed none none s
      else s
    | _ => s
  | none => s

/-- The gates or monitors of an entry open (R157), and it becomes ACTIVE with its drop point formed. The offset replaces that of
a close made earlier in the same event (the model's choice, log entry 37). -/
def openEntry (e : Entry) (late : Bool) (ain : Addr) (offset : Nat) (s : State) : State :=
  s.onPunch fun p =>
    { p with
      gateA := if e.rehearse then p.gateA else e.tracks.hasA && !p.safeA
      gateB := if e.rehearse then p.gateB else e.tracks.hasB && !p.safeB
      monA := if e.rehearse then e.tracks.hasA else p.monA
      monB := if e.rehearse then e.tracks.hasB else p.monB
      offset := offset
      entries := putEntry { e with state := .active late (formDrop s e) ain } p.entries }

/-- Punch-in of one CLEARED entry on the read of block `b` (R157). While another entry is ACTIVE it waits, still CLEARED, for
the next read, late: R152 lets one be ACTIVE (the model's choice, log entry 20). -/
def punchIn (b : Nat) (s : State) (n : Nat) : State :=
  match entryFor s n with
  | some e =>
    match e.state with
    | .armed .cleared _ =>
      if b = markBlock s n ∨ b = markBlock s n + 1 ∨ b = markBlock s n + 2 then
        if InGuard s (estimate s) then completeEntry e .guarded none none s
        else if ¬ PunchTests s e then completeEntry e .suppressed none none s
        else if activeEntry s ≠ none then s
        else
          match markAt s n with
          | some m =>
            if b = markBlock s n then openEntry e false m.addr m.addr.sample s
            else openEntry e true { block := b, sample := 0 } 0 s
          | none => s
      else s
    | _ => s
  | none => s

/-- A WAITING or CLEARED entry that has passed its miss limit becomes IDLE with missed set (R157). -/
def missEntry (passed : State → Entry → Bool) (s : State) (n : Nat) : State :=
  match entryFor s n with
  | some e =>
    match e.state with
    | .armed .idle _ => s
    | .armed _ _ =>
      if passed s e then s.onPunch fun p => { p with entries := putEntry { e with state := .armed .idle true } p.entries } else s
    | _ => s
  | none => s

/-- The miss limit of the position test. -/
def passedByPosition (s : State) (e : Entry) : Bool := decide (((markBlock s e.inMark : Int) + 3) * 100 ≤ estimate s)

/-- The miss limit of a block-edge event. -/
def passedByBlock (b : Nat) (s : State) (e : Entry) : Bool := decide (markBlock s e.inMark + 2 < b)

/-! ## Punch-out (R158) -/

/-- The entry's gates or monitors turn off with the offset, and it becomes COMPLETE. -/
def closeEntry (e : Entry) (r : PunchResult) (ain aout : Addr) (offset : Nat) (s : State) : State :=
  completeEntry e r (some ain) (some aout) (if e.rehearse then closeMonitors offset s else closeGates offset s)

/-- The result of a synchronous out. -/
def outResult (e : Entry) (late : Bool) : PunchResult :=
  if e.rehearse then .rehearsed else if late then .lateIn else .done

/-- The ACTIVE entry at the position test. -/
def activePosition (s : State) : State :=
  match activeEntry s with
  | some e =>
    match e.state with
    | .active _ (some d) ain => if d ≤ estimate s then closeEntry e .uncleanOut ain (placeHere s) 0 s else s
    | .active _ none ain =>
      if entryOut s e + 50 ≤ estimate s then closeEntry e .uncleanOut ain (placeHere s) 0 s else s
    | _ => s
  | none => s

/-- The ACTIVE entry at the block-edge event of block `b` (R158). The read of the drop point's own block with the estimate at
or beyond the drop point closes nothing here: the gate conditions judged next end the entry ABORTED (the model's choice,
log entry 15). -/
def activeEdge (b : Nat) (s : State) : State :=
  match activeEntry s with
  | some e =>
    match e.state with
    | .active late drop ain =>
      if b < markBlock s e.inMark then closeEntry e .aborted ain (placeHere s) 0 s
      else
        match drop with
        | some d =>
          if b = blockOf d ∧ estimate s < d then closeEntry e .guarded ain (addrOf d (spb s)) (sampleOf d (spb s)) s
          else if blockOf d < b then closeEntry e .uncleanOut ain (placeHere s) 0 s
          else s
        | none =>
          match markAt s e.outMark with
          | some m =>
            if b = m.addr.block then closeEntry e (outResult e late) ain m.addr m.addr.sample s
            else if m.addr.block < b then closeEntry e .uncleanOut ain (placeHere s) 0 s
            else s
          | none => s
    | _ => s
  | none => s

/-! ## Manual record at its two events (R164, R165) -/

/-- The manual gates turn off with the offset, and the state becomes OFF. -/
def closeManual (offset : Nat) (s : State) : State := manualOff (closeGates offset s)

/-- The position test at the manual drop point (R164). -/
def manualPosition (s : State) : State :=
  match s.punch.manual with
  | .on _ (some d) => if d ≤ estimate s then closeManual 0 s else s
  | .pendingOff _ (some d) => if d ≤ estimate s then closeManual 0 s else s
  | _ => s

/-- The block-edge event at the manual state. PENDING_OFF ends with offset 0 at any block (R165), the drop point's own block
included: R164's close on the drop point's sample is kept to ON (the model's choice, log entry 31). -/
def manualEdge (b : Nat) (s : State) : State :=
  match s.punch.manual with
  | .pendingOn t =>
    if MonitorConditions s ∧ s.punch.permit = true ∧ TrackFree s t then
      s.onPunch fun p =>
        { p with
          gateA := t.hasA && !p.safeA
          gateB := t.hasB && !p.safeB
          offset := 0
          manual := .on t (lowestAbove p.zones (estimate s) none) }
    else manualOff s
  | .on _ (some d) =>
    if b = blockOf d ∧ estimate s < d then closeManual (sampleOf d (spb s)) s
    else if blockOf d < b then closeManual 0 s
    else s
  | .pendingOff _ _ => closeManual 0 s
  | _ => s

/-! ## The two events of a pass -/

/-- The position test at a roller count (R155). -/
def positionTest (s : State) : State :=
  if InRun s then
    let s := manualPosition (activePosition s)
    let s := gateGuard s
    let s := (entryKeys s).foldl leadCheck s
    (entryKeys s).foldl (missEntry passedByPosition) s
  else s

/-- The block-edge event of an accepted read (R21, R156 to R158, R164). As at the position test, the closes of R158 come
before the gate conditions are judged on the new estimate: a read beyond the out or drop block ends UNCLEAN_OUT also where
the estimate now lies in the zone (R158, R159; log entry 14). Where one event closes lines and then opens another entry's,
the offset of the opening stands: R148 has one offset serve both and leaves open which (the model's choice, log entry 37). -/
def blockEdge (b : Nat) (s : State) : State :=
  if InRun s then
    let s := gateGuard (activeEdge b (manualEdge b s))
    let s := (entryKeys s).foldl leadCheck s
    let s := (entryKeys s).foldl (punchIn b) s
    (entryKeys s).foldl (missEntry (passedByBlock b)) s
  else s

/-! ## Reset and unthread (R167) -/

/-- The armed list emptied, gates and monitors off with offset 0, manual record OFF. -/
def clearPunch (s : State) : State :=
  s.onPunch fun p =>
    { p with gateA := false, gateB := false, monA := false, monB := false, offset := 0, entries := [], manual := .off }

/-! ## Requests of unit 2 -/

/-- An entry as ARM makes it, its stage taken afresh. -/
def armedEntry (s : State) (n out : Nat) (t : Tracks) (rehearse : Bool) : Entry :=
  restage s { inMark := n, outMark := out, tracks := t, rehearse := rehearse, state := .armed .idle false }

/-- ARM's checks 5 to 9 and its effect, once both marks are known (R153). -/
def armPair (n out : Nat) (t : Tracks) (rehearse : Bool) (s : State) : Resp × State :=
  let e := armedEntry s n out t rehearse
  let others := s.punch.entries.filter fun f => f.inMark ≠ n
  if OverlapsGuard s (entryIn s e) (entryTop s e) then (.refuse .guarded, s)
  else if ∃ f ∈ others, RangesOverlap s e f then (.refuse .order, s)
  else if entryFor s n = none ∧ Config.maxEntries ≤ s.punch.entries.length then (.refuse .full, s)
  else if rehearse = false ∧ s.punch.permit = false then (.refuse .noPermit, s)
  else if rehearse = false ∧ ¬ TrackFree s t then (.refuse .protectedMark, s)
  else (.ok, s.onPunch fun p => { p with entries := orderEntries s (others ++ [e]) })

/-- The in-mark is one a punch can be armed on (R153, check 3): its out-mark. -/
def armPartner (s : State) (n : Nat) : Option (Mark × Nat) :=
  match markAt s n with
  | some m =>
    if IsCurrent s m ∧ m.kind = .punchIn then
      match m.partner with
      | some p => some (m, p)
      | none => none
    else none
  | none => none

/-- A mark is PROVISIONAL or carries a spread (R153, check 4). -/
def Mark.imprecise (m : Mark) : Bool := m.isProvisional || m.spread.isSome

/-- ARM (R153). -/
def reqArm (n tracks rehearse : Nat) : Handler := fun _ s =>
  match tracksOf tracks, yesNoOf rehearse with
  | some t, some r =>
    if 99 < n then (.refuse .range, s)
    else if ∃ e ∈ entryFor s n, e.isActive = true then (.refuse .inUse, s)
    else
      match armPartner s n with
      | some (m, p) =>
        if m.imprecise = true ∨ ∃ o ∈ markAt s p, o.imprecise = true then (.refuse .imprecise, s)
        else armPair n p t r s
      | none => (.refuse .noMark, s)
  | _, _ => (.refuse .range, s)

/-- DISARM (R154). -/
def reqDisarm (n : Nat) : Handler := fun _ s =>
  if n = choice then (.ok, (entryKeys s).foldl (fun s k => removeEntry k s) s)
  else if 99 < n then (.refuse .range, s)
  else if entryFor s n = none then (.refuse .noMark, s)
  else (.ok, removeEntry n s)

/-- SAFE (R149). -/
def reqSafe (tracks setting : Nat) : Handler := fun _ s =>
  match tracksOf tracks, safeOf setting with
  | some t, some x =>
    (.ok, gateGuard (s.onPunch fun p =>
      { p with safeA := if t.hasA then x else p.safeA, safeB := if t.hasB then x else p.safeB }))
  | _, _ => (.refuse .range, s)

/-- RECORD ON (R164). -/
def reqRecordOn (tracks : Nat) : Handler := fun _ s =>
  match tracksOf tracks with
  | none => (.refuse .range, s)
  | some t =>
    if ¬ InRun s then (.refuse .notEngaged, s)
    else if activeEntry s ≠ none ∨ s.punch.manual ≠ .off then (.refuse .busy, s)
    else if s.capstan.lock = false ∨ quality s ≠ .locked then (.refuse .unlocked, s)
    else if s.punch.permit = false then (.refuse .noPermit, s)
    else if ¬ TrackFree s t then (.refuse .protectedMark, s)
    else if InGuard s (estimate s) then (.refuse .guarded, s)
    else (.ok, s.onPunch fun p => { p with manual := .pendingOn t })

/-- RECORD OFF (R165). -/
def reqRecordOff : Handler := fun _ s =>
  match s.punch.manual with
  | .pendingOn _ => (.ok, manualOff s)
  | .on t d => (.ok, s.onPunch fun p => { p with manual := .pendingOff t d })
  | _ => (.ok, s)

/-! ## PUNCH READ (R166) -/

def optAddr (a : Option Addr) : List Byte := optField addrField a

/-- An entry with every field of R152 that is present, its in tick, out tick and lead point. -/
def entryField (s : State) (e : Entry) : List Byte :=
  n1 e.inMark ++ n1 e.outMark ++ n1 e.tracks.number ++ yesNo e.rehearse ++
  (match e.state with
   | .armed stage missed =>
     n1 0 ++ optField (fun x : Stage => n1 x.number) (some stage) ++ optField yesNo (some missed) ++ optField yesNo none ++
     optField n4 none ++ optField n1 none ++ optAddr none ++ optAddr none
   | .active late drop _ =>
     n1 1 ++ optField n1 none ++ optField yesNo none ++ optField yesNo (some late) ++ optField n4 drop ++
     optField n1 none ++ optAddr none ++ optAddr none
   | .complete r ain aout =>
     n1 2 ++ optField n1 none ++ optField yesNo none ++ optField yesNo none ++ optField n4 none ++
     optField (fun x : PunchResult => n1 x.number) (some r) ++ optAddr ain ++ optAddr aout) ++
  n4 (entryIn s e) ++ n4 (entryOut s e) ++ n4 (leadPoint s e)

/-- Manual state, its tracks and the manual drop point if any. The tracks are an optional field, absent while the state is OFF
(R164 and R166 leave open whether OFF has tracks: the model's choice, log entry 31). -/
def manualField : Manual → List Byte
  | .off => n1 0 ++ optField n1 none ++ optField n4 none
  | .pendingOn t => n1 1 ++ optField n1 (some t.number) ++ optField n4 none
  | .on t d => n1 2 ++ optField n1 (some t.number) ++ optField n4 d
  | .pendingOff t d => n1 3 ++ optField n1 (some t.number) ++ optField n4 d

def zoneField (z : Zone) : List Byte := n4 z.low ++ n4 z.high ++ listField (fun n : Nat => n1 n) z.marks

def completionField (c : Completion) : List Byte :=
  n1 c.inMark ++ n1 c.outMark ++ n1 c.tracks.number ++ yesNo c.rehearse ++ n1 c.result.number ++
  optAddr c.actualIn ++ optAddr c.actualOut

/-- PUNCH READ (R166). -/
def reqPunchRead : Handler := fun _ s =>
  (.okWith (listField (entryField s) s.punch.entries ++
    firstOf s.punch.gateA ++ firstOf s.punch.gateB ++ firstOf s.punch.monA ++ firstOf s.punch.monB ++ n2 s.punch.offset ++
    firstOf s.punch.safeA ++ firstOf s.punch.safeB ++ firstOf s.punch.permit ++ manualField s.punch.manual ++
    listField zoneField s.punch.zones ++ optField completionField s.punch.last), s)

end Sys2Proof.Machine
end

