-- ==== Sys2Proof/Machine/Transport.lean ====
section
/-!
DEFINITION. Transport: a change of transport mode with all that follows from it in the same step (R56, R111, R112, R140,
R143, R152, R163); the end of a locate and its result record (R98); the target of a locate and how it follows its
mark (R82, R85 to R87); and the stops that orders and causes bring (R64, R67, R77, R78).
-/

namespace Sys2Proof.Machine

/-! ## Mode changes -/

/-- Leaving PLAY RUN: the pass ends in the Punch Unit (R163), the lock is UNLOCKED and the correction discarded
(R142, R143). -/
def leaveRun (s : State) : State :=
  (unlockCapstan (leaveRunPunch s)).onCapstan fun c => { c with correction := 0 }

/-- Entering PLAY RUN: lock UNLOCKED with both counts 0, correction 0, and each ARMED entry takes its stage. -/
def enterRun (s : State) : State :=
  enterRunPunch ((unlockCapstan s).onCapstan fun c => { c with correction := 0 })

/-- The mode becomes `m`, with everything that the change brings about in the step that makes it. -/
def enterMode (m : Mode) (s : State) : State :=
  let wasRun := s.motion.mode = .play .run
  let s := if wasRun ∧ m ≠ .play .run then leaveRun s else s
  let s := reelLines m (solenoids m (endEngaging m s))
  let s := if ¬ wasRun ∧ m = .play .run then enterRun s else s
  driveCapstan s

/-- STOPPED FULL entered: the idle timer starts at 0 (R65). -/
def enterStoppedFull (s : State) : State :=
  (enterMode (.stopped .full) s).onMotion fun x => { x with idle := 0 }

/-- STOPPING entered: the stationary count starts at 0 (R68). -/
def enterStopping (k : StopKind) (s : State) : State :=
  (enterMode (.stopping k) s).onMotion fun x => { x with still := 0 }

/-- RELEASING entered from the setpoint in force (R64; log entry 16). -/
def enterReleasing (s : State) : State :=
  let t0 := tensionSetpoint s
  (enterMode .releasing s).onMotion fun x => { x with releaseStart := t0, releaseK := 0, setpoint := t0, restoreK := 0 }

/-- RELEASED entered: the tape-path timer starts at 0 (R60). -/
def enterReleased (s : State) : State :=
  (enterMode .released s).onMotion fun x => { x with tapeTimer := 0 }

/-- PLAY ENTRY entered: its count begins again (R69). -/
def enterPlay (s : State) : State :=
  (enterMode (.play .entry) s).onMotion fun x => { x with entryCount := 0 }

/-! ## The end of a locate (R98) -/

/-- The mark number of a target. -/
def Target.markNumber : Target → Option Nat
  | .mark n => some n
  | .address _ => none

/-- The result record of a locate that ends now. -/
def locResult (r : LocEnd) (c : LocCtx) (s : State) : LocResult where
  targetTick := c.targetTick
  mark       := c.target.markNumber
  result     := r
  error      := if quality s = .unknown then none else some (estimate s - c.targetTick)
  reversals  := c.reversals

/-- The record written and LOCATE_DONE raised. -/
def writeResult (r : LocEnd) (c : LocCtx) (s : State) : State :=
  raise .locateDone (s.onMotion fun x => { x with result := some (locResult r c s) })

/-- A locate in progress, if any, ends with result `r`; its context is discarded. -/
def endLocate (r : LocEnd) (s : State) : State :=
  match s.motion.loc with
  | some c => (writeResult r c s).onMotion fun x => { x with loc := none }
  | none => s

/-- The pending request is dropped; a held LOCATE ends with result `r` (R66, R84). -/
def dropHeld (r : LocEnd) (s : State) : State :=
  match s.motion.held with
  | some (.locate c) => (writeResult r c s).onMotion fun x => { x with held := none }
  | some _ => s.onMotion fun x => { x with held := none }
  | none => s

/-! ## Targets (R82) -/

/-- The tick of a target before the preroll. -/
def targetBase (s : State) : Target → Int
  | .mark n => markTick s n
  | .address a => tickOf a (spb s)

/-- The target tick before its clamp. -/
def rawTarget (s : State) (t : Target) (preroll : Nat) : Int := targetBase s t - preroll * 100

/-- The highest target tick: the nominal end of the reel. -/
def targetTop (s : State) : Int := ((activeProfile s).nominal - 1 : Int) * 100

/-- The target tick (R82). -/
def targetTick (s : State) (t : Target) (preroll : Nat) : Int := clampInt 0 (targetTop s) (rawTarget s t preroll)

/-- D_app (R82). -/
def approachDistance (s : State) : Target → Int
  | .mark n =>
    match markAt s n with
    | some m => 30000 + 100 * spreadOf m
    | none => 30000
  | .address _ => 30000

/-- Target tick and approach distance formed again (R82). -/
def formTarget (s : State) (c : LocCtx) : LocCtx :=
  { c with targetTick := targetTick s c.target c.preroll, approach := approachDistance s c.target }

/-- d, the distance to the target (R83). -/
def distance (s : State) (c : LocCtx) : Int := mag (c.targetTick - estimate s)

/-- The context replaced. -/
def setLoc (c : LocCtx) (s : State) : State := s.onMotion fun x => { x with loc := some c }

/-- To LOCATE RUN: the latch is cleared and any arrival judgement and hold timer are discarded (R87, R97). -/
def toLocateRun (c : LocCtx) (s : State) : State :=
  enterMode (.locate .run) (setLoc { c with latch := false, creep := none, judgement := none, holdTimer := 0 } s)

/-- To APPROACH: latch clear, stationary count 0 (R87, R92). -/
def toApproach (c : LocCtx) (s : State) : State :=
  (enterMode (.locate .approach) (setLoc { c with latch := false, creep := none, judgement := none, holdTimer := 0 } s)).onMotion
    fun x => { x with still := 0 }

/-- A change of the target tick judged against the phase (R87). -/
def judgeTarget (c : LocCtx) (s : State) : State :=
  let d := distance s c
  match s.motion.mode with
  | .locate .approach =>
    if c.approach < d then toLocateRun c s
    else if 100 < d then setLoc { c with latch := false } s
    else setLoc c s
  | .locate .creep =>
    if c.approach < d then toLocateRun c s else if 100 < d then toApproach c s else setLoc c s
  | .locate .hold =>
    if c.approach < d then toLocateRun c s else if 100 < d then toApproach c s else setLoc c s
  | _ => setLoc c s

/-! ## Mark reports at the Motion Controller (R48, R84, R85) -/

/-- What a report says changed (R48); `paired` is MARK PAIR's word to the Punch Unit (R150). -/
inductive Change where
  | address
  | overwrite
  | unpaired
  | retired
  | dormant
  | current
  | paired
deriving DecidableEq, Repr

/-- One report of the Mark Table. -/
structure Report where
  mark   : Nat
  change : Change
deriving DecidableEq, Repr

/-- The report moves a target. -/
abbrev Change.Moves (c : Change) : Prop := c = .address ∨ c = .overwrite

/-- The report ends a locate to its mark. -/
abbrev Change.Loses (c : Change) : Prop := c = .retired ∨ c = .dormant

/-- A report at a locate in progress (R85). -/
def reportToLocate (r : Report) (s : State) : State :=
  match s.motion.loc with
  | some c =>
    if c.target = .mark r.mark then
      if r.change.Moves then judgeTarget (formTarget s c) s
      else if r.change.Loses then enterStopping .normal (endLocate .targetLost s)
      else s
    else s
  | none => s

/-- A report at a held LOCATE (R84). -/
def reportToHeld (r : Report) (s : State) : State :=
  match s.motion.held with
  | some (.locate c) =>
    if c.target = .mark r.mark then
      if r.change.Moves then s.onMotion fun x => { x with held := some (.locate (formTarget s c)) }
      else if r.change.Loses then dropHeld .targetLost s
      else s
    else s
  | _ => s

/-- A report at the Motion Controller. -/
def reportToMotion (s : State) (r : Report) : State := reportToHeld r (reportToLocate r s)

/-- The sample of an ADDRESS target set to 440 where a 44.1 kHz reel has no such sample (R86). -/
def clampTarget (s : State) : Target → Target
  | .address a => .address (if spb s = 441 ∧ 441 ≤ a.sample then { a with sample := 440 } else a)
  | .mark n => .mark n

/-- The target is an address. -/
def Target.isAddress : Target → Bool
  | .address _ => true
  | .mark _ => false

/-- Identification at an ADDRESS locate, in progress or held (R86; log entry 27). -/
def identifyTarget (s : State) : State :=
  let s :=
    match s.motion.loc with
    | some c =>
      if c.target.isAddress then
        let c' := formTarget s { c with target := clampTarget s c.target }
        judgeTarget c' s
      else s
    | none => s
  match s.motion.held with
  | some (.locate c) =>
    if c.target.isAddress then
      s.onMotion fun x => { x with held := some (.locate (formTarget s { c with target := clampTarget s c.target })) }
    else s
  | _ => s

/-! ## Orders (R77, R78, R194) -/

/-- A safe-stop order (R77). -/
def safeStop (s : State) : State :=
  match s.motion.mode with
  | .engaging => enterReleasing s
  | .stopped _ => enterStopping .safe (dropHeld .fault s)
  | .play _ => enterStopping .safe s
  | .cue => enterStopping .safe s
  | .wind => enterStopping .safe s
  | .locate _ => enterStopping .safe (endLocate .fault s)
  | .stopping .normal => enterMode (.stopping .safe) s
  | _ => s

/-- The release order of ENGAGE_TIMEOUT (R77). -/
def releaseOrder (s : State) : State :=
  match s.motion.mode with
  | .engaging => enterReleasing s
  | _ => s

/-- The modes a halt order acts in (R78): those in which the reel drives are enabled. -/
def Mode.haltable : Mode → Bool
  | .empty => false
  | .released => false
  | .halting => false
  | _ => true

/-- A halt order (R78). -/
def haltOrder (s : State) : State :=
  if s.motion.mode.haltable then
    (enterMode .halting (dropHeld .fault (endLocate .fault s))).onMotion
      fun x => { x with vCmd := 0, haltTimer := 0, haltStill := 0 }
  else s

end Sys2Proof.Machine
end

