-- ==== Sys2Proof/Machine/Faults.lean ====
section
/-!
DEFINITION. Faults: the Fault Monitor (chapter 11): fault reports with their records and orders, and the requests
FAULT READ and FAULT CLEAR.
-/

namespace Sys2Proof.Machine

/-- The three classes of causes (R194). -/
inductive FaultClass where
  | safe
  | abrupt
  | release
deriving DecidableEq, Repr

/-- The class of a cause (R194). -/
def Cause.faultClass : Cause → FaultClass
  | .tensionLoss     => .safe
  | .armLimit        => .abrupt
  | .speedRunaway    => .safe
  | .reelCurrent     => .abrupt
  | .capstanOverload => .safe
  | .supplyLow       => .abrupt
  | .engageTimeout   => .release

/-- A record put in its place in the order of R194. -/
def insertFault (r : FaultRec) : List FaultRec → List FaultRec
  | [] => [r]
  | x :: l => if r.cause.number < x.cause.number then r :: x :: l else x :: insertFault r l

/-- A repeat counted on its record, held at 255 (R195). -/
def countRepeat (c : Cause) (l : List FaultRec) : List FaultRec :=
  l.map fun r => if r.cause = c then { r with count := min 255 (r.count + 1) } else r

/-- The record a first report makes (R195). -/
def firstRecord (c : Cause) (s : State) : FaultRec where
  cause    := c
  count    := 1
  mode     := s.motion.mode
  estimate := estimate s
  quality  := quality s

/-- The cause has a record. -/
abbrev HasRecord (s : State) (c : Cause) : Prop := ∃ r ∈ s.monitor.faults, r.cause = c

/-- The fault set after a report (R195). -/
def recordFault (c : Cause) (s : State) : State :=
  if HasRecord s c then s.onMonitor fun m => { m with faults := countRepeat c m.faults }
  else raise .fault (s.onMonitor fun m => { m with faults := insertFault (firstRecord c s) m.faults })

/-- The order a class carries (R194). -/
def giveOrder : FaultClass → State → State
  | .safe => safeStop
  | .abrupt => haltOrder
  | .release => releaseOrder

/-- A fault report: the fault set first, then the order, on every report (R194). -/
def faultReport (c : Cause) (s : State) : State := giveOrder c.faultClass (recordFault c s)

/-- A fault report where `c` holds. -/
def reportIf (c : Bool) (cause : Cause) (s : State) : State := if c then faultReport cause s else s

/-- "Never in EMPTY or RELEASED". -/
abbrev Parked (s : State) : Prop := s.motion.mode = .empty ∨ s.motion.mode = .released

/-- A cause is present now (R198). -/
def presentNow (s : State) : Cause → Bool
  | .tensionLoss     => decide (¬ Parked s ∧ 0 < s.servo.loss)
  | .armLimit        => decide (¬ Parked s ∧ (s.servo.stopSupply = true ∨ s.servo.stopTakeUp = true))
  | .speedRunaway    => decide (¬ Parked s ∧ 0 < s.servo.runaway)
  | .engageTimeout   => false
  | .reelCurrent     => decide (0 < s.monitor.reel2 ∨ 0 < s.monitor.reel3)
  | .capstanOverload => decide (0 < s.monitor.overload)
  | .supplyLow       => s.monitor.supplyLow

/-- One record of FAULT READ (R197). -/
def faultField (s : State) (r : FaultRec) : List Byte :=
  n1 r.cause.number ++ n1 r.count ++ n1 r.mode.number ++ n4 r.estimate ++ n1 r.quality.number ++
  yesNo (presentNow s r.cause)

/-- FAULT READ (R197). -/
def reqFaultRead : Handler := fun _ s => (.okWith (listField (faultField s) s.monitor.faults), s)

/-- The records a clear keeps (R198). -/
def keptFaults (s : State) : List FaultRec := s.monitor.faults.filter fun r => presentNow s r.cause

/-- FAULT CLEAR (R198). -/
def reqFaultClear : Handler := fun _ s =>
  if Parked s then
    (.okWith (n1 (s.monitor.faults.length - (keptFaults s).length : Nat) ++ n1 (keptFaults s).length),
      s.onMonitor fun m => { m with faults := keptFaults s })
  else (.refuse .busy, s)

end Sys2Proof.Machine
end

