-- ==== Sys2Proof/Machine/Servo.lean ====
section
/-!
DEFINITION. Servo: the Reel Servo (chapter 5): count accumulators, the servo computation step by step, and TENSION READ.
-/

namespace Sys2Proof.Machine

/-! ## Counts (R101) -/

/-- One count in a sense, wrapping. -/
def addCount (d : Dir) (c : Count32) : Count32 :=
  match d with
  | .forward => c + 1
  | .reverse => c - 1

/-- A count of the measuring roller at the servo. -/
def servoRoller (d : Dir) (s : State) : State := s.onServo fun v => { v with accRoller := addCount d v.accRoller }

/-- A count of a reel tachometer. -/
def tachometer (r : Reel) (d : Dir) (s : State) : State :=
  s.onServo fun v =>
    match r with
    | .supply => { v with accSupply := addCount d v.accSupply }
    | .takeUp => { v with accTakeUp := addCount d v.accTakeUp }

/-- A difference of two readings of an accumulator, modulo 2³², as a signed number. -/
def countDiff (now before : Count32) : Int := (now - before).toInt

/-! ## Step 1: measured speed (R103) -/

/-- The history with the present snapshot in front. -/
def pushSnapshot (c : Count32) (h : List Count32) : List Count32 := (c :: h).take 17

def measureSpeed (s : State) : State :=
  s.onServo fun v =>
    { v with
      history := pushSnapshot v.accRoller v.history
      vMeas := (countDiff v.accRoller ((pushSnapshot v.accRoller v.history).getD 16 0) * 1000).tdiv 16 }

/-! ## Step 2: pack radii (R104, R105) -/

/-- A reel's radius at the end of a window. -/
def windowRadius (p : Profile) (dRoller dReel old : Int) : Int :=
  if 64 ≤ mag dReel then clampInt p.hub p.flange (mag dRoller * 1242 / mag dReel) else old

/-- The window restarted: count 0, references taken afresh. -/
def restartWindow (s : State) : State :=
  s.onServo fun v =>
    { v with winCount := 0, refRoller := v.accRoller, refSupply := v.accSupply, refTakeUp := v.accTakeUp }

/-- Both radii at the midpoint of a profile. -/
def midpointRadii (p : Profile) (s : State) : State :=
  s.onServo fun v => { v with rSupply := midpoint p, rTakeUp := midpoint p }

/-- The radii a window's differences give. -/
def formRadii (s : State) : State :=
  s.onServo fun v =>
    { v with
      rSupply := windowRadius (activeProfile s) (countDiff v.accRoller v.refRoller) (countDiff v.accSupply v.refSupply) v.rSupply
      rTakeUp := windowRadius (activeProfile s) (countDiff v.accRoller v.refRoller) (countDiff v.accTakeUp v.refTakeUp) v.rTakeUp }

def radiusStep (s : State) : State :=
  if 16 ≤ s.servo.winCount + 1 then restartWindow (formRadii s)
  else s.onServo fun v => { v with winCount := v.winCount + 1 }

/-! ## Step 3: tensions (R106) -/

def tensionOf (cal : ArmCal) (code : Nat) : Int := max 0 (cal.base + (((code : Int) - cal.centre) * cal.rate).tdiv 64)

/-- The latest code of a channel of the sensor table. -/
def channelCode (s : State) (n : Nat) : Nat := (s.scanner.table.getD n blankChannel).code

def tensionStep (s : State) : State :=
  s.onServo fun v =>
    { v with
      codeSupply := channelCode s 0
      codeTakeUp := channelCode s 1
      tSupply := tensionOf v.calSupply (channelCode s 0)
      tTakeUp := tensionOf v.calTakeUp (channelCode s 1) }

/-! ## Step 4: setpoint, demand, drive term and torque commands (R107 to R111) -/

def demand (p : Profile) (tSet tMeas : Int) : Int := clampInt 0 (2 * tSet) (tSet + ((tSet - tMeas) * p.gain).tdiv 16)

def tensionTorque (tDem r : Int) : Int := tDem * r / 10000

def driveTerm (s : State) : Int :=
  if InRun s then 0 else ((s.motion.vCmd - s.servo.vMeas) * (activeProfile s).kv).tdiv 1024

/-- Clamp and slew of one command (R110). -/
def torqueCommand (p : Profile) (prev target : Int) : Int :=
  moveToward prev (clampInt (-p.torque) p.torque target) p.slew

/-- The torque commands of one computation, from the setpoint it formed. -/
def torqueStep (s : State) : State :=
  let p := activeProfile s
  let d := driveTerm s
  let tSet := tensionSetpoint s
  s.onServo fun v =>
    if s.motion.mode.forcedZero then { v with tSet := tSet, cmdSupply := 0, cmdTakeUp := 0 }
    else
      { v with
        tSet := tSet
        cmdSupply := torqueCommand p v.cmdSupply (tensionTorque (demand p tSet v.tSupply) v.rSupply - d)
        cmdTakeUp := torqueCommand p v.cmdTakeUp (tensionTorque (demand p tSet v.tTakeUp) v.rTakeUp + d) }

/-! ## Step 5: the ready window (R112) -/

/-- Both arms lie within an eighth of the setpoint. -/
abbrev InReadyWindow (v : Servo) : Prop := mag (v.tSupply - v.tSet) ≤ v.tSet / 8 ∧ mag (v.tTakeUp - v.tSet) ≤ v.tSet / 8

/-- The ready count after a computation in ENGAGING. -/
def nextReady (v : Servo) : Nat := if v.rampDone then (if InReadyWindow v then v.ready + 1 else 0) else v.ready

/-- The ready window counted; at 50 the transport becomes STOPPED FULL (R63). -/
def readyStep (s : State) : State :=
  if s.motion.mode = .engaging then
    if 50 ≤ nextReady s.servo then enterStoppedFull s else s.onServo fun v => { v with ready := nextReady v }
  else s

/-! ## Step 6: the judgements (R113 to R116) -/

/-- An arm is out of window (R113). -/
abbrev OutOfWindow (tSet tMeas : Int) : Prop := 4 * tMeas < tSet ∨ 5 * tSet < 2 * tMeas

/-- An arm code at a stop (R114). -/
def atStop (code : Nat) : Bool := decide (code ≤ 63 ∨ 4032 ≤ code)

/-- The loss count after a computation in an engaged mode. -/
def nextLoss (v : Servo) : Nat :=
  if OutOfWindow v.tSet v.tSupply ∨ OutOfWindow v.tSet v.tTakeUp then min 20 (v.loss + 1) else 0

/-- The tape is overspeed (R115). -/
abbrev Overspeed (s : State) : Prop := ((activeProfile s).windMax : Int) * 125 < mag s.servo.vMeas

/-- The runaway count after a computation in an engaged mode. -/
def nextRunaway (s : State) : Nat := if Overspeed s then min 10 (s.servo.runaway + 1) else 0

/-- The counts and arm-stop states after the judgements of an engaged computation. -/
def judged (s : State) : State :=
  s.onServo fun v =>
    { v with loss := nextLoss v, runaway := nextRunaway s, stopSupply := atStop v.codeSupply, stopTakeUp := atStop v.codeTakeUp }

/-- What a computation finds of the arms, whatever the mode: TENSION READ reports it (R114, R117, section 5.11). -/
def findStops (s : State) : State :=
  s.onServo fun v => { v with foundSupply := atStop v.codeSupply, foundTakeUp := atStop v.codeTakeUp }

/-- The same outside the engaged set. -/
def unjudged (s : State) : State :=
  s.onServo fun v => { v with loss := 0, runaway := 0, stopSupply := false, stopTakeUp := false }

/-- The loss count reaches 20 at this computation. -/
def lossReached (v : Servo) : Bool := decide (v.loss < 20 ∧ nextLoss v = 20)

/-- An arm is newly found at its stop. -/
def stopReached (v : Servo) : Bool := (atStop v.codeSupply && !v.stopSupply) || (atStop v.codeTakeUp && !v.stopTakeUp)

/-- The runaway count reaches 10 at this computation. -/
def runawayReached (s : State) : Bool := decide (s.servo.runaway < 10 ∧ nextRunaway s = 10)

/-- The judgements, for a computation that found the transport in mode `m` (R116; log entry 17). -/
def judgeStep (m : Mode) (s : State) : State :=
  if m.engaged then
    reportIf (runawayReached s) .speedRunaway
      (reportIf (stopReached s.servo) .armLimit (reportIf (lossReached s.servo) .tensionLoss (judged s)))
  else unjudged s

/-! ## The computation (R102) -/

/-- Steps 1 to 4: figures and torque commands. -/
def servoFigures (s : State) : State := torqueStep (findStops (tensionStep (radiusStep (measureSpeed s))))

/-- Steps 1 to 6. -/
def compute (s : State) : State := judgeStep s.motion.mode (readyStep (servoFigures s))

/-! ## TENSION READ (R117) -/

/-- TENSION READ. The arms are reported as the latest computation found them, in every mode (R114, section 5.11). Where a step
has changed lines, radii or counts since the latest computation (ENGAGE, a halt, a reset, PROFILE WRITE), the fields are
reported as that step left them (R111 and R117 leave it open: the model's choice, log entry 35). -/
def reqTensionRead : Handler := fun _ s =>
  let v := s.servo
  (.okWith (n2 v.codeSupply ++ n2 v.codeTakeUp ++ n2 v.tSupply ++ n2 v.tTakeUp ++ n2 v.tSet ++ n2 v.rSupply ++ n2 v.rTakeUp ++
    n2 v.cmdSupply ++ n2 v.cmdTakeUp ++ yesNo v.drives ++ n4 v.vMeas ++ yesNo v.rampDone ++ n1 v.ready ++ n1 v.loss ++
    n1 v.runaway ++ yesNo v.foundSupply ++ yesNo v.foundTakeUp), s)

end Sys2Proof.Machine
end

