-- ==== Sys2Proof/Machine/Scanner.lean ====
section
/-!
DEFINITION. Scanner: the Sensor Scanner and the Fault Monitor's judgements on its conversions (chapter 6), the order in which
they meet the servo computation (R121), and SENSE READ.
-/

namespace Sys2Proof.Machine

/-- The next rotating channel (R120). -/
def nextChannel (p : Nat) : Nat := if p < 6 then p + 1 else 2

/-- The start of a scan: the rotation pointer steps (R120). -/
def scanStart (s : State) : State := s.onScanner fun c => { c with pointer := nextChannel c.pointer }

/-- The value of a channel for a code (R119, R122, R123). -/
def channelValue (n : Nat) (code : Nat) : Int :=
  if n = 2 ∨ n = 3 then (((code : Int) - 2048) * 12000).tdiv 2048
  else if n = 4 then (((code : Int) - 2048) * 4000).tdiv 2048
  else if n = 5 then (code : Int) * 60000 / 4096
  else code

/-- The entry a conversion writes (R120, R124). -/
def converted (n code : Nat) : Channel where
  code       := code
  value      := channelValue n code
  age        := 0
  saturation := decide (code = 0 ∨ code = 4095)

/-- An entry not converted at a completion (R120). -/
def aged (c : Channel) : Channel := { c with age := min 65535 (c.age + 1) }

/-- The table after the completion of a scan whose rotating channel is `p` (R120). -/
def scanTable (p : Nat) (codes : ScanCodes) (t : List Channel) : List Channel :=
  t.mapIdx fun n c =>
    if n = 0 then converted 0 codes.supplyArm
    else if n = 1 then converted 1 codes.takeUpArm
    else if n = p then converted n codes.rotating
    else aged c

/-- The optical state after a conversion of channel 6 (R125). -/
def opticalAfter (code : Nat) (o : Optical) : Optical :=
  if code < 800 then .clear else if 2400 < code then .opaqueTape else o

/-- A run-length count with a limit (R126, R127). -/
def runCount (limit : Nat) (exceeds : Bool) (n : Nat) : Nat := if exceeds then min limit (n + 1) else 0

/-- REEL_CURRENT's threshold (R126). -/
def overReel (v : Int) : Bool := decide (10000 < mag v)

/-- CAPSTAN_OVERLOAD's threshold (R127). -/
def overCapstan (v : Int) : Bool := decide (3500 < mag v)

/-- The judgement on channel 2 (R126). -/
def judgeReel2 (v : Int) (s : State) : State :=
  reportIf (decide (s.monitor.reel2 = 9) && overReel v) .reelCurrent
    (s.onMonitor fun m => { m with reel2 := runCount 10 (overReel v) m.reel2 })

/-- The judgement on channel 3 (R126). -/
def judgeReel3 (v : Int) (s : State) : State :=
  reportIf (decide (s.monitor.reel3 = 9) && overReel v) .reelCurrent
    (s.onMonitor fun m => { m with reel3 := runCount 10 (overReel v) m.reel3 })

/-- The judgement on channel 4 (R127). -/
def judgeCapstan (v : Int) (s : State) : State :=
  reportIf (decide (s.monitor.overload = 199) && overCapstan v) .capstanOverload
    (s.onMonitor fun m => { m with overload := runCount 200 (overCapstan v) m.overload })

/-- The low-sample count and the condition after a supply conversion (R128). -/
def supplyAfter (v : Int) (m : Monitor) : Monitor :=
  if m.supplyLow then (if 42000 < v then { m with supplyLow := false, lowCount := 0 } else m)
  else if v < 38000 then { m with lowCount := min 2 (m.lowCount + 1), supplyLow := decide (2 ≤ m.lowCount + 1) }
  else { m with lowCount := 0 }

/-- The supply-low condition becomes present at this conversion. -/
def supplyFalls (v : Int) (m : Monitor) : Bool := !m.supplyLow && (supplyAfter v m).supplyLow

/-- The judgement on channel 5 (R128). -/
def judgeSupply (v : Int) (s : State) : State :=
  reportIf (supplyFalls v s.monitor) .supplyLow (s.onMonitor (supplyAfter v))

/-- The Fault Monitor's judgement of the rotating channel just converted, if it is 2 to 5 (R121). -/
def judgeChannel (p code : Nat) (s : State) : State :=
  if p = 2 then judgeReel2 (channelValue 2 code) s
  else if p = 3 then judgeReel3 (channelValue 3 code) s
  else if p = 4 then judgeCapstan (channelValue 4 code) s
  else if p = 5 then judgeSupply (channelValue 5 code) s
  else s

/-- The judgement of this conversion brings a report to the fault set. -/
def reportsAt (p code : Nat) (m : Monitor) : Bool :=
  if p = 2 then decide (m.reel2 = 9) && overReel (channelValue 2 code)
  else if p = 3 then decide (m.reel3 = 9) && overReel (channelValue 3 code)
  else if p = 4 then decide (m.overload = 199) && overCapstan (channelValue 4 code)
  else if p = 5 then supplyFalls (channelValue 5 code) m
  else false

/-- The judgement still to be taken, if any, is taken (R121). -/
def judgeDue (s : State) : State :=
  match s.monitor.due with
  | some k => judgeChannel k.channel k.code (s.onMonitor fun m => { m with due := none })
  | none => s

/-- The completion's entries written together (R120), the pointer that SENSE READ reports (R130), and the optical state formed
from a conversion of channel 6 (R121, R125). -/
def writeScan (codes : ScanCodes) (s : State) : State :=
  s.onScanner fun c =>
    { c with
      table := scanTable c.pointer codes c.table
      latest := c.pointer
      optical := if c.pointer = 6 then opticalAfter codes.rotating c.optical else c.optical }

/-- A scan completion (R120, R121). A judgement that brings no report is taken at once: its order among the readers cannot be
seen. One that brings a report waits as an event of its own, since its order changes the mode that the servo computation
reads: it is taken after the next computation, and at the latest before the next completion (log entry 36). -/
def scanCompletion (codes : ScanCodes) (s : State) : State :=
  let t := writeScan codes (judgeDue s)
  if reportsAt t.scanner.pointer codes.rotating t.monitor then
    t.onMonitor fun m => { m with due := some { channel := t.scanner.pointer, code := codes.rotating } }
  else judgeChannel t.scanner.pointer codes.rotating t

/-- A scan completion whose judgement is taken before the servo computation (R121). -/
def judgedCompletion (codes : ScanCodes) (s : State) : State := judgeDue (scanCompletion codes s)

/-- The servo computation (R102), with a judgement still to be taken following it (R121). -/
def servoComputation (s : State) : State := judgeDue (compute s)

/-- A channel's entry in SENSE READ (R130): codes in 2 characters, values signed in 2 but for the supply's
0 to 59,985, ages in 2. -/
def channelField (c : Channel) : List Byte := n2 c.code ++ n2 c.value ++ n2 c.age ++ yesNo c.saturation

/-- The optical state's number (R119, R130). -/
def Optical.number : Optical → Nat
  | .clear => 0
  | .opaqueTape => 1

/-- SENSE READ (R130), with the pointer as of the latest scan completion. -/
def reqSenseRead : Handler := fun _ s =>
  let m := s.monitor
  (.okWith (s.scanner.table.flatMap channelField ++ n1 s.scanner.latest ++ n1 s.scanner.optical.number ++ n1 m.reel2 ++
    n1 m.reel3 ++ n1 m.overload ++ n1 m.lowCount ++ firstOf m.supplyLow), s)

end Sys2Proof.Machine
end

