-- ==== Sys2Proof/Machine/Marks.lean ====
section
/-!
DEFINITION. Marks: the Mark Table (chapter 2): its reports to the other blocks, capture, the requests of unit 1 on
marks, re-evaluation as the map changes, claiming, and unthread processing.
-/

namespace Sys2Proof.Machine

/-! ## Reports (R48) -/

/-- The report removes a pair from an armed entry (R162). -/
abbrev Change.Removes (c : Change) : Prop := c = .unpaired ∨ c = .retired ∨ c = .dormant ∨ c = .overwrite

/-- The report is an address or claiming change (R160). -/
abbrev Change.Shifts (c : Change) : Prop := c = .address ∨ c = .current

/-- The reports of one step at the Punch Unit: removals, then moved entries, then the guard zones with their
reactions (R150, R160 to R162; log entry 13). -/
def reportToPunch (rs : List Report) (s : State) : State :=
  let s := ((rs.filter fun r => r.change.Removes).map Report.mark).foldl removeEntriesOf s
  let s := moveEntries ((rs.filter fun r => r.change.Shifts).map Report.mark) s
  guardReact s

/-- The reports of one step, delivered together once all its changes have been made (R48). -/
def deliver (rs : List Report) (s : State) : State :=
  if rs = [] then s else reportToPunch rs (rs.foldl reportToMotion s)

/-! ## Changes of the table -/

/-- The record of slot `n` set. -/
def setMark (n : Nat) (m : Mark) (s : State) : State := s.onMarks (slotPut n m)

/-- Mark `n` loses its partner field. -/
def clearPartner (n : Nat) (s : State) : State :=
  match markAt s n with
  | some m => setMark n { m with partner := none } s
  | none => s

/-- The partner of mark `n`. -/
def partnerOf (s : State) (n : Nat) : Option Nat :=
  match markAt s n with
  | some m => m.partner
  | none => none

/-- The link mark `n` holds is removed from both marks in one step (R40). -/
def unlink (n : Nat) (s : State) : State :=
  match partnerOf s n with
  | some p => clearPartner n (clearPartner p s)
  | none => s

/-- The reports of that removal (R48). -/
def unlinkReports (n : Nat) (s : State) : List Report :=
  match partnerOf s n with
  | some p => [{ mark := n, change := .unpaired }, { mark := p, change := .unpaired }]
  | none => []

/-- The slot is freed, and the partner's link to it removed (R43). -/
def freeSlot (n : Nat) (s : State) : State := (unlink n s).onMarks (slotDrop n)

/-- One mark of a retiring step: its slot is freed, and the reports are gathered (R43, R48). -/
def retireOne (acc : State × List Report) (n : Nat) : State × List Report :=
  (freeSlot n acc.1, acc.2 ++ { mark := n, change := .retired } :: unlinkReports n acc.1)

/-- Marks retired in one step: every slot is freed first, then all is reported together (R43, R44, R48). -/
def retireMarks (ns : List Nat) (s : State) : State :=
  let r := ns.foldl retireOne (s, [])
  deliver r.2 r.1

/-! ## Pairs (R40) -/

/-- The kinds form a punch pair or a guard pair, in either order (R41). -/
def kindsPair : MarkKind → MarkKind → Bool
  | .punchIn, .punchOut => true
  | .punchOut, .punchIn => true
  | .guardStart, .guardEnd => true
  | .guardEnd, .guardStart => true
  | _, _ => false

/-- The ordering of a pair, on tick values (R40). -/
abbrev OrderHolds (ka : MarkKind) (ta : Int) (kb : MarkKind) (tb : Int) : Prop :=
  (ka = .punchIn ∧ kb = .punchOut ∧ ta + 1000 ≤ tb) ∨ (ka = .punchOut ∧ kb = .punchIn ∧ tb + 1000 ≤ ta) ∨
  (ka = .guardStart ∧ kb = .guardEnd ∧ ta ≤ tb) ∨ (ka = .guardEnd ∧ kb = .guardStart ∧ tb ≤ ta)

/-- The ordering of the pair that mark `n`, as `m`, forms with its partner holds; an unpaired mark has none to break. -/
abbrev PairHolds (s : State) (m : Mark) : Prop :=
  ∀ p ∈ m.partner, ∀ o ∈ markAt s p, OrderHolds m.kind (tickValue s m) o.kind (tickValue s o)

/-- The pair of mark `n` is broken if its ordering no longer holds (R51); the reports are gathered. -/
def breakPair (acc : State × List Report) (n : Nat) : State × List Report :=
  match markAt acc.1 n with
  | some m => if PairHolds acc.1 m then acc else (unlink n acc.1, acc.2 ++ unlinkReports n acc.1)
  | none => acc

/-- The pairs of the given marks tested, PAIR_BROKEN raised once if any breaks, and all of the step's changes
reported (R51, R52). -/
def settlePairs (tested : List Nat) (rs : List Report) (s : State) : State :=
  let r := tested.foldl breakPair (s, [])
  deliver (rs ++ r.2) (raiseIf (decide (r.2 ≠ [])) .pairBroken r.1)

/-! ## Capture (R32) -/

/-- The smallest distance in counts from `c` to an anchor (R32). -/
def gapOf (map : List Anchor) (c : Int) : Int :=
  match map with
  | [] => 0
  | a :: r => r.foldl (fun g b => min g (mag (c - b.count))) (mag (c - a.count))

/-- The spread of a gap, held at 65,535 (R32, R49). -/
def spreadFor (gap : Int) : Nat := min 65535 (1 + (gap / 2000).toNat)

/-- Standing and spread of a capture at the heads; none while the quality is UNKNOWN (R32). -/
def capture (s : State) : Option (Standing × Option Nat) :=
  match quality s with
  | .locked => some (.firm, none)
  | .reckoned => some (.provisional s.tracker.counter, some (spreadFor (gapOf s.tracker.map s.tracker.counter)))
  | .unknown => none

/-- Slot 0 captured when a PLAY is accepted (R31). -/
def captureReturn (s : State) : State :=
  match capture s with
  | some (st, sp) =>
    let m : Mark :=
      { kind := .cue, addr := placeHere s, tag := loadedTag s, standing := st, spread := sp, partner := none,
        label := [], owner := 0, locked := false }
    deliver [{ mark := 0, change := if markAt s 0 = none then .current else .address }] (setMark 0 m s)
  | none => s

/-! ## Checks of the requests (R33) -/

/-- Steps 1 to 4 of R33 for a change-type request on an existing mark. -/
def checkMark (n : Nat) (requester : Nat) (s : State) : Except Code Mark :=
  if 99 < n then .error .range
  else if n = 0 then .error .protectedMark
  else
    match markAt s n with
    | none => .error .noMark
    | some m => if m.locked = true ∧ m.owner ≠ requester then .error .protectedMark else .ok m

/-- The lowest-numbered FREE slot from 1 to 99 (R35). -/
def firstFree (s : State) : Option Nat := (List.range' 1 99).find? fun n => (markAt s n).isNone

/-- The slot MARK SET and MARK HERE name: steps 1, 2 and 4 of R33, or "first free" (R35). -/
def checkSlot (n : Nat) (requester : Nat) (s : State) : Except Code Nat :=
  if n = choice then
    match firstFree s with
    | some k => .ok k
    | none => .error .full
  else if 99 < n then .error .range
  else if n = 0 then .error .protectedMark
  else
    match markAt s n with
    | some m => if m.locked = true ∧ m.owner ≠ requester then .error .protectedMark else .ok n
    | none => .ok n

/-- A block or sample out of range with the loaded spb (R35). -/
abbrev AddrOut (s : State) (a : Addr) : Prop := Config.maxBlock < a.block ∨ spb s ≤ a.sample

/-- The mark is the in-mark or out-mark of the ACTIVE entry (R37). -/
abbrev InUse (s : State) (n : Nat) : Prop := ∃ e ∈ activeEntry s, e.inMark = n ∨ e.outMark = n

/-! ## Replies -/

/-- The state character of a mark (R27, section 10.9). -/
def Standing.number : Standing → Nat
  | .firm => 1
  | .provisional _ => 2

/-- Number, state and address (R33). -/
def markReply (n : Nat) (m : Mark) : List Byte := n1 n ++ n1 m.standing.number ++ addrField m.addr

/-- Number, address and tick value (R46). -/
def findReply (s : State) (n : Nat) (t : Int) : List Byte :=
  n1 n ++
  addrField (match markAt s n with
    | some m => m.addr
    | none => { block := 0, sample := 0 }) ++
  n4 t

/-- The record of MARK READ (section 10.9). -/
def markRecord (s : State) (n : Nat) : List Byte :=
  match markAt s n with
  | none => n1 n ++ n1 0
  | some m =>
    let captured : Option Int :=
      match m.standing with
      | .firm => none
      | .provisional c => some c
    let current : Bool := decide (IsCurrent s m)
    let presence : Nat :=
      (if captured.isSome then 1 else 0) + (if m.spread.isSome then 2 else 0) + (if m.partner.isSome then 4 else 0) +
      (if current then 8 else 0)
    n1 n ++ n1 m.standing.number ++ n1 m.kind.number ++ n4 m.addr.block ++ n2 m.addr.sample ++ n2 (m.tag.getD 0) ++
    n1 presence ++ n4 (captured.getD 0) ++ n2 (m.spread.getD 0) ++ n1 (m.partner.getD 0) ++ n1 m.owner ++
    yesNo m.locked ++ yesNo current ++ n4 (if current then tickValue s m else 0) ++ n1 m.label.length ++ m.label

/-! ## Requests of unit 1 -/

/-- A record written by MARK SET or MARK HERE over slot `n` (R35, R36): an overwrite keeps the lock and removes the
old pair; both are reported. -/
def writeMark (n : Nat) (m : Mark) (s : State) : State :=
  match markAt s n with
  | some old =>
    deliver ({ mark := n, change := .overwrite } :: unlinkReports n s) (setMark n { m with locked := old.locked } (unlink n s))
  | none => deliver [{ mark := n, change := .current }] (setMark n m s)

/-- MARK SET (R35). R33 gives its label check no place among the steps: it comes last, after FULL and the codes of steps 1
to 4 (the model's choice, log entry 32). -/
def reqMarkSet (number kind : Nat) (a : Addr) (label : Label) : Handler := fun ctx s =>
  match checkSlot number ctx.station s with
  | .error c => (.refuse c, s)
  | .ok n =>
    match kindOf kind with
    | none => (.refuse .range, s)
    | some k =>
      if AddrOut s a then (.refuse .range, s)
      else if ¬ PlainLabel label then (.refuse .range, s)
      else
        let m : Mark :=
          { kind := k, addr := a, tag := loadedTag s, standing := .firm, spread := none, partner := none,
            label := cutLabel label, owner := ctx.station, locked := false }
        (.clampedIf (labelCut label) (markReply n m), writeMark n m s)

/-- MARK HERE (R36). R33's label check comes last, after FULL, NO_POSITION and the codes of steps 1 to 4 (the model's choice,
log entry 32). -/
def reqMarkHere (number kind : Nat) (label : Label) : Handler := fun ctx s =>
  match checkSlot number ctx.station s with
  | .error c => (.refuse c, s)
  | .ok n =>
    match kindOf kind with
    | none => (.refuse .range, s)
    | some k =>
      match capture s with
      | none => (.refuse .noPosition, s)
      | some (st, sp) =>
        if ¬ PlainLabel label then (.refuse .range, s)
        else
          let m : Mark :=
            { kind := k, addr := placeHere s, tag := loadedTag s, standing := st, spread := sp, partner := none,
              label := cutLabel label, owner := ctx.station, locked := false }
          (.clampedIf (labelCut label) (markReply n m), writeMark n m s)

/-- MARK MOVE (R37). -/
def reqMarkMove (n : Nat) (a : Addr) : Handler := fun ctx s =>
  match checkMark n ctx.station s with
  | .error c => (.refuse c, s)
  | .ok m =>
    let m' := { m with addr := a, standing := .firm, spread := none }
    if ¬ IsCurrent s m then (.refuse .noMark, s)
    else if AddrOut s a then (.refuse .range, s)
    else if InUse s n then (.refuse .inUse, s)
    else if ¬ PairHolds s m' then (.refuse .order, s)
    else (.okWith (markReply n m'), deliver [{ mark := n, change := .address }] (setMark n m' s))

/-- The address of a mark shifted by samples, before its clamp (R38). -/
def trimmed (s : State) (m : Mark) (amount : Int) : Int := m.addr.block * spb s + m.addr.sample + amount

/-- The highest position in samples (R38). -/
def trimTop (s : State) : Int := 1048575 * spb s + spb s - 1

/-- The trimmed address (R38). -/
def trimAddr (s : State) (m : Mark) (amount : Int) : Addr where
  block  := (clampInt 0 (trimTop s) (trimmed s m amount) / spb s).toNat
  sample := (clampInt 0 (trimTop s) (trimmed s m amount) % spb s).toNat

/-- MARK TRIM (R38). -/
def reqMarkTrim (n : Nat) (amount : Int) : Handler := fun ctx s =>
  match checkMark n ctx.station s with
  | .error c => (.refuse c, s)
  | .ok m =>
    let m' := { m with addr := trimAddr s m amount }
    if ¬ IsCurrent s m then (.refuse .noMark, s)
    else if amount < -48000 ∨ 48000 < amount then (.refuse .range, s)
    else if m.isProvisional then (.refuse .imprecise, s)
    else if InUse s n then (.refuse .inUse, s)
    else if ¬ PairHolds s m' then (.refuse .order, s)
    else if amount = 0 then (.okWith (markReply n m), s)
    else
      (.clampedIf (decide (trimmed s m amount < 0 ∨ trimTop s < trimmed s m amount)) (markReply n m'),
        deliver [{ mark := n, change := .address }] (setMark n m' s))

/-- MARK NAME (R39). R33's label check comes last, after the codes of steps 1 to 4 (the model's choice, log entry 32). -/
def reqMarkName (n : Nat) (label : Label) : Handler := fun ctx s =>
  match checkMark n ctx.station s with
  | .error c => (.refuse c, s)
  | .ok m =>
    if ¬ PlainLabel label then (.refuse .range, s)
    else (.clampedIf (labelCut label) (n1 n), setMark n { m with label := cutLabel label } s)

/-- Two marks linked to each other, any links they held to third marks removed (R41). -/
def linkMarks (a b : Nat) (ma mb : Mark) (s : State) : State :=
  let rs := unlinkReports a s ++ unlinkReports b (unlink a s)
  let s := unlink b (unlink a s)
  let s := setMark a { ma with partner := some b } (setMark b { mb with partner := some a } s)
  deliver (rs ++ [{ mark := a, change := .paired }, { mark := b, change := .paired }]) s

/-- MARK PAIR (R41). -/
def reqMarkPair (a b : Nat) : Handler := fun ctx s =>
  match checkMark a ctx.station s with
  | .error c => (.refuse c, s)
  | .ok ma =>
    match checkMark b ctx.station s with
    | .error c => (.refuse c, s)
    | .ok mb =>
      if ¬ IsCurrent s ma ∨ ¬ IsCurrent s mb then (.refuse .noMark, s)
      else if a = b ∨ kindsPair ma.kind mb.kind = false then (.refuse .range, s)
      else if ¬ OrderHolds ma.kind (tickValue s ma) mb.kind (tickValue s mb) then (.refuse .order, s)
      else if ma.partner = some b ∧ mb.partner = some a then (.okWith (n1 a), s)
      else (.okWith (n1 a), linkMarks a b ma mb s)

/-- MARK UNPAIR (R42). -/
def reqMarkUnpair (n : Nat) : Handler := fun ctx s =>
  match checkMark n ctx.station s with
  | .error c => (.refuse c, s)
  | .ok _ => (.okWith (n1 n), deliver (unlinkReports n s) (unlink n s))

/-- MARK LOCK and MARK UNLOCK (R34): only the owner. -/
def lockMark (n : Nat) (lock : Bool) : Handler := fun ctx s =>
  match checkMark n ctx.station s with
  | .error c => (.refuse c, s)
  | .ok m =>
    if m.owner ≠ ctx.station then (.refuse .protectedMark, s)
    else (.okWith (n1 n), setMark n { m with locked := lock } s)

/-- MARK RETIRE (R43). -/
def reqMarkRetire (n : Nat) : Handler := fun ctx s =>
  match checkMark n ctx.station s with
  | .error c => (.refuse c, s)
  | .ok _ => (.okWith (n1 n), retireMarks [n] s)

/-- The marks MARK RETIRE REEL retires, in order of number (R44). -/
def reelMarks (tag requester : Nat) (s : State) : List Nat :=
  (s.marks.filter fun p =>
    p.1 ≠ 0 ∧ p.2.tag = (if tag = 0 then none else some tag) ∧ ¬ (p.2.locked = true ∧ p.2.owner ≠ requester)).map Prod.fst

/-- MARK RETIRE REEL (R44). -/
def reqMarkRetireReel (tag : Nat) : Handler := fun ctx s =>
  (.okWith (n1 (reelMarks tag ctx.station s).length),
    retireMarks (reelMarks tag ctx.station s) s)

/-- MARK READ (R45). -/
def reqMarkRead (n : Nat) : Handler := fun _ s =>
  if 99 < n then (.refuse .range, s) else (.okWith (markRecord s n), s)

/-- The reply of a FIND (R46). R47 says only that the mark is returned: NEAREST and LABEL answer with the fields of NEXT and
PREVIOUS, number, address and tick value (the model's choice, log entry 11). -/
def findResp (s : State) : Option (Nat × Int) → Resp
  | some (n, t) => .okWith (findReply s n t)
  | none => .refuse .noMark

/-- MARK FIND NEXT (R46). -/
def reqFindNext : Handler := fun _ s =>
  if quality s = .unknown then (.refuse .noPosition, s) else (findResp s (findNext s), s)

/-- MARK FIND PREVIOUS (R46). -/
def reqFindPrevious : Handler := fun _ s =>
  if quality s = .unknown then (.refuse .noPosition, s) else (findResp s (findPrevious s), s)

/-- The current mark nearest to a tick, the lower number between equal distances (R47). -/
def nearest (s : State) (t : Int) : Option (Nat × Int) :=
  (s.marks.filter fun p => IsCurrent s p.2).foldl
    (fun acc p =>
      match acc with
      | none => some (p.1, tickValue s p.2)
      | some b => if mag (tickValue s p.2 - t) < mag (b.2 - t) then some (p.1, tickValue s p.2) else acc)
    none

/-- MARK FIND NEAREST (R47). -/
def reqFindNearest (a : Addr) : Handler := fun _ s =>
  if AddrOut s a then (.refuse .range, s) else (findResp s (nearest s (tickOf a (spb s))), s)

/-- The lowest-numbered current mark with a label (R47). -/
def labelled (s : State) (l : Label) : Option (Nat × Int) :=
  (s.marks.find? fun p => decide (IsCurrent s p.2 ∧ p.2.label = l)).map fun p => (p.1, tickValue s p.2)

/-- MARK FIND LABEL (R33, R47). -/
def reqFindLabel (l : Label) : Handler := fun _ s =>
  if l = [] ∨ 12 < l.length ∨ ¬ PlainLabel l then (.refuse .range, s) else (findResp s (labelled s l), s)

/-! ## Re-evaluation (R49, R50) -/

/-- One mark under the map as it now stands: a provisional one is moved, and settles where its gap is 5,000 counts
or less. -/
def reMark (s : State) (m : Mark) : Mark :=
  match m.standing with
  | .firm => m
  | .provisional c =>
    let a := addrOf (estimateAt s.tracker.map c) (spb s)
    let g := gapOf s.tracker.map c
    if g ≤ 5000 then { m with addr := a, standing := .firm, spread := none }
    else { m with addr := a, spread := some (spreadFor g) }

/-- The re-evaluation that a map change starts (R49 to R51). -/
def reevaluate (s : State) : State :=
  let changed := (s.marks.filter fun p => reMark s p.2 ≠ p.2).map Prod.fst
  let moved := (s.marks.filter fun p => (reMark s p.2).addr ≠ p.2.addr).map Prod.fst
  settlePairs moved (changed.map fun n => { mark := n, change := .address })
    (s.onMarks (slotMap fun _ m => reMark s m))

/-! ## Claiming (R52) -/

/-- A mark at identification: an unclaimed one takes the tag; a sample not below the loaded spb becomes spb − 1 on
the marks of the tag. -/
def claimMark (s : State) (tag : Nat) (m : Mark) : Mark :=
  let m := if m.tag = none then { m with tag := some tag } else m
  if m.tag = some tag ∧ spb s ≤ m.addr.sample then { m with addr := { m.addr with sample := spb s - 1 } } else m

/-- The reports of claiming (R52): unclaimed marks have their tick values taken with the new spb; others of the tag
become current, and those clamped change address. -/
def claimReports (s : State) (tag : Nat) : List Report :=
  s.marks.flatMap fun p =>
    if p.2.tag = none then [{ mark := p.1, change := .address }]
    else if p.2.tag = some tag then
      if spb s ≤ p.2.addr.sample then [{ mark := p.1, change := .current }, { mark := p.1, change := .address }]
      else [{ mark := p.1, change := .current }]
    else []

/-- Claiming, once the loaded identity has been set (R10 step 2, R52). -/
def claim (tag : Nat) (s : State) : State :=
  let rs := claimReports s tag
  settlePairs (rs.map Report.mark) rs (s.onMarks (slotMap fun _ m => claimMark s tag m))

/-! ## Unthread processing (R53) -/

/-- A provisional mark frozen: FIRM at the address and with the spread it holds. -/
def freeze (m : Mark) : Mark := { m with standing := .firm }

/-- Freeze, retire the unclaimed marks (MARKS_LOST if there was one), free slot 0. The reports of this step find no
locate and no armed entry left (R60, R167, R192). -/
def unthreadMarks (s : State) : State :=
  let lost := (s.marks.filter fun p => p.2.tag = none).map Prod.fst
  let s := s.onMarks (slotMap fun _ m => freeze m)
  let s := lost.foldl (fun s n => freeSlot n s) s
  freeSlot 0 (raiseIf (decide (lost ≠ [])) .marksLost s)

end Sys2Proof.Machine
end

