-- ==== Sys2Proof/Machine/Motion.lean ====
section
/-!
DEFINITION. Motion: the transport requests of unit 0 (R62 to R74), LOCATE and how a locate begins (R80 to R84), the
START edge in HOLD (R96), and LOCATE READ (R100).
-/

namespace Sys2Proof.Machine

/-! ## Answers by mode (R74) -/

/-- How the transport answers a motion request: at once, held pending a restore, or with a refusal. -/
inductive Gate where
  | now
  | held
  | refuse (c : Code)
deriving DecidableEq, Repr

/-- The first column of R74's table. -/
def motionGate : Mode → Gate
  | .empty => .refuse .noTape
  | .released => .refuse .notEngaged
  | .engaging => .refuse .notReady
  | .stopped .full => .now
  | .stopped _ => .held
  | .play _ => .now
  | .cue => .now
  | .wind => .now
  | .locate _ => .now
  | .stopping .normal => .now
  | .stopping .safe => .refuse .faulted
  | .releasing => .refuse .busy
  | .halting => .refuse .busy

/-! ## Motions begun -/

/-- PLAY ENTRY entered; a locate in progress ends SUPERSEDED (R69, R73). -/
def beginPlay (s : State) : State := enterPlay (endLocate .superseded s)

/-- CUE entered at a wanted speed (R71, R73). -/
def beginCue (want : Int) (s : State) : State :=
  (enterMode .cue (endLocate .superseded s)).onMotion fun x => { x with want := want }

/-- WIND entered at a wanted speed (R72, R73). -/
def beginWind (want : Int) (s : State) : State :=
  (enterMode .wind (endLocate .superseded s)).onMotion fun x => { x with want := want }

/-- The context of a locate that begins now (R83). -/
def newLocate (t : Target) (preroll : Nat) (f : FollowOn) (limit : Nat) (s : State) : LocCtx where
  target      := t
  preroll     := preroll
  followOn    := f
  holdLimit   := limit
  targetTick  := targetTick s t preroll
  approach    := approachDistance s t
  searchStart := s.tracker.counter
  latch       := false
  reversals   := 0
  lastDir     := none
  creep       := none
  judgement   := none
  holdTimer   := 0

/-- The phase chosen from the estimate and the measured speed as they stand (R83). -/
def firstPhase (c : LocCtx) (s : State) : LocPhase :=
  if quality s = .unknown then .search
  else if distance s c ≤ c.approach ∧ mag s.servo.vMeas ≤ Config.headContact then .approach
  else .run

/-- A locate begins (R83): one in progress ends SUPERSEDED, and the mode becomes LOCATE in its first phase. -/
def beginLocate (c : LocCtx) (s : State) : State :=
  let s := endLocate .superseded s
  (enterMode (.locate (firstPhase c s)) (setLoc c s)).onMotion fun x => { x with still := 0 }

/-- A held request begins as though it had been accepted in STOPPED FULL now (R66, R84). -/
def beginHeld (h : Held) (s : State) : State :=
  match h with
  | .play => beginPlay s
  | .cue w => beginCue w s
  | .wind w => beginWind w s
  | .locate c => beginLocate (newLocate c.target c.preroll c.followOn c.holdLimit s) s

/-- A motion request held pending a restore (R66): a pending one is replaced; a restore not yet running starts. -/
def holdRequest (h : Held) (s : State) : State :=
  let s := dropHeld .superseded s
  let s :=
    if s.motion.mode = .stopped .restoring then s
    else
      (enterMode (.stopped .restoring) s).onMotion fun x =>
        { x with restoreK := 0, setpoint := ((activeProfile s).tPlay : Int) / 2 }
  s.onMotion fun x => { x with held := some h }

/-! ## ENGAGE, RELEASE, STOP -/

/-- An accepted ENGAGE (R62, R105, R111, R112). -/
def beginEngage (n : Nat) (s : State) : State :=
  let s := s.onStore fun c => { c with active := n }
  let s := (enterMode .engaging s).onMotion fun x =>
    { x with vCmd := 0, leader := none, rampK := 0, engageTimer := 0, setpoint := 0 }
  restartWindow (midpointRadii (activeProfile s) (s.onServo fun v =>
    { v with cmdSupply := 0, cmdTakeUp := 0, drives := true, ready := 0, rampDone := false }))

/-- ENGAGE (R62). -/
def reqEngage (n : Nat) : Handler := fun _ s =>
  match s.motion.mode with
  | .empty => (.refuse .noTape, s)
  | .engaging => (.refuse .notReady, s)
  | .released =>
    if s.scanner.optical = .clear then (.refuse .noTape, s)
    else if s.monitor.faults ≠ [] then (.refuse .faulted, s)
    else if 7 < n then (.refuse .range, s)
    else (.ok, beginEngage n s)
  | _ => (.refuse .busy, s)

/-- RELEASE (R64). A pending request is dropped, a held LOCATE ending STOPPED (R84). -/
def reqRelease : Handler := fun _ s =>
  match s.motion.mode with
  | .stopped _ => (.ok, dropHeld .stopped (enterReleasing s))
  | .engaging => (.ok, enterReleasing s)
  | .play _ => (.refuse .busy, s)
  | .cue => (.refuse .busy, s)
  | .wind => (.refuse .busy, s)
  | .locate _ => (.refuse .busy, s)
  | .stopping _ => (.refuse .busy, s)
  | _ => (.ok, s)

/-- STOP's effect by mode (R67). -/
def stopEffect (s : State) : State :=
  match s.motion.mode with
  | .play _ => enterStopping .normal s
  | .cue => enterStopping .normal s
  | .wind => enterStopping .normal s
  | .locate _ => enterStopping .normal (endLocate .stopped s)
  | .stopped .full => s.onMotion fun x => { x with idle := 0 }
  | .stopped .restoring => dropHeld .stopped s
  | _ => s

/-- STOP (R67): never refused. -/
def reqStop : Handler := fun _ s => (.ok, stopEffect s)

/-! ## PLAY, CUE, WIND -/

/-- PLAY (R69): slot 0 is captured at acceptance (log entry 22). -/
def reqPlay : Handler := fun _ s =>
  match motionGate s.motion.mode with
  | .refuse c => (.refuse c, s)
  | .held => (.ok, holdRequest .play (captureReturn s))
  | .now =>
    match s.motion.mode with
    | .play _ => (.ok, captureReturn s)
    | _ => (.ok, beginPlay (captureReturn s))

/-- The speed of CUE in blocks/s after its two clamps (R71). -/
def cueSpeed (s : State) (v : Int) : Int :=
  clampInt (-(activeProfile s).windMax) (activeProfile s).windMax (clampInt (-400) 400 v)

/-- CUE (R71). -/
def reqCue (v : Int) : Handler := fun _ s =>
  match motionGate s.motion.mode with
  | .refuse c => (.refuse c, s)
  | .held => (.clampedIf (decide (cueSpeed s v ≠ v)) [], holdRequest (.cue (100 * cueSpeed s v)) s)
  | .now => (.clampedIf (decide (cueSpeed s v ≠ v)) [], beginCue (100 * cueSpeed s v) s)

/-- The wanted speed of WIND (R72). -/
def windWant (s : State) (d : Dir) (speed : Nat) : Int :=
  match d with
  | .forward => 100 * (min speed (activeProfile s).windMax : Nat)
  | .reverse => -(100 * (min speed (activeProfile s).windMax : Nat))

/-- WIND (R72). R72 names no code for a direction character other than 0 and 1: RANGE, as R183 says is usual (the model's
choice, log entry 28). -/
def reqWind (direction speed : Nat) : Handler := fun _ s =>
  match motionGate s.motion.mode with
  | .refuse c => (.refuse c, s)
  | g =>
    match dirOf direction with
    | none => (.refuse .range, s)
    | some d =>
      if speed = 0 ∨ 1200 < speed then (.refuse .range, s)
      else
        (.clampedIf (decide ((activeProfile s).windMax < speed)) [],
          if g = .held then holdRequest (.wind (windWant s d speed)) s else beginWind (windWant s d speed) s)

/-! ## LOCATE (R80 to R82) -/

/-- The target of a LOCATE resolved: checks 1 to 3 as far as they concern it. -/
def resolveTarget (t : LocTarget) (s : State) : Except Code Target :=
  match t with
  | .mark n =>
    match markAt s n with
    | some m => if IsCurrent s m then .ok (.mark n) else .error .noMark
    | none => .error .noMark
  | .address a => .ok (.address a)
  | .next =>
    if quality s = .unknown then .error .noPosition
    else
      match findNext s with
      | some p => .ok (.mark p.1)
      | none => .error .noMark
  | .previous =>
    if quality s = .unknown then .error .noPosition
    else
      match findPrevious s with
      | some p => .ok (.mark p.1)
      | none => .error .noMark

/-- The mark number or the address of the target lies out of range. -/
def targetOut (t : LocTarget) (s : State) : Bool :=
  match t with
  | .mark n => decide (99 < n)
  | .address a => decide (AddrOut s a)
  | .next => false
  | .previous => false

/-- A parameter of LOCATE lies out of range (check 1). -/
abbrev LocateOut (t : LocTarget) (preroll limit : Nat) (s : State) : Prop :=
  targetOut t s = true ∨ 3000 < preroll ∨ 60000 < limit

/-- The target tick had to be clamped (R82). -/
abbrev TargetClamped (s : State) (t : Target) (preroll : Nat) : Prop := rawTarget s t preroll ≠ targetTick s t preroll

/-- The reply of an accepted LOCATE: mark, target tick, target address, phase (R80). -/
def locateReply (s : State) (c : LocCtx) (phase : Nat) : List Byte :=
  optField (fun n : Nat => n1 n) c.target.markNumber ++ n4 c.targetTick ++ addrField (addrOf c.targetTick (spb s)) ++ n1 phase

/-- LOCATE (R80). -/
def reqLocate (t : LocTarget) (preroll followOn limit : Nat) : Handler := fun _ s =>
  match motionGate s.motion.mode with
  | .refuse c => (.refuse c, s)
  | g =>
    match followOnOf followOn with
    | none => (.refuse .range, s)
    | some f =>
      if LocateOut t preroll limit s then (.refuse .range, s)
      else
        match resolveTarget t s with
        | .error c => (.refuse c, s)
        | .ok target =>
          let c := newLocate target preroll f limit s
          let clamped := decide (TargetClamped s target preroll)
          if g = .held then (.clampedIf clamped (locateReply s c heldNumber), holdRequest (.locate c) s)
          else (.clampedIf clamped (locateReply s c (firstPhase c s).number), beginLocate c s)

/-! ## START edge in HOLD (R96) -/

/-- A START edge reported by the Capstan and Reference Unit. -/
def startEdge (s : State) : State :=
  match s.motion.mode with
  | .locate .hold =>
    match s.motion.loc with
    | some c => captureReturn (enterPlay (endLocate (c.judgement.getD .reckoned).toEnd s))
    | none => s
  | _ => s

/-! ## LOCATE READ (R100) -/

/-- Kind, then mark number or block:sample. -/
def targetField : Target → List Byte
  | .mark n => n1 0 ++ n1 n
  | .address a => n1 1 ++ addrField a

/-- A locate in progress or held. -/
def ctxField (s : State) (phase : Nat) (c : LocCtx) : List Byte :=
  n1 phase ++ targetField c.target ++ n4 c.targetTick ++ n4 c.approach ++ n4 (distance s c) ++ n4 s.motion.vCmd ++
  n2 c.preroll ++ n1 c.followOn.number ++ n2 c.holdLimit ++ firstOf c.latch ++ n1 c.reversals ++
  (if s.motion.mode = .locate .hold then
     optField (fun j : Judgement => n1 j.number) c.judgement ++ optField (fun t : Nat => n2 t) (some c.holdTimer)
   else optField n1 none ++ optField n1 none)

/-- The locate that LOCATE READ reports, with its phase character. -/
def locateInProgress (s : State) : Option (Nat × LocCtx) :=
  match s.motion.mode, s.motion.loc, s.motion.held with
  | .locate p, some c, _ => some (p.number, c)
  | _, _, some (.locate c) => some (heldNumber, c)
  | _, _, _ => none

def resultField (r : LocResult) : List Byte :=
  n4 r.targetTick ++ optField (fun n : Nat => n1 n) r.mark ++ n1 r.result.number ++ optField n4 r.error ++ n1 r.reversals

/-- LOCATE READ (R100). -/
def reqLocateRead : Handler := fun _ s =>
  (.okWith (optField (fun p : Nat × LocCtx => ctxField s p.1 p.2) (locateInProgress s) ++ optField resultField s.motion.result), s)

end Sys2Proof.Machine
end

