-- ==== Sys2Proof/Machine/Reference.lean ====
section
/-!
DEFINITION. Reference: the Capstan and Reference Unit (chapter 7): the block reference, qualification, silence, changes
of the reference in use, phase events and the lock, the START input, and the unit's requests.
-/

namespace Sys2Proof.Machine

/-! ## Restarts and changes of state (R133, R138) -/

/-- A divider restart: count 0, no period open, no derived period since. -/
def restartDivider (s : State) : State := s.onCapstan fun c => { c with divider := 0, openAt := none, latest := none }

/-- Qualification count 0 and a divider restart. -/
def restartQualification (s : State) : State := (restartDivider s).onCapstan fun c => { c with qual := 0 }

/-- What every change of the reference in use brings: UNLOCKED with both counts 0, correction 0, the command sent
again, and the gate conditions judged (R138, R142, R144, R151). -/
def referenceTurned (s : State) : State :=
  gateGuard (driveCapstan ((unlockCapstan s).onCapstan fun c => { c with correction := 0 }))

/-- The reference state becomes `r`, which is not EXTERNAL; leaving EXTERNAL, the internal reference is in use (R138). -/
def moveRefState (r : RefState) (s : State) : State :=
  if s.capstan.refState = r then s
  else if s.capstan.refState = .external then
    referenceTurned <| raise .referenceChange <| s.onCapstan fun c =>
      { c with refState := r, period := 10000, lastEdge := c.lastInternal, vRef := 10000 }
  else raise .referenceChange (s.onCapstan fun c => { c with refState := r })

/-- v_ref on the word-clock reference (R139). -/
def refSpeed (p : Nat) : Int := 100000000 / (p : Int)

/-- EXTERNAL entered by the derived edge at time `t` that closed the period `p` (R135, R138). -/
def enterExternal (p : Nat) (t : Count32) (s : State) : State :=
  referenceTurned <| raise .referenceChange <| s.onCapstan fun c =>
    { c with refState := .external, qual := 64, period := p, lastEdge := t, vRef := refSpeed p }

/-! ## Reference edges (R144) -/

/-- A reference edge in PLAY RUN: the missed-edge count rises, and at 4 lock and correction go. -/
def referenceEdge (s : State) : State :=
  if InRun s then
    if s.capstan.missed = 3 then
      gateGuard <| driveCapstan <| s.onCapstan fun c => { c with missed := 4, lock := false, lockCount := 0, correction := 0 }
    else s.onCapstan fun c => { c with missed := min 4 (c.missed + 1) }
  else s

/-- An internal edge, 10,000 µs after the one before (R132). -/
def internalEdge (s : State) : State :=
  let s := s.onCapstan fun c => { c with lastInternal := c.lastInternal + 10000, timebase := c.lastInternal + 10000 }
  if s.capstan.refState = .external then s
  else referenceEdge (s.onCapstan fun c => { c with lastEdge := c.lastInternal })

/-! ## Word clock (R133, R135, R136) -/

/-- A good period (R133). -/
abbrev GoodPeriod (p : Nat) : Prop := 8929 ≤ p ∧ p ≤ 11363

/-- A derived period closed at time `t` (R135). -/
def derivedPeriod (p : Nat) (t : Count32) (s : State) : State :=
  let s := s.onCapstan fun c => { c with latest := some p }
  if s.capstan.refState = .external then
    if GoodPeriod p then
      referenceEdge <| driveCapstan <| s.onCapstan fun c => { c with period := p, lastEdge := t, vRef := refSpeed p }
    else moveRefState .fallback (s.onCapstan fun c => { c with qual := 0 })
  else if GoodPeriod p then
    if 64 ≤ s.capstan.qual + 1 then enterExternal p t s else s.onCapstan fun c => { c with qual := c.qual + 1 }
  else s.onCapstan fun c => { c with qual := 0 }

/-- A derived edge at time `t` (R133): it closes the open period, if any, and opens the next. -/
def derivedEdge (t : Count32) (s : State) : State :=
  match s.capstan.openAt with
  | none => s.onCapstan fun c => { c with openAt := some t }
  | some t0 => derivedPeriod (t - t0).toNat t (s.onCapstan fun c => { c with openAt := some t })

/-- A word-clock edge at time `t` (R133, R136). -/
def wordClockEdge (t : Count32) (s : State) : State :=
  let s := s.onCapstan fun c => { c with timebase := t }
  if s.capstan.refState = .internal then s
  else
    let s := s.onCapstan fun c => { c with silence := some t }
    if spb s ≤ s.capstan.divider + 1 then derivedEdge t (s.onCapstan fun c => { c with divider := 0 })
    else s.onCapstan fun c => { c with divider := c.divider + 1 }

/-- The silence timer reaches 1,000 µs (R136). -/
def silenceTimeout (s : State) : State :=
  if s.capstan.refState = .internal ∨ s.capstan.silence = none then s
  else
    let s := if s.capstan.refState = .external then moveRefState .fallback s else s
    (restartQualification s).onCapstan fun c => { c with silence := none }

/-- A change of the loaded spb (R137). -/
def spbChanged (s : State) : State :=
  if s.capstan.refState = .internal then s else restartQualification (moveRefState .qualifying s)

/-! ## Phase events (R141 to R143) -/

/-- The phase error of a read that arrived at time `t` (R141). -/
def phaseError (c : Capstan) (t : Count32) : Int :=
  let d : Int := (t - c.lastEdge).toNat
  clampInt (-5000) 5000 (if d ≤ (c.period : Int) / 2 then d else d - c.period)

/-- The lock and its count after a phase event in PLAY RUN (R143). -/
def judgeLock (e : Int) (c : Capstan) : Capstan :=
  if c.lock then
    if 2500 < mag e then { c with lock := false, lockCount := 0 } else c
  else if mag e ≤ 1250 then { c with lock := decide (16 ≤ c.lockCount + 1), lockCount := c.lockCount + 1 }
  else { c with lockCount := 0 }

/-- The hand-over of an accepted read (R141 to R143). -/
def phaseEvent (t : Count32) (s : State) : State :=
  let e := phaseError s.capstan t
  let s := s.onCapstan fun c => { c with lastPhase := some e }
  if InRun s then
    gateGuard <| driveCapstan <| s.onCapstan fun c =>
      judgeLock e { c with correction := clampInt (-500) 500 (e.tdiv 4), missed := 0 }
  else s

/-! ## START (R145) -/

/-- The sample is a START edge. -/
abbrev StartEdgeNow (s : State) (high : Bool) : Prop :=
  high = false ∧ s.capstan.startArmed = true ∧ s.capstan.startHigh = true

/-- A sample of the START input. -/
def startSample (high : Bool) (s : State) : State :=
  if high then
    s.onCapstan fun c =>
      { c with startHigh := true, startCount := min 10 (c.startCount + 1), startArmed := c.startArmed || decide (9 ≤ c.startCount) }
  else if StartEdgeNow s high then
    startEdge (s.onCapstan fun c =>
      { c with startHigh := false, startCount := 0, startArmed := false, startEdges := (c.startEdges + 1) % 65536 })
  else s.onCapstan fun c => { c with startHigh := false, startCount := 0 }

/-! ## Requests -/

/-- INTERNAL selected (R134). In the state INTERNAL the divider stands at 0 with no period open and the silence timer
does not run (R133); the count is set to 0 (log entry 29). -/
def selectInternal (s : State) : State :=
  let s := s.onCapstan fun c => { c with selection := .internal }
  if s.capstan.refState = .internal then s
  else (restartQualification (moveRefState .internal s)).onCapstan fun c => { c with silence := none }

/-- WORD_CLOCK selected (R134). The divider restart leaves no derived period open, so the period that was open at the request
is never measured, also where its closing edge comes next (R133 and R134 leave it open: the model's choice, log entry 34). -/
def selectWordClock (s : State) : State :=
  restartQualification (moveRefState .qualifying (s.onCapstan fun c => { c with selection := .wordClock }))

/-- REFERENCE SELECT (R134). -/
def reqReferenceSelect (x : Nat) : Handler := fun _ s =>
  match selectionOf x with
  | none => (.refuse .range, s)
  | some .internal => (.ok, selectInternal s)
  | some .wordClock => (.ok, selectWordClock s)

/-- REFERENCE READ (R146). -/
def reqReferenceRead : Handler := fun _ s =>
  let c := s.capstan
  (.okWith (n1 c.selection.number ++ n1 c.refState.number ++ n1 c.qual ++ optField (fun p : Nat => n4 p) c.latest ++ n2 (spb s) ++
    n2 c.period ++ n2 c.vRef ++ firstOf c.enable ++ n2 c.command ++ firstOf c.lock ++ n1 c.lockCount ++ n1 c.missed ++
    optField n2 c.lastPhase ++ n2 c.correction ++ firstOf c.startHigh ++ yesNo c.startArmed ++ n2 c.startEdges), s)

end Sys2Proof.Machine
end

