-- ==== Sys2Proof/Machine/Tracker.lean ====
section
/-!
DEFINITION. Tracker: the Position Tracker (chapter 1): the roller counter, address reads, reel identification, the
anchor map, clearing, and the tracker's requests.
-/

namespace Sys2Proof.Machine

/-! ## The roller counter (R3) -/

/-- The counter after one count: it holds at its limits. -/
def stepCounter (d : Dir) (c : Int) : Int :=
  match d with
  | .forward => if c = Config.counterMax then c else c + 1
  | .reverse => if c = Config.counterMin then c else c - 1

/-- A count of the measuring roller: the tracker's counter, the servo's accumulator, and the Punch Unit's position
test (R3, R101, R155). -/
def rollerCount (d : Dir) (s : State) : State :=
  positionTest (servoRoller d (s.onTracker fun t => { t with counter := stepCounter d t.counter }))

/-! ## Classification (R6, R8) -/

/-- Head contact within the speed window. -/
abbrev InReadWindow (s : State) : Prop :=
  s.motion.liftersUp = false ∧ Config.readSlow ≤ mag s.servo.vMeas ∧ mag s.servo.vMeas ≤ Config.readFast

/-- The read is good-format (R6). -/
abbrev GoodFormat (r : TapeRead) (s : State) : Prop :=
  r.good = true ∧ InReadWindow s ∧ r.tag ≠ 0 ∧ r.block ≤ Config.maxBlock

/-- The identity a read carries. -/
def readReel (r : TapeRead) : ReelId where
  tag  := r.tag
  rate := r.rate

/-- A rejected read (R8). -/
def rejectRead (s : State) : State :=
  if InReadWindow s then
    raiseIf (decide (s.tracker.rejects = 15)) .addressDropout
      (s.onTracker fun t => { t with rejects := min 65535 (t.rejects + 1) })
  else s

/-! ## The anchor map (R16 to R20) -/

/-- The slope test of a segment (R12). -/
abbrev SlopeOk (dTicks dCount : Int) : Prop := 19 * dCount ≤ 20 * dTicks ∧ 20 * dTicks ≤ 21 * dCount

/-- `a` may stand below `b` (R19). -/
abbrev Below (a b : Anchor) : Prop :=
  a.ticks < b.ticks ∧ a.count < b.count ∧ SlopeOk (b.ticks - a.ticks) (b.count - a.count)

/-- The anchors a placement starts from (R18): the live anchor removed if nearer than 10,000 counts, otherwise made
permanent. -/
def beforePlacement (c : Int) (map : List Anchor) : List Anchor :=
  match liveAnchor map with
  | some l => if mag (c - l.count) < 10000 then map.filter fun a => !a.live else map.map fun a => { a with live := false }
  | none => map

/-- `r` inserted in count order with its neighbours cleaned up (R18, R19). -/
def insertClean (r : Anchor) (map : List Anchor) : List Anchor :=
  ((map.filter fun a => decide (a.count ≤ r.count)).reverse.dropWhile fun a => decide (¬ Below a r)).reverse ++
    r :: (map.filter fun a => decide (r.count < a.count)).dropWhile fun a => decide (¬ Below r a)

/-- The interior anchors but the live one, as count and gap to the lower neighbour (R20). -/
def interiorGaps : List Anchor → List (Int × Int)
  | a :: b :: c :: r => (if b.live then [] else [(b.count, b.count - a.count)]) ++ interiorGaps (b :: c :: r)
  | _ => []

/-- The count of the candidate with the smallest gap, the lowest count between equal gaps. -/
def thinnest (l : List (Int × Int)) : Option Int :=
  (l.foldl
    (fun acc p =>
      match acc with
      | none => some p
      | some b => if p.2 < b.2 then some p else acc)
    (none : Option (Int × Int))).map Prod.fst

/-- Thinning (R20). -/
def thin (map : List Anchor) : List Anchor :=
  if map.length ≤ Config.maxAnchors then map
  else
    match thinnest (interiorGaps map) with
    | some c => map.filter fun a => a.count ≠ c
    | none => map

/-- The anchor a read places. -/
def readAnchor (r : TapeRead) : Anchor where
  count := r.latched
  ticks := r.block * 100
  live  := true

/-- The map after a placement with its cleanup and thinning. -/
def placeAnchor (r : Anchor) (map : List Anchor) : List Anchor := thin (insertClean r (beforePlacement r.count map))

/-! ## Accepted reads (R16, R17, R21) -/

/-- A map change handed on: re-evaluation, the block-edge event with the gate conditions on the new estimate, the phase
event (R21, R151, R158; log entry 14). -/
def handOn (r : TapeRead) (s : State) : State := phaseEvent r.time (blockEdge r.block (reevaluate s))

/-- The residual of a read (R16). -/
def residual (r : TapeRead) (s : State) : Int := (readAnchor r).ticks - estimateAt s.tracker.map r.latched

/-- A read that finds no jump candidate held: it becomes one, or is placed (R16, R18). -/
def freshRead (r : TapeRead) (s : State) : State :=
  if s.tracker.map ≠ [] ∧ 5000 < mag (residual r s) then
    s.onTracker fun t => { t with jump := some { count := r.latched, block := r.block } }
  else handOn r (s.onTracker fun t => { t with map := placeAnchor (readAnchor r) t.map })

/-- Two reads lie as far apart on the tape as the roller says (R17). -/
abbrev JumpAgrees (j : Jump) (r : TapeRead) : Prop :=
  mag (((r.block : Int) - j.block) * 100 - (r.latched - j.count)) ≤ 200

/-- A re-base (R17). -/
def rebase (r : TapeRead) (s : State) : State :=
  handOn r (raise .rebased (s.onTracker fun t => { t with jump := none, map := [(readAnchor r)] }))

/-- An accepted read (R8, R16, R17). -/
def acceptRead (r : TapeRead) (s : State) : State :=
  let s := s.onTracker fun t => { t with rejects := 0 }
  match s.tracker.jump with
  | some j => if JumpAgrees j r then rebase r s else freshRead r (s.onTracker fun t => { t with jump := none })
  | none => freshRead r s

/-! ## Identification (R9, R10) -/

/-- Steps 1 to 4 of R10. -/
def adoptReel (id : ReelId) (s : State) : State :=
  let old := spb s
  let s := s.onTracker fun t => { t with loaded := some id, candidate := none }
  let s := raise .reelIdentified (identifyTarget (claim id.tag s))
  if spb s ≠ old then spbChanged s else s

/-- A good-format read while the loaded tag is ABSENT (R9). -/
def identifyRead (r : TapeRead) (s : State) : State :=
  if s.tracker.candidate = some (readReel r) then acceptRead r (adoptReel (readReel r) s)
  else rejectRead (s.onTracker fun t => { t with candidate := some (readReel r) })

/-- An address read (R7), with its time stamp on the timebase (R132). -/
def addressRead (r : TapeRead) (s : State) : State :=
  let s := s.onCapstan fun c => { c with timebase := r.time }
  if GoodFormat r s then
    match s.tracker.loaded with
    | none => identifyRead r s
    | some id => if (readReel r) = id then acceptRead r s else rejectRead s
  else rejectRead s

/-! ## Clearing (R22) -/

/-- The tracker's values after unthread and warm reset. -/
def clearTracker (s : State) : State :=
  let old := spb s
  let s := s.onTracker fun _ =>
    { counter := 0, map := [], jump := none, loaded := none, candidate := none, rejects := 0 }
  if spb s ≠ old then spbChanged s else s

/-! ## Requests (R24, R25) -/

/-- Loaded rate as listed: 44.1 kHz, 48 kHz, NONE. -/
def rateNumber : Option ReelId → Nat
  | none => 2
  | some r =>
    match r.rate with
    | .r44100 => 0
    | .r48000 => 1

/-- POSITION READ (R24). -/
def reqPositionRead : Handler := fun _ s =>
  let t := s.tracker
  (.okWith (n4 t.counter ++ n4 (estimate s) ++ addrField (placeHere s) ++ n1 (quality s).number ++
    optField (fun n : Nat => n2 n) (loadedTag s) ++ n1 (rateNumber t.loaded) ++ n1 t.map.length ++ yesNo t.jump.isSome ++
    n2 t.rejects ++ n2 s.servo.rSupply ++ n2 s.servo.rTakeUp ++ n4 s.servo.vMeas), s)

/-- ANCHOR READ (R25). -/
def reqAnchorRead (index : Nat) : Handler := fun _ s =>
  match s.tracker.map[index]? with
  | some a => (.okWith (n1 index ++ n4 a.count ++ n4 a.ticks ++ n4 (blockOf a.ticks) ++ yesNo a.live), s)
  | none => (.refuse .range, s)

end Sys2Proof.Machine
end

