-- ==== Sys2Proof/Machine/Store.lean ====
section
/-!
DEFINITION. Store: the Settings Store (chapter 9): profiles, the two sectors, saving, and the store's requests.
-/

namespace Sys2Proof.Machine

/-! ## Profiles (R168, R170, R171) -/

/-- Every numeric field lies in its range (R168). -/
abbrev ProfileRanges (p : Profile) : Prop :=
  (2500 ≤ p.hub ∧ p.hub ≤ 10000) ∧ (10000 ≤ p.flange ∧ p.flange ≤ 19000 ∧ p.hub + 2000 ≤ p.flange) ∧
  (1000 ≤ p.nominal ∧ p.nominal ≤ 1048575) ∧ (50 ≤ p.tPlay ∧ p.tPlay ≤ 400) ∧ (50 ≤ p.tWind ∧ p.tWind ≤ 400) ∧
  p.gain ≤ 255 ∧ (1 ≤ p.kv ∧ p.kv ≤ 255) ∧ (40000 ≤ p.aLight ∧ p.aLight ≤ 400000) ∧
  (40000 ≤ p.aFull ∧ p.aFull ≤ p.aLight) ∧ (200 ≤ p.windMax ∧ p.windMax ≤ 1200) ∧
  (100 ≤ p.torque ∧ p.torque ≤ 1500) ∧ (5 ≤ p.slew ∧ p.slew ≤ 200) ∧ p.easeTime ≤ 600

/-- The name fits (R168). -/
abbrev NameOk (l : Label) : Prop := l.length ≤ 12 ∧ PlainLabel l

/-- An accepted write (R171): a change of the active profile's hub or flange sets both radii to the new midpoint. -/
def writeProfile (n : Nat) (p : Profile) (s : State) : State :=
  let old := s.store.profiles.getD n Config.factoryProfile
  let s' := s.onStore fun c => { c with profiles := c.profiles.set n p }
  if n = s.store.active ∧ (p.hub ≠ old.hub ∨ p.flange ≠ old.flange) then midpointRadii p s' else s'

/-- PROFILE WRITE (R171). -/
def reqProfileWrite (n : Nat) (p : Profile) : Handler := fun _ s =>
  if 7 < n then (.refuse .range, s)
  else if ¬ NameOk p.name then (.refuse .range, s)
  else if ¬ ProfileRanges p then (.refuse .range, s)
  else if n = s.store.active ∧ ¬ Parked s then (.refuse .inUse, s)
  else (.ok, writeProfile n p s)

/-- The fields of a record, in the order and widths of R168. -/
def profileField (p : Profile) : List Byte :=
  labelField p.name ++ n2 p.hub ++ n2 p.flange ++ n4 p.nominal ++ n2 p.tPlay ++ n2 p.tWind ++ n1 p.gain ++ n1 p.kv ++
  n4 p.aLight ++ n4 p.aFull ++ n2 p.windMax ++ n2 p.torque ++ n1 p.slew ++ n2 p.easeTime

/-- PROFILE READ (R170). -/
def reqProfileRead (n : Nat) : Handler := fun _ s =>
  if 7 < n then (.refuse .range, s)
  else
    (.okWith (n1 n ++ profileField (s.store.profiles.getD n Config.factoryProfile) ++ yesNo (decide (n = s.store.active)) ++
      n1 s.store.active), s)

/-! ## Sectors (R172, R173) -/

/-- The constants of an arm lie in their ranges. -/
def calInRange (c : ArmCal) : Bool :=
  decide (64 ≤ c.centre ∧ c.centre ≤ 4031 ∧ 0 ≤ c.base ∧ c.base ≤ 1000 ∧ 1 ≤ c.rate ∧ c.rate ≤ 1024)

/-- The factory sector is valid (R172). -/
def FactorySector.valid (f : FactorySector) : Bool :=
  f.checkOk && calInRange f.supply && calInRange f.takeUp &&
  decide (1 ≤ f.serial ∧ f.serial ≤ 4294967295 ∧ f.revision ≤ 255)

/-- The user sector is valid (R173). -/
def UserSector.valid (u : UserSector) : Bool := u.marker && u.checkOk

/-! ## Saving (R174, R175) -/

/-- A mark as the snapshot takes it: FIRM, with its spread, without a capture count. -/
def savedMark (m : Mark) : Mark := { m with standing := .firm }

/-- The snapshot. -/
def snapshot (s : State) : Image where
  profiles  := s.store.profiles
  marks     := slotMap (fun _ m => savedMark m) (s.marks.filter fun p => p.1 ≠ 0 ∧ p.2.tag ≠ none)
  selection := s.capstan.selection

/-- STORE SAVE (R174): the first act of the save clears the sector flag and the marker (R173; log entry 19). -/
def reqStoreSave : Handler := fun _ s =>
  match s.store.save with
  | some _ => (.refuse .busy, s)
  | none =>
    (.okWith (n1 (snapshot s).marks.length), s.onStore fun c =>
      { c with save := some { stage := 1, snapshot := snapshot s }, sectorFlag := false, user := { c.user with marker := false } })

/-- What the end of a stage before the last leaves on the medium. -/
def stageWritten (stage : Nat) (i : Image) (u : UserSector) : UserSector :=
  if stage = 2 then
    { u with image := { u.image with profiles := i.profiles, selection := i.selection }, checkOk := false }
  else if stage = 3 then
    { u with image := { u.image with marks := i.marks }, count := i.marks.length, checkOk := false }
  else { u with marker := false }

/-- The end of stage 4 (R175). -/
def saveEnd (agrees : Bool) (i : Image) (s : State) : State :=
  raise .storeDone <| s.onStore fun c =>
    { c with
      save := none
      sectorFlag := agrees
      lastSave := if agrees then .done else .failed
      user := if agrees then { image := i, count := i.marks.length, marker := true, checkOk := true } else c.user }

/-- A save stage ends on the medium; `agrees` is the outcome of stage 4's read-back (R175). -/
def saveStageEnd (agrees : Bool) (s : State) : State :=
  match s.store.save with
  | none => s
  | some v =>
    if v.stage < 4 then
      s.onStore fun c =>
        { c with save := some { v with stage := v.stage + 1 }, user := stageWritten v.stage v.snapshot c.user }
    else saveEnd agrees v.snapshot s

/-! ## STORE READ and IDENTIFY (R176, R179) -/

def Source.number : Source → Nat
  | .user => 0
  | .defaults => 1

/-- STORE READ (R176). -/
def reqStoreRead : Handler := fun _ s =>
  let c := s.store
  (.okWith ((match c.save with
      | none => n1 0 ++ optField n1 none ++ optField n1 none
      | some v => n1 1 ++ optField (fun x : Nat => n1 x) (some v.stage) ++ optField (fun x : Nat => n1 x) (some v.snapshot.marks.length)) ++
    firstOf c.sectorFlag ++ optField (fun x : Nat => n1 x) (if c.sectorFlag then some c.user.count else none) ++
    n1 c.lastSave.number ++ n1 c.source.number ++ firstOf c.factoryFlag), s)

/-- IDENTIFY (R179). -/
def reqIdentify : Handler := fun _ s =>
  (.okWith (n2 Config.vendorCode ++ n2 Config.partCode ++ n1 s.store.revision ++ n4 s.store.serial ++
    firstOf s.store.factoryFlag ++ n1 s.link.address ++ n1 99 ++ n1 Config.maxAnchors ++ n1 8 ++ n1 Config.maxEntries), s)

end Sys2Proof.Machine
end

