-- ==== Sys2Proof/Machine/Reset.lean ====
section
/-!
DEFINITION. Reset: the cold start with its internal reset and the start-up of the Settings Store (R177, R199), the end
of the link's silence (R193), and the warm reset of every block (R192).
-/

namespace Sys2Proof.Machine

/-! ## Cold start (R199) -/

/-- The internal reset begins: every output is held safe, the counter is 0, a save is cut short, and the link stops
(R4, R175, R199). The rest of the state is replaced when the internal reset ends (log entry 18). -/
def coldStart (s : State) : State :=
  let s := s.onTracker fun t => { t with counter := 0 }
  let s := s.onMotion fun x => { x with liftersUp := true, pinchIn := false, brakesOn := true }
  let s := s.onServo fun v => { v with cmdSupply := 0, cmdTakeUp := 0, drives := false }
  let s := s.onCapstan fun c => { c with enable := false, command := 0 }
  let s := s.onPunch fun p => { p with gateA := false, gateB := false, monA := false, monB := false, offset := 0 }
  let s := s.onStore fun c => { c with save := none }
  let s := s.onLink fun l => { l with rx := .disregard, tx := .quiet }
  { s with inReset := true }

/-- The saved marks placed in slots 1 to 99, as FIRM (R54). -/
def loadMarks (l : MarkTable) : MarkTable :=
  l.foldl (fun t p => if 1 ≤ p.1 ∧ p.1 ≤ 99 then slotPut p.1 (savedMark p.2) t else t) []

/-- The Settings Store after start-up (R177, R178). -/
def bootStore (c : Store) : Store where
  profiles    := if c.user.valid then c.user.image.profiles else factoryProfiles
  active      := 0
  factory     := c.factory
  factoryFlag := c.factory.valid
  serial      := if c.factory.valid then c.factory.serial else 0
  revision    := if c.factory.valid then c.factory.revision else 0
  user        := c.user
  sectorFlag  := c.user.valid
  save        := none
  lastSave    := .none
  source      := if c.user.valid then .user else .defaults

/-- The reference selection loaded (R177). -/
def bootSelection (c : Store) : RefSel := if c.user.valid then c.user.image.selection else .internal

/-- An arm's calibration as handed to the Reel Servo (R172). -/
def bootCal (c : Store) (cal : ArmCal) : ArmCal := if c.factory.valid then cal else defaultCal

/-- The capstan unit after a cold start (R147): the internal reference starts now (R132). -/
def bootCapstan (now : Count32) (sel : RefSel) : Capstan :=
  { State.reset.capstan with
    timebase := now
    selection := sel
    refState := if sel = .wordClock then .qualifying else .internal
    lastInternal := now
    lastEdge := now }

/-- The card when the internal reset ends: every block at its cold-start values, the start-up of the Settings Store
carried out, the switch and the permit read (R54, R149, R177, R193). -/
def bootState (switch : Nat) (s : State) : State :=
  let c := bootStore s.store
  let p := c.profiles.getD 0 Config.factoryProfile
  let t : State :=
    { State.reset with
      marks := if s.store.user.valid then loadMarks s.store.user.image.marks else []
      servo :=
        { State.reset.servo with
          rSupply := midpoint p
          rTakeUp := midpoint p
          calSupply := bootCal s.store s.store.factory.supply
          calTakeUp := bootCal s.store s.store.factory.takeUp }
      capstan := bootCapstan s.capstan.timebase (bootSelection s.store)
      punch := { State.reset.punch with permitPin := s.punch.permitPin, permit := s.punch.permitPin }
      store := c
      link := { State.reset.link with address := switch }
      pending := s.pending }
  recomputeZones t

/-- The end of the internal reset. -/
def internalResetEnd (switch : Nat) (s : State) : State := if s.inReset then bootState switch s else s

/-- The 250 ms run out (R193): receiving begins at the first idle after them. -/
def linkSilenceEnd (s : State) : State :=
  if s.link.silent then s.onLink fun l => { l with silent := false, rx := .disregard } else s

/-! ## Warm reset (R192) -/

/-- The Motion Controller at warm reset (R79). -/
def warmMotion (s : State) : State :=
  s.onMotion fun x =>
    { x with
      vCmd := 0
      tapeTimer := 0
      leader := none
      idle := 0
      rampK := 0
      engageTimer := 0
      held := none
      loc := none
      result := none }

/-- The Reel Servo at warm reset (R118). -/
def warmServo (s : State) : State :=
  restartWindow <| midpointRadii (activeProfile s) <| s.onServo fun v =>
    { v with
      cmdSupply := 0
      cmdTakeUp := 0
      drives := false
      rampDone := false
      ready := 0
      loss := 0
      runaway := 0
      stopSupply := false
      stopTakeUp := false
      foundSupply := false
      foundTakeUp := false }

/-- The Capstan and Reference Unit at warm reset (R147). -/
def warmCapstan (s : State) : State :=
  let s := if s.capstan.refState = .internal then s else moveRefState .qualifying s
  driveCapstan <| (restartQualification s).onCapstan fun c =>
    { c with silence := none, vRef := 10000, lock := false, lockCount := 0, missed := 0, correction := 0 }

/-- The Fault Monitor at warm reset (R129, R200). A conversion still to be judged is dropped with the counts (the model's
choice, log entry 36). -/
def warmMonitor (s : State) : State :=
  s.onMonitor fun _ => { faults := [], reel2 := 0, reel3 := 0, overload := 0, lowCount := 0, supplyLow := false, due := none }

/-- The Punch Unit at warm reset (R167). -/
def warmPunch (s : State) : State :=
  recomputeZones ((clearPunch s).onPunch fun p => { p with permit := p.permitPin, last := none })

/-- The port's own part, done first (R192). -/
def warmLink (s : State) : State := s.onLink fun l => { l with summary := 0, retry := [] }

/-- The warm reset, in the order of R192. -/
def warmReset (s : State) : State :=
  warmCapstan (warmServo (warmMotion (warmMonitor (warmPunch (clearTracker (unthreadMarks (warmLink s)))))))

end Sys2Proof.Machine
end

