-- ==== Sys2Proof/Machine/Update.lean ====
section
/-!
DEFINITION. Update: the Motion Controller's profile update (R58), in the order of log entry 3: the phase of a locate
(R90 to R97), the speed command (R58, R75, R76, R89), the lifters (R57), the tape end (R61), then the timers and
counts that end a mode (R60, R63 to R66, R68, R69, R78, R93).
-/

namespace Sys2Proof.Machine

/-! ## Phases of a locate, judged before the speed is formed -/

/-- The sign of travel toward the target, applied to a speed. -/
def toward (s : State) (c : LocCtx) (w : Int) : Int := if c.targetTick < estimate s then -w else w

/-- E has reached or passed the target tick in the run's direction (R94). -/
def creepReached (s : State) (c : LocCtx) (d : Dir) : Bool :=
  match d with
  | .forward => decide (c.targetTick ≤ estimate s)
  | .reverse => decide (estimate s ≤ c.targetTick)

/-- The settle latch, set at the first update with d at most 100 (R90). -/
def settle (c : LocCtx) (s : State) : State := if distance s c ≤ 100 then setLoc { c with latch := true } s else s

/-- The passage to APPROACH of R91 and R92. The update that enters the phase already makes the settle test of R90 (the spec
leaves it open: the model's choice, log entry 3). -/
def closeIn (c : LocCtx) (s : State) : State :=
  let s := toApproach c s
  match s.motion.loc with
  | some c => settle c s
  | none => s

/-- SEARCH (R91). -/
def searchPhase (c : LocCtx) (s : State) : State :=
  if quality s ≠ .unknown then
    match firstPhase c s with
    | .approach => closeIn c s
    | _ => toLocateRun c s
  else if 300000 ≤ mag (s.tracker.counter - c.searchStart) then enterStopping .normal (endLocate .noAddress s)
  else s

/-- RUN (R92). -/
def runPhase (c : LocCtx) (s : State) : State :=
  if distance s c ≤ c.approach ∧ mag s.servo.vMeas ≤ Config.headContact then closeIn c s else s

/-- APPROACH (R90, R97). -/
def approachPhase (c : LocCtx) (s : State) : State :=
  if c.approach < distance s c then toLocateRun c s else settle c s

/-- CREEP (R94, R97). -/
def creepPhase (c : LocCtx) (s : State) : State :=
  if c.approach < distance s c then toLocateRun c s
  else
    match c.creep with
    | some d => if creepReached s c d then setLoc { c with creep := none } s else s
    | none => s

/-- HOLD (R96, R97; log entry 3 for the correction before the expiry). -/
def holdPhase (c : LocCtx) (s : State) : State :=
  if c.approach < distance s c then toLocateRun c s
  else if c.holdLimit ≠ 0 ∧ c.holdLimit ≤ c.holdTimer + 1 then enterStoppedFull (endLocate .holdExpired s)
  else setLoc { c with holdTimer := min 60000 (c.holdTimer + 1) } s

/-- The tests of the phase at an update. -/
def phaseTests (s : State) : State :=
  match s.motion.mode, s.motion.loc with
  | .locate .search, some c => searchPhase c s
  | .locate .run, some c => runPhase c s
  | .locate .approach, some c => approachPhase c s
  | .locate .creep, some c => creepPhase c s
  | .locate .hold, some c => holdPhase c s
  | _, _ => s

/-! ## Wanted speed (R58 step 1, R89, R90, R91, R94) -/

/-- The APPROACH curve's magnitude. -/
def approachCurve (d : Int) : Int := min 40000 (isqrtInt (80000 * d))

/-- The RUN curve's magnitude. -/
def runCurve (s : State) (c : LocCtx) : Int :=
  if c.approach < distance s c then
    min (((activeProfile s).windMax : Int) * 100) (isqrtInt (1600000000 + 2 * decelLimit s * (distance s c - c.approach)))
  else approachCurve (distance s c)

/-- The wanted speed of a locate's phase. -/
def locateWant (p : LocPhase) (s : State) (c : LocCtx) : Int :=
  match p with
  | .search => 20000
  | .run => toward s c (runCurve s c)
  | .approach => if c.latch then 0 else toward s c (approachCurve (distance s c))
  | .creep =>
    match c.creep with
    | some .forward => 2500
    | some .reverse => -2500
    | none => 0
  | .hold => 0

/-- The wanted speed w of the mode (R58). -/
def wantedSpeed (s : State) : Int :=
  match s.motion.mode with
  | .play _ => s.capstan.vRef
  | .cue => s.motion.want
  | .wind => s.motion.want
  | .locate p =>
    match s.motion.loc with
    | some c => locateWant p s c
    | none => 0
  | _ => 0

/-- The modes in which v_cmd is set to 0 at once (R58). -/
def Mode.atRest : Mode → Bool
  | .empty => true
  | .released => true
  | .engaging => true
  | .stopped _ => true
  | .releasing => true
  | .halting => true
  | _ => false

/-- A cap of 0 applies: the settle latch is set (R90), or a creep run has ended (R94). -/
def zeroCap (s : State) : Bool :=
  match s.motion.mode, s.motion.loc with
  | .locate .approach, some c => c.latch
  | .locate .creep, some c => c.creep.isNone
  | _, _ => false

/-! ## Direction, end zone and caps (R59, R75, R76) -/

/-- The sign of a speed as a direction. -/
def signDir (v : Int) : Option Dir := if 0 < v then some .forward else if v < 0 then some .reverse else none

/-- The direction of travel outside HALTING: of v_cmd, or of w where v_cmd is 0 (R59). -/
def directionOf (v w : Int) : Option Dir := if v = 0 then signDir w else signDir v

/-- The direction of travel of the transport (R59, R61). -/
def travel (s : State) : Option Dir :=
  if s.motion.mode = .halting then signDir s.servo.vMeas else directionOf s.motion.vCmd (wantedSpeed s)

/-- The forward boundary of the estimate-based zone (R75). -/
def zoneEdge (s : State) : Int := (((activeProfile s).nominal : Int) - 500) * 100

/-- The transport, travelling in this direction, is in the end zone (R75). -/
def inEndZone (s : State) : Dir → Bool
  | .forward =>
    decide (s.servo.rSupply < (activeProfile s).hub + 300 ∨ (quality s ≠ .unknown ∧ zoneEdge s < estimate s))
  | .reverse =>
    decide (s.servo.rTakeUp < (activeProfile s).hub + 300 ∨ (quality s ≠ .unknown ∧ estimate s < 50000))

/-- The distance from E to the estimate-based boundary ahead (R76). -/
def edgeAhead (s : State) : Dir → Int
  | .forward => zoneEdge s - estimate s
  | .reverse => estimate s - 50000

/-- The caps of the end zone on a speed in direction `d` (R76). -/
def endZoneCap (s : State) (d : Dir) (v : Int) : Int :=
  if inEndZone s d then capMag 20000 v
  else if (s.motion.mode = .wind ∨ s.motion.mode = .locate .run) ∧ quality s ≠ .unknown then
    capMag (isqrtInt (400000000 + 2 * decelLimit s * edgeAhead s d)) v
  else v

/-- Step 3 of R58 on the ramped value `v` for the wanted speed `w`. -/
def applyCaps (s : State) (w v : Int) : Int :=
  let v := capMag (((activeProfile s).windMax : Int) * 100) v
  let v := if s.motion.liftersUp then v else capMag Config.headContact v
  let v :=
    match directionOf v w with
    | some d => endZoneCap s d v
    | none => v
  if zeroCap s then 0 else v

/-- Step 2 of R58. -/
def ramped (s : State) (w : Int) : Int :=
  if s.motion.mode = .play .run then s.capstan.vRef else moveToward s.motion.vCmd w (decelLimit s / 1000)

/-- The speed command of this update. -/
def nextSpeed (s : State) : Int :=
  if s.motion.mode.atRest then 0 else applyCaps s (wantedSpeed s) (ramped s (wantedSpeed s))

/-- The direction of travel, where there is one, copied into a locate's last direction (R83). -/
def noteDirection (s : State) : State :=
  match s.motion.mode, s.motion.loc with
  | .locate _, some c =>
    match travel s with
    | some d => setLoc { c with lastDir := some d } s
    | none => s
  | _, _ => s

/-- The speed command formed and the lifters lowered where they may be (R57, R58). A locate notes the direction in which the
transport came to this update, and the one in which it leaves it (R83). -/
def formSpeed (s : State) : State :=
  lowerLifters (noteDirection ((noteDirection s).onMotion fun x => { x with vCmd := nextSpeed s }))

/-! ## Leader and tape end (R61) -/

/-- The modes in which a tape end ends the motion. -/
def Mode.runsTape : Mode → Bool
  | .play _ => true
  | .cue => true
  | .wind => true
  | .locate _ => true
  | _ => false

/-- The modes in which a tape end is only noted. -/
def Mode.endsNoted : Mode → Bool
  | .stopping _ => true
  | .halting => true
  | _ => false

/-- The leader side taken and TAPE_END raised. -/
def noteEnd (d : Dir) (s : State) : State := raise .tapeEnd (s.onMotion fun x => { x with leader := some d })

/-- The optical state taken at an update. -/
def tapeEnd (s : State) : State :=
  match s.scanner.optical with
  | .opaqueTape => s.onMotion fun x => { x with leader := none }
  | .clear =>
    match travel s with
    | none => s
    | some d =>
      if s.motion.mode.runsTape ∧ (s.motion.leader = none ∨ s.motion.leader = some d) then
        enterStopping .normal (endLocate .endOfTape (noteEnd d s))
      else if s.motion.mode.endsNoted ∧ s.motion.leader = none then noteEnd d s
      else s

/-! ## Ends of modes -/

/-- The tape-path timer after an update that sees the state it waits for, or does not (R60). -/
def pathTimer (sees : Bool) (t : Nat) : Nat := if sees then min 500 (t + 1) else 0

/-- Thread (R4, R60). -/
def threadTape (s : State) : State := enterReleased (s.onTracker fun t => { t with counter := 0 })

/-- Unthread (R22, R53, R60, R167). -/
def unthreadTape (s : State) : State :=
  (enterMode .empty (recomputeZones (clearPunch (clearTracker (unthreadMarks s))))).onMotion fun x =>
    { x with leader := none, vCmd := 0, tapeTimer := 0, idle := 0, rampK := 0, engageTimer := 0, held := none, loc := none }

/-- EMPTY. -/
def emptyUpdate (s : State) : State :=
  let t := pathTimer (decide (s.scanner.optical = .opaqueTape)) s.motion.tapeTimer
  if 500 ≤ t then threadTape s else s.onMotion fun x => { x with tapeTimer := t }

/-- RELEASED. -/
def releasedUpdate (s : State) : State :=
  let t := pathTimer (decide (s.scanner.optical = .clear)) s.motion.tapeTimer
  if 500 ≤ t then unthreadTape s else s.onMotion fun x => { x with tapeTimer := t }

/-- ENGAGING (R63): ramp, ramp-complete flag, timeout. -/
def engagingUpdate (s : State) : State :=
  let k := min 200 (s.motion.rampK + 1)
  let s := s.onMotion fun x =>
    { x with rampK := k, engageTimer := x.engageTimer + 1, setpoint := ((activeProfile s).tPlay : Int) * k / 200 }
  let s := if k = 200 then s.onServo fun v => { v with rampDone := true } else s
  if 3000 ≤ s.motion.engageTimer then faultReport .engageTimeout s else s

/-- The level becomes EASED (R65). -/
def easeLevel (s : State) : State :=
  (enterMode (.stopped .eased) s).onMotion fun x => { x with setpoint := ((activeProfile s).tPlay : Int) / 2 }

/-- STOPPED FULL (R65). -/
def stoppedUpdate (s : State) : State :=
  let ease := (activeProfile s).easeTime
  if ease = 0 then s
  else if ease * 1000 ≤ s.motion.idle + 1 then easeLevel s
  else s.onMotion fun x => { x with idle := x.idle + 1 }

/-- The restore is complete: FULL, and the pending request begins (R66). -/
def restoreEnd (s : State) : State :=
  let h := s.motion.held
  let s := (enterStoppedFull s).onMotion fun x => { x with held := none, restoreK := 0 }
  match h with
  | some h => beginHeld h s
  | none => s

/-- A tension restore (R66). -/
def restoreUpdate (s : State) : State :=
  let k := s.motion.restoreK + 1
  let low : Int := ((activeProfile s).tPlay : Int) / 2
  let s := s.onMotion fun x => { x with restoreK := k, setpoint := low + (((activeProfile s).tPlay : Int) - low) * k / 250 }
  if 250 ≤ k then restoreEnd s else s

/-- PLAY ENTRY (R69). -/
def entryUpdate (s : State) : State :=
  if s.motion.liftersUp = false ∧ mag (s.servo.vMeas - s.capstan.vRef) ≤ 500 then
    if 20 ≤ s.motion.entryCount + 1 then
      (enterMode (.play .run) s).onMotion fun x => { x with entryCount := 0 }
    else s.onMotion fun x => { x with entryCount := x.entryCount + 1 }
  else s.onMotion fun x => { x with entryCount := 0 }

/-- v_cmd is 0 and the measured speed below 200 (R68, R93). -/
abbrev Still (s : State) : Prop := s.motion.vCmd = 0 ∧ mag s.servo.vMeas < 200

/-- The count of stationary updates after this one. -/
def stillCount (s : State) : Nat := if Still s then s.motion.still + 1 else 0

/-- STOPPING (R68). -/
def stoppingUpdate (k : StopKind) (s : State) : State :=
  if 20 ≤ stillCount s then
    match k with
    | .normal => (enterStoppedFull s).onMotion fun x => { x with still := 0 }
    | .safe => (enterReleasing s).onMotion fun x => { x with still := 0 }
  else s.onMotion fun x => { x with still := stillCount s }

/-- The direction of a creep run: that of target tick − E (R94). -/
def creepDir (s : State) (c : LocCtx) : Dir := if c.targetTick < estimate s then .reverse else .forward

/-- The reversals after a creep run in direction `d` is begun (R94). -/
def reversalsAfter (c : LocCtx) (d : Dir) : Nat :=
  match c.lastDir with
  | some l => if l = d then c.reversals else c.reversals + 1
  | none => c.reversals

/-- A creep run begun by a failed arrival test, or the fourth reversal (R94). -/
def creepRun (c : LocCtx) (s : State) : State :=
  let d := creepDir s c
  if 4 ≤ reversalsAfter c d then
    enterStoppedFull (endLocate .inexact (setLoc { c with reversals := 4 } s))
  else enterMode (.locate .creep) (setLoc { c with reversals := reversalsAfter c d, creep := some d } s)

/-- The arrival judgement (R95). -/
def judgement (s : State) : Judgement := if quality s = .locked then .arrived else .reckoned

/-- An arrival and its follow-on (R95). -/
def arrive (c : LocCtx) (s : State) : State :=
  match c.followOn with
  | .stop => enterStoppedFull (endLocate (judgement s).toEnd s)
  | .play => captureReturn (enterPlay (endLocate (judgement s).toEnd s))
  | .playOnTrigger =>
    enterMode (.locate .hold) (setLoc { c with judgement := some (judgement s), holdTimer := 0, creep := none } s)

/-- The arrival test (R93). -/
def arrivalTest (c : LocCtx) (s : State) : State :=
  let s := s.onMotion fun x => { x with still := 0 }
  if mag (estimate s - c.targetTick) ≤ 100 then arrive c s else creepRun c s

/-- APPROACH and CREEP: the stationary count and, at 20, the arrival test. -/
def settledUpdate (s : State) : State :=
  match s.motion.loc with
  | some c => if 20 ≤ stillCount s then arrivalTest c s else s.onMotion fun x => { x with still := stillCount s }
  | none => s

/-- RELEASING (R64). -/
def releasingUpdate (s : State) : State :=
  let k := s.motion.releaseK + 1
  let s := s.onMotion fun x => { x with releaseK := k, setpoint := x.releaseStart - x.releaseStart * k / 500 }
  if 500 ≤ k then (enterReleased s).onMotion fun x => { x with setpoint := 0, releaseK := 0 } else s

/-- HALTING (R78). -/
def haltingUpdate (s : State) : State :=
  let slow := if mag s.servo.vMeas < 100 then s.motion.haltStill + 1 else 0
  if 100 ≤ slow ∨ 5000 ≤ s.motion.haltTimer + 1 then
    (enterReleased s).onMotion fun x => { x with haltTimer := 0, haltStill := 0 }
  else s.onMotion fun x => { x with haltTimer := x.haltTimer + 1, haltStill := slow }

/-- The timers and counts that end the mode as it stands. -/
def modeTests (s : State) : State :=
  match s.motion.mode with
  | .empty => emptyUpdate s
  | .released => releasedUpdate s
  | .engaging => engagingUpdate s
  | .stopped .full => stoppedUpdate s
  | .stopped .restoring => restoreUpdate s
  | .stopped .eased => s
  | .play .entry => entryUpdate s
  | .locate .approach => settledUpdate s
  | .locate .creep => settledUpdate s
  | .stopping k => stoppingUpdate k s
  | .releasing => releasingUpdate s
  | .halting => haltingUpdate s
  | _ => s

/-! ## The profile update -/

/-- All that an update does before the timers and counts of the mode. -/
def speedPart (s : State) : State := tapeEnd (formSpeed (phaseTests s))

/-- The profile update (R58). -/
def profileUpdate (s : State) : State :=
  let t := speedPart s
  lowerLifters (if t.motion.mode = s.motion.mode then modeTests t else t)

end Sys2Proof.Machine
end

