-- ==== Sys2Proof/Machine/Wire.lean ====
section
/-!
DEFINITION. Wire: the deck link's encoding: the CRC (R181), the frames (section 10.9), the unit, command and payload of
each request (R183, section 10.3), written and read, and the status payload (section 10.9).
-/

namespace Sys2Proof.Machine

/-! ## CRC (R181) -/

/-- The register shifted left by one bit. -/
def crcShift (r : BitVec 16) : BitVec 16 := if r.msb then (r <<< 1) ^^^ 0x1021#16 else r <<< 1

/-- `n` shifts. -/
def crcShifts : Nat → BitVec 16 → BitVec 16
  | 0, r => r
  | n + 1, r => crcShifts n (crcShift r)

/-- One character combined into the upper eight bits, then eight shifts. -/
def crcChar (r : BitVec 16) (c : Byte) : BitVec 16 := crcShifts 8 (r ^^^ (c.setWidth 16 <<< 8))

/-- The CRC over characters in order. -/
def crc (l : List Byte) : BitVec 16 := l.foldl crcChar 0xFFFF#16

/-- The CRC as it is sent: high character first. -/
def crcField (l : List Byte) : List Byte := [(crc l >>> 8).setWidth 8, (crc l).setWidth 8]

/-! ## Frames (section 10.9) -/

/-- The start character. -/
def sync : Byte := 0xC3#8

/-- The largest payload of a request. -/
def maxPayload : Nat := 48

/-- A request frame's characters from the destination through the payload. -/
def requestBody (h : Hdr) (unit cmd : Nat) (ps : List Byte) : List Byte :=
  n1 h.dest ++ n1 unit ++ n1 h.station ++ n1 h.seq ++ n1 cmd ++ n1 ps.length ++ ps

/-- A request frame as its characters follow SYNC. -/
def requestChars (h : Hdr) (unit cmd : Nat) (ps : List Byte) : List Byte :=
  requestBody h unit cmd ps ++ crcField (requestBody h unit cmd ps)

/-- A reply frame (R182). -/
def replyFrame (address unit : Nat) (h : Hdr) (r : Resp) : List Byte :=
  let body := n1 address ++ n1 unit ++ n1 h.station ++ n1 h.seq ++ n1 r.code.number ++ n2 r.payload.length ++ r.payload
  sync :: body ++ crcField body

/-! ## Requests written (R183, section 10.3) -/

/-- Where a request goes and what it carries: header, unit, command, payload. -/
structure Wire where
  hdr     : Hdr
  unit    : Nat
  cmd     : Nat
  payload : List Byte
deriving DecidableEq, Repr

/-- The target field of LOCATE. -/
def targetChars : LocTarget → List Byte
  | .mark n => n1 0 ++ n1 n
  | .address a => n1 1 ++ addrField a
  | .next => n1 2
  | .previous => n1 3

/-- A request's place and payload on the link; none for a command that is no request. -/
def requestWire : Instr → Option Wire
  | .statusPoll h u => some ⟨h, u, 0x00, []⟩
  | .engage h p => some ⟨h, 0, 0x01, n1 p⟩
  | .release h => some ⟨h, 0, 0x02, []⟩
  | .stop h ps => some ⟨h, 0, 0x03, ps⟩
  | .play h => some ⟨h, 0, 0x04, []⟩
  | .cue h v => some ⟨h, 0, 0x05, n2 v⟩
  | .wind h d v => some ⟨h, 0, 0x06, n1 d ++ n2 v⟩
  | .locate h t p f l => some ⟨h, 0, 0x07, targetChars t ++ n2 p ++ n1 f ++ n2 l⟩
  | .positionRead h => some ⟨h, 0, 0x10, []⟩
  | .anchorRead h i => some ⟨h, 0, 0x11, n1 i⟩
  | .locateRead h => some ⟨h, 0, 0x12, []⟩
  | .tensionRead h => some ⟨h, 0, 0x13, []⟩
  | .senseRead h => some ⟨h, 0, 0x14, []⟩
  | .referenceSelect h x => some ⟨h, 0, 0x18, n1 x⟩
  | .referenceRead h => some ⟨h, 0, 0x19, []⟩
  | .faultRead h => some ⟨h, 0, 0x1C, []⟩
  | .faultClear h => some ⟨h, 0, 0x1D, []⟩
  | .markSet h n k a l => some ⟨h, 1, 0x01, n1 n ++ n1 k ++ addrField a ++ labelField l⟩
  | .markHere h n k l => some ⟨h, 1, 0x02, n1 n ++ n1 k ++ labelField l⟩
  | .markMove h n a => some ⟨h, 1, 0x03, n1 n ++ addrField a⟩
  | .markTrim h n v => some ⟨h, 1, 0x04, n1 n ++ n4 v⟩
  | .markName h n l => some ⟨h, 1, 0x05, n1 n ++ labelField l⟩
  | .markPair h a b => some ⟨h, 1, 0x06, n1 a ++ n1 b⟩
  | .markUnpair h n => some ⟨h, 1, 0x07, n1 n⟩
  | .markLock h n => some ⟨h, 1, 0x08, n1 n⟩
  | .markUnlock h n => some ⟨h, 1, 0x09, n1 n⟩
  | .markRetire h n => some ⟨h, 1, 0x0A, n1 n⟩
  | .markRetireReel h t => some ⟨h, 1, 0x0B, n2 t⟩
  | .markRead h n => some ⟨h, 1, 0x10, n1 n⟩
  | .markFindNext h => some ⟨h, 1, 0x11, n1 0⟩
  | .markFindPrevious h => some ⟨h, 1, 0x11, n1 1⟩
  | .markFindNearest h a => some ⟨h, 1, 0x11, n1 2 ++ addrField a⟩
  | .markFindLabel h l => some ⟨h, 1, 0x11, n1 3 ++ labelField l⟩
  | .arm h n t r => some ⟨h, 2, 0x01, n1 n ++ n1 t ++ n1 r⟩
  | .disarm h n => some ⟨h, 2, 0x02, n1 n⟩
  | .safe h t x => some ⟨h, 2, 0x03, n1 t ++ n1 x⟩
  | .recordOn h t => some ⟨h, 2, 0x04, n1 t⟩
  | .recordOff h => some ⟨h, 2, 0x05, []⟩
  | .punchRead h => some ⟨h, 2, 0x10, []⟩
  | .profileWrite h n p => some ⟨h, 3, 0x01, n1 n ++ profileField p⟩
  | .storeSave h => some ⟨h, 3, 0x02, []⟩
  | .serviceMask h m => some ⟨h, 3, 0x03, n2 m⟩
  | .pollConfigure h s c x => some ⟨h, 3, 0x04, n1 s ++ n1 c ++ n1 x⟩
  | .reset h => some ⟨h, 3, 0x05, []⟩
  | .groupPoll h => some ⟨h, 3, 0x06, []⟩
  | .profileRead h n => some ⟨h, 3, 0x10, n1 n⟩
  | .storeRead h => some ⟨h, 3, 0x11, []⟩
  | .identify h => some ⟨h, 3, 0x12, []⟩
  | _ => none

/-! ## Requests read (R182 steps 2 to 4) -/

/-- A field read whole: nothing may follow it. -/
def whole {α : Type} (f : Option (α × List Byte)) : Option α :=
  match f with
  | some (a, []) => some a
  | _ => none

/-- A payload of nothing. -/
def bare (i : Instr) : List Byte → Option Instr
  | [] => some i
  | _ => none

/-- A payload of one number of one character. -/
def one (f : Nat → Instr) (ps : List Byte) : Option Instr := (whole (take1 ps)).map f

/-- A payload of one number of two characters. -/
def two (f : Nat → Instr) (ps : List Byte) : Option Instr := (whole (take2 ps)).map f

def readWind (h : Hdr) (ps : List Byte) : Option Instr := do
  let (d, r) ← take1 ps
  let v ← whole (take2 r)
  pure (.wind h d v)

def readTarget : Reader LocTarget := fun ps =>
  match take1 ps with
  | some (0, r) => (take1 r).map fun p => (.mark p.1, p.2)
  | some (1, r) => (takeAddr r).map fun p => (.address p.1, p.2)
  | some (2, r) => some (.next, r)
  | some (3, r) => some (.previous, r)
  | _ => none

def readLocate (h : Hdr) (ps : List Byte) : Option Instr := do
  let (t, r) ← readTarget ps
  let (p, r) ← take2 r
  let (f, r) ← take1 r
  let l ← whole (take2 r)
  pure (.locate h t p f l)

def readMarkSet (h : Hdr) (ps : List Byte) : Option Instr := do
  let (n, r) ← take1 ps
  let (k, r) ← take1 r
  let (a, r) ← takeAddr r
  let l ← whole (takeLabel r)
  pure (.markSet h n k a l)

def readMarkHere (h : Hdr) (ps : List Byte) : Option Instr := do
  let (n, r) ← take1 ps
  let (k, r) ← take1 r
  let l ← whole (takeLabel r)
  pure (.markHere h n k l)

def readMarkMove (h : Hdr) (ps : List Byte) : Option Instr := do
  let (n, r) ← take1 ps
  let a ← whole (takeAddr r)
  pure (.markMove h n a)

def readMarkTrim (h : Hdr) (ps : List Byte) : Option Instr := do
  let (n, r) ← take1 ps
  let v ← whole (takeSigned4 r)
  pure (.markTrim h n v)

def readMarkName (h : Hdr) (ps : List Byte) : Option Instr := do
  let (n, r) ← take1 ps
  let l ← whole (takeLabel r)
  pure (.markName h n l)

def readPair (f : Nat → Nat → Instr) (ps : List Byte) : Option Instr := do
  let (a, r) ← take1 ps
  let b ← whole (take1 r)
  pure (f a b)

def readTriple (f : Nat → Nat → Nat → Instr) (ps : List Byte) : Option Instr := do
  let (a, r) ← take1 ps
  let (b, r) ← take1 r
  let c ← whole (take1 r)
  pure (f a b c)

def readFind (h : Hdr) (ps : List Byte) : Option Instr :=
  match take1 ps with
  | some (0, r) => bare (.markFindNext h) r
  | some (1, r) => bare (.markFindPrevious h) r
  | some (2, r) => (whole (takeAddr r)).map (.markFindNearest h)
  | some (3, r) => (whole (takeLabel r)).map (.markFindLabel h)
  | _ => none

def readProfile (h : Hdr) (ps : List Byte) : Option Instr := do
  let (n, r) ← take1 ps
  let (name, r) ← takeLabel r
  let (hub, r) ← take2 r
  let (flange, r) ← take2 r
  let (nominal, r) ← take4 r
  let (tPlay, r) ← take2 r
  let (tWind, r) ← take2 r
  let (gain, r) ← take1 r
  let (kv, r) ← take1 r
  let (aLight, r) ← take4 r
  let (aFull, r) ← take4 r
  let (windMax, r) ← take2 r
  let (torque, r) ← take2 r
  let (slew, r) ← take1 r
  let easeTime ← whole (take2 r)
  pure (.profileWrite h n
    { name := name, hub := hub, flange := flange, nominal := nominal, tPlay := tPlay, tWind := tWind, gain := gain, kv := kv,
      aLight := aLight, aFull := aFull, windMax := windMax, torque := torque, slew := slew, easeTime := easeTime })

/-- A request's reader; none for a command not known to unit 0. -/
def reader0 (h : Hdr) : Nat → Option (List Byte → Option Instr)
  | 0x00 => some (bare (.statusPoll h 0))
  | 0x01 => some (one (.engage h))
  | 0x02 => some (bare (.release h))
  | 0x03 => some fun ps => some (.stop h ps)
  | 0x04 => some (bare (.play h))
  | 0x05 => some fun ps => (whole (takeSigned2 ps)).map (.cue h)
  | 0x06 => some (readWind h)
  | 0x07 => some (readLocate h)
  | 0x10 => some (bare (.positionRead h))
  | 0x11 => some (one (.anchorRead h))
  | 0x12 => some (bare (.locateRead h))
  | 0x13 => some (bare (.tensionRead h))
  | 0x14 => some (bare (.senseRead h))
  | 0x18 => some (one (.referenceSelect h))
  | 0x19 => some (bare (.referenceRead h))
  | 0x1C => some (bare (.faultRead h))
  | 0x1D => some (bare (.faultClear h))
  | _ => none

/-- Unit 1. -/
def reader1 (h : Hdr) : Nat → Option (List Byte → Option Instr)
  | 0x00 => some (bare (.statusPoll h 1))
  | 0x01 => some (readMarkSet h)
  | 0x02 => some (readMarkHere h)
  | 0x03 => some (readMarkMove h)
  | 0x04 => some (readMarkTrim h)
  | 0x05 => some (readMarkName h)
  | 0x06 => some (readPair (.markPair h))
  | 0x07 => some (one (.markUnpair h))
  | 0x08 => some (one (.markLock h))
  | 0x09 => some (one (.markUnlock h))
  | 0x0A => some (one (.markRetire h))
  | 0x0B => some (two (.markRetireReel h))
  | 0x10 => some (one (.markRead h))
  | 0x11 => some (readFind h)
  | _ => none

/-- Unit 2. -/
def reader2 (h : Hdr) : Nat → Option (List Byte → Option Instr)
  | 0x00 => some (bare (.statusPoll h 2))
  | 0x01 => some (readTriple (.arm h))
  | 0x02 => some (one (.disarm h))
  | 0x03 => some (readPair (.safe h))
  | 0x04 => some (one (.recordOn h))
  | 0x05 => some (bare (.recordOff h))
  | 0x10 => some (bare (.punchRead h))
  | _ => none

/-- Unit 3. -/
def reader3 (h : Hdr) : Nat → Option (List Byte → Option Instr)
  | 0x00 => some (bare (.statusPoll h 3))
  | 0x01 => some (readProfile h)
  | 0x02 => some (bare (.storeSave h))
  | 0x03 => some (two (.serviceMask h))
  | 0x04 => some (readTriple (.pollConfigure h))
  | 0x05 => some (bare (.reset h))
  | 0x06 => some (bare (.groupPoll h))
  | 0x10 => some (one (.profileRead h))
  | 0x11 => some (bare (.storeRead h))
  | 0x12 => some (bare (.identify h))
  | _ => none

/-- The reader of a unit and command; none for a unit above 3 or a command not known to it. -/
def readerOf (h : Hdr) (unit cmd : Nat) : Option (List Byte → Option Instr) :=
  match unit with
  | 0 => reader0 h cmd
  | 1 => reader1 h cmd
  | 2 => reader2 h cmd
  | 3 => reader3 h cmd
  | _ => none

/-- Steps 2 to 4 of R182. -/
def parseRequest (h : Hdr) (unit cmd : Nat) (ps : List Byte) : Except Code Instr :=
  match readerOf h unit cmd with
  | none => .error .wrongUnit
  | some f =>
    match f ps with
    | none => .error .range
    | some i => .ok i

/-! ## Status payload (section 10.9) -/

/-- The two record gates and the two monitor lines. -/
def outputBits (p : Punch) : Nat :=
  (if p.gateA then 1 else 0) + (if p.gateB then 2 else 0) + (if p.monA then 4 else 0) + (if p.monB then 8 else 0)

/-- The 11 characters of the status payload. -/
def statusPayload (s : State) : List Byte :=
  n1 s.motion.mode.number ++ n1 s.motion.mode.phaseNumber ++ n1 s.motion.mode.levelNumber ++ n1 s.motion.mode.stopNumber ++
  n1 (quality s).number ++ yesNo (decide (s.monitor.faults ≠ [])) ++ n1 s.capstan.refState.number ++ yesNo s.capstan.lock ++
  n1 (outputBits s.punch) ++ n2 s.link.summary.toNat

end Sys2Proof.Machine
end

