-- ==== Sys2Proof/Machine/Link.lean ====
section
/-!
DEFINITION. Link: the Deck Link Port (chapter 10): its own requests, frames taken and answered, the retry table, replies
and slot answers, the receiver, and the warm reset that follows a RESET's reply.
-/

namespace Sys2Proof.Machine

/-! ## Requests of the port -/

/-- STATUS POLL (R189); broadcast it does nothing (R185). -/
def reqStatusPoll : Handler := fun ctx s =>
  if ctx.broadcast then (.ok, s) else (.okWith (statusPayload s), s.onLink fun l => { l with summary := 0 })

/-- SERVICE MASK (R188). -/
def reqServiceMask (m : Nat) : Handler := fun _ s =>
  if 0x07FF < m then (.refuse .range, s)
  else (.okWith (n2 m ++ n2 s.link.summary.toNat), s.onLink fun l => { l with mask := BitVec.ofNat 16 m })

/-- The slot of POLL CONFIGURE (R190). -/
def slotOf (n : Nat) : Option (Option Nat) := if n ≤ 7 then some (some n) else if n = 0xFF then some none else none

/-- POLL CONFIGURE (R190). -/
def reqPollConfigure (slot cond sense : Nat) : Handler := fun _ s =>
  match slotOf slot with
  | none => (.refuse .range, s)
  | some k =>
    if 4 < cond ∨ 1 < sense then (.refuse .range, s)
    else
      (.okWith (n1 slot ++ n1 cond ++ n1 sense), s.onLink fun l => { l with slot := k, cond := cond, sense := decide (sense = 1) })

/-- The conditions of the group poll (R190). -/
def pollCondition (s : State) : Nat → Bool
  | 0 => match s.motion.mode with
    | .stopped _ => true
    | _ => false
  | 1 => match s.motion.mode, s.motion.result with
    | .stopped _, some r => decide (r.result = .arrived)
    | _, _ => false
  | 2 => s.punch.gateA || s.punch.gateB
  | 3 => decide (s.monitor.faults ≠ [])
  | 4 => s.capstan.lock
  | _ => false

/-- The character of the card's slot (R191). -/
def pollAnswer (s : State) : Byte := if pollCondition s s.link.cond = s.link.sense then 1#8 else 0#8

/-- GROUP POLL (R191): a broadcast owes an answer in the slot; addressed, the reply carries the character. -/
def reqGroupPoll : Handler := fun ctx s =>
  match s.link.slot with
  | none => (.ok, s)
  | some _ =>
    if ctx.broadcast then (.ok, s.onLink fun l => { l with tx := .slotDue (pollAnswer s) })
    else (.okWith [pollAnswer s], s)

/-- RESET (R192): a broadcast is carried out at once; addressed, the warm reset follows the reply. -/
def reqReset : Handler := fun ctx s =>
  if Parked s then (.ok, if ctx.broadcast then warmReset s else s) else (.refuse .busy, s)

/-! ## The owning block of each request (section 10.3) -/

/-- What a request's owning block does with it; a command that is no request reaches none. -/
def handlerOf : Instr → Handler
  | .statusPoll _ u => if 3 < u then fun _ s => (.refuse .wrongUnit, s) else reqStatusPoll
  | .engage _ p => reqEngage p
  | .release _ => reqRelease
  | .stop _ _ => reqStop
  | .play _ => reqPlay
  | .cue _ v => reqCue v
  | .wind _ d v => reqWind d v
  | .locate _ t p f l => reqLocate t p f l
  | .positionRead _ => reqPositionRead
  | .anchorRead _ i => reqAnchorRead i
  | .locateRead _ => reqLocateRead
  | .tensionRead _ => reqTensionRead
  | .senseRead _ => reqSenseRead
  | .referenceSelect _ x => reqReferenceSelect x
  | .referenceRead _ => reqReferenceRead
  | .faultRead _ => reqFaultRead
  | .faultClear _ => reqFaultClear
  | .markSet _ n k a l => reqMarkSet n k a l
  | .markHere _ n k l => reqMarkHere n k l
  | .markMove _ n a => reqMarkMove n a
  | .markTrim _ n v => reqMarkTrim n v
  | .markName _ n l => reqMarkName n l
  | .markPair _ a b => reqMarkPair a b
  | .markUnpair _ n => reqMarkUnpair n
  | .markLock _ n => lockMark n true
  | .markUnlock _ n => lockMark n false
  | .markRetire _ n => reqMarkRetire n
  | .markRetireReel _ t => reqMarkRetireReel t
  | .markRead _ n => reqMarkRead n
  | .markFindNext _ => reqFindNext
  | .markFindPrevious _ => reqFindPrevious
  | .markFindNearest _ a => reqFindNearest a
  | .markFindLabel _ l => reqFindLabel l
  | .arm _ n t r => reqArm n t r
  | .disarm _ n => reqDisarm n
  | .safe _ t x => reqSafe t x
  | .recordOn _ t => reqRecordOn t
  | .recordOff _ => reqRecordOff
  | .punchRead _ => reqPunchRead
  | .profileWrite _ n p => reqProfileWrite n p
  | .storeSave _ => reqStoreSave
  | .serviceMask _ m => reqServiceMask m
  | .pollConfigure _ k c x => reqPollConfigure k c x
  | .reset _ => reqReset
  | .groupPoll _ => reqGroupPoll
  | .profileRead _ n => reqProfileRead n
  | .storeRead _ => reqStoreRead
  | .identify _ => reqIdentify
  | _ => fun _ s => (.refuse .wrongUnit, s)

/-! ## Transmissions and frames that begin (R180, R184, R191, R192) -/

/-- A transmission of the card ends; the warm reset of R192 follows where one is owed. -/
def endSending (s : State) : State :=
  match s.link.tx with
  | .sending r =>
    let s := s.onLink fun l => { l with tx := .quiet }
    if r then warmReset s else s
  | _ => s

/-- A new frame begins: a reply or a slot answer not yet begun is dropped, and a warm reset owed by the reply is
carried out. -/
def frameBegins (s : State) : State :=
  match s.link.tx with
  | .replyDue _ r =>
    let s := s.onLink fun l => { l with tx := .quiet }
    if r then warmReset s else s
  | .slotDue _ => s.onLink fun l => { l with tx := .quiet }
  | _ => s

/-! ## A complete frame (R181, R182, R185, R186) -/

/-- The port can take a frame: not in the internal reset, not in the 250 ms of silence. -/
abbrev Listening (s : State) : Prop := s.inReset = false ∧ s.link.silent = false

/-- The frame names this card. -/
abbrev Addressed (h : Hdr) (s : State) : Prop :=
  h.dest = s.link.address ∧ 1 ≤ s.link.address ∧ s.link.address ≤ 30

/-- The broadcast destination. -/
def broadcastDest : Nat := 31

/-- An originating station is 1 to 15 (R182 step 1). -/
abbrev StationOk (n : Nat) : Prop := 1 ≤ n ∧ n ≤ 15

/-- What is to be done with a frame after step 1: a refusal of steps 2 to 4, or the owning block's work. -/
abbrev Action := Except Code Handler

/-- The request carried out, or refused by the port. -/
def perform (a : Action) (ctx : Ctx) (s : State) : Resp × State :=
  match a with
  | .error c => (.refuse c, s)
  | .ok f => f ctx s

/-- A reply owed (R184). -/
def oweReply (frame : List Byte) (reset : Bool) (s : State) : State :=
  s.onLink fun l => { l with tx := .replyDue frame reset }

/-- The entry a request and its reply leave in the retry table. -/
def retryOf (w : Wire) (reply : List Byte) : Retry where
  unit    := w.unit
  seq     := w.hdr.seq
  cmd     := w.cmd
  payload := w.payload
  reply   := reply

/-- The request matches the entry (R186). -/
abbrev Matches (w : Wire) (e : Retry) : Prop :=
  w.hdr.seq ≠ 0 ∧ e.unit = w.unit ∧ e.seq = w.hdr.seq ∧ e.cmd = w.cmd ∧ e.payload = w.payload

/-- The entry of the request's station, where it matches. -/
def retryFor (w : Wire) (s : State) : Option Retry :=
  match slotGet w.hdr.station s.link.retry with
  | some e => if Matches w e then some e else none
  | none => none

/-- An accepted RESET: the warm reset follows the reply. -/
def resetAccepted (w : Wire) (r : Resp) : Bool := decide (w.unit = 3 ∧ w.cmd = 0x05 ∧ r.code = .ok)

/-- The reply to a request performed, owed and entered in the retry table (R186). -/
def answer (w : Wire) (p : Resp × State) : State :=
  let f := replyFrame p.2.link.address w.unit w.hdr p.1
  oweReply f (resetAccepted w p.1) (p.2.onLink fun l => { l with retry := slotPut w.hdr.station (retryOf w f) l.retry })

/-- An addressed request (R182, R186). -/
def takeAddressed (w : Wire) (a : Action) (s : State) : State :=
  if ¬ StationOk w.hdr.station then oweReply (replyFrame s.link.address w.unit w.hdr (.refuse .badStation)) false s
  else
    match retryFor w s with
    | some e => oweReply e.reply false s
    | none => answer w (perform a { station := w.hdr.station, broadcast := false } s)

/-- A broadcast (R185). -/
def takeBroadcast (w : Wire) (a : Action) (s : State) : State :=
  if StationOk w.hdr.station then (perform a { station := w.hdr.station, broadcast := true } s).2 else s

/-- A complete frame with a good CRC, judged on its destination (R181). -/
def takeComplete (w : Wire) (a : Action) (s : State) : State :=
  let s := s.onLink fun l => { l with rx := .disregard }
  if w.hdr.dest = broadcastDest then takeBroadcast w a s
  else if Addressed w.hdr s then takeAddressed w a s
  else s

/-- The action a frame's unit, command and payload stand for. -/
def actionOf (w : Wire) : Action :=
  match parseRequest w.hdr w.unit w.cmd w.payload with
  | .error c => .error c
  | .ok i => .ok (handlerOf i)

/-- A whole frame with its leading idle and a good CRC (log entry 5): what is on the line before it ends first. -/
def takeFrame (w : Wire) (a : Action) (s : State) : State :=
  if Listening s then takeComplete w a (frameBegins (endSending s)) else s

/-- A request row. -/
def takeRequest (i : Instr) (s : State) : State :=
  match requestWire i with
  | some w => takeFrame w (.ok (handlerOf i)) s
  | none => s

/-- A frame of any unit, command and payload. -/
def takeAnyFrame (f : Frame) (s : State) : State :=
  let w : Wire := { hdr := f.hdr, unit := f.unit, cmd := f.cmd, payload := f.payload }
  takeFrame w (actionOf w) s

/-! ## The receiver (R180) -/

/-- The line is idle for 1,000 µs. -/
def lineIdle (s : State) : State :=
  if Listening s then (endSending s).onLink fun l => { l with rx := .idle } else s

/-- The characters after SYNC, once all have come: header, unit, command, payload, and whether the CRC agrees. -/
def splitFrame (cs : List Byte) : Option (Wire × Bool) :=
  match cs with
  | d :: u :: st :: q :: c :: n :: r =>
    if r.length = n.toNat + 2 then
      some ({ hdr := { dest := d.toNat, station := st.toNat, seq := q.toNat }, unit := u.toNat, cmd := c.toNat,
              payload := r.take n.toNat },
        decide (crcField (d :: u :: st :: q :: c :: n :: r.take n.toNat) = r.drop n.toNat))
    else none
  | _ => none

/-- A collected frame's next character. -/
def collect (cs : List Byte) (s : State) : State :=
  match splitFrame cs with
  | some (w, true) => takeComplete w (actionOf w) s
  | some (_, false) => s.onLink fun l => { l with rx := .disregard }
  | none =>
    if cs.length = 6 ∧ maxPayload < (cs.getD 5 0).toNat then s.onLink fun l => { l with rx := .disregard }
    else s.onLink fun l => { l with rx := .collecting cs }

/-- A character arrives. -/
def receive (c : Byte) (framingError : Bool) (s : State) : State :=
  if Listening s then
    match s.link.tx with
    | .sending _ => s
    | _ =>
      match s.link.rx with
      | .disregard => s
      | .idle =>
        if framingError = false ∧ c = sync then (frameBegins s).onLink fun l => { l with rx := .collecting [] }
        else s.onLink fun l => { l with rx := .disregard }
      | .collecting cs =>
        if framingError then s.onLink fun l => { l with rx := .disregard } else collect (cs ++ [c]) s
  else s

/-! ## Answers sent (R184, R191, R192) -/

/-- The reply begins (R184). -/
def reply (s : State) : State :=
  match s.link.tx with
  | .replyDue f r => s.onLink fun l => { l with tx := .sending r, sent := f, rx := .disregard }
  | _ => s

/-- The card's slot begins (R191). -/
def slotAnswer (s : State) : State :=
  match s.link.tx with
  | .slotDue c => s.onLink fun l => { l with tx := .sending false, sent := [c], rx := .disregard }
  | _ => s

/-- The reply to an accepted RESET has gone (R192; log entry 23 for a reply not yet seen to begin). -/
def replyGone (s : State) : State :=
  match s.link.tx with
  | .sending true => endSending s
  | .replyDue _ true => endSending (reply s)
  | _ => s

end Sys2Proof.Machine
end

