-- ==== Sys2Proof/Machine/Events.lean ====
section
/-!
DEFINITION. Events: the meanings of the commands that are events of the sensors, the clocks, the medium, the line and the
card's own limits. A command that names a limit reached (THREAD, READY, QUALIFIED …) is the event that reaches it: the
whole profile update, computation, completion, read or edge, where that event reaches the limit, and nothing where it
does not (log entry 2). While the internal reset is in force every event but its end is lost (R199).
-/

namespace Sys2Proof.Machine

/-- What a command answers. -/
abbrev Result := Host.Outcome State Fault Refusal

/-- An event is taken outside the internal reset only (R199). -/
def live (f : State → State) (s : State) : Result := .next (if s.inReset then s else f s)

/-- The event `f`, where it reaches the limit: `reached` compares the state before with the state after. -/
def whenReached (reached : State → State → Bool) (f : State → State) (s : State) : State :=
  if reached s (f s) then f s else s

/-! ## Reset and link timing -/

/-- COLD_START (R199). -/
def execColdStart (s : State) : Result := .next (coldStart s)

/-- INTERNAL_RESET_END (R177, R199). -/
def execInternalResetEnd (switch : Nat) (s : State) : Result := .next (internalResetEnd switch s)

/-- LINK_SILENCE_END (R193). -/
def execLinkSilenceEnd (s : State) : Result := live linkSilenceEnd s

/-! ## The profile update and the limits it reaches -/

/-- PROFILE_UPDATE (R58). -/
def execProfileUpdate (s : State) : Result := live profileUpdate s

def isStopped (m : Mode) : Bool :=
  match m with
  | .stopped _ => true
  | _ => false

def isStopping (m : Mode) : Bool :=
  match m with
  | .stopping _ => true
  | _ => false

/-- The mode passes from `a` to `b`. -/
def passes (a b : Mode) (s t : State) : Bool := decide (s.motion.mode = a ∧ t.motion.mode = b)

/-- THREAD (R60). -/
def execThread (s : State) : Result := live (whenReached (passes .empty .released) profileUpdate) s

/-- UNTHREAD (R60). -/
def execUnthread (s : State) : Result := live (whenReached (passes .released .empty) profileUpdate) s

/-- The ramp count reaches 200. -/
def rampReached (s t : State) : Bool :=
  decide (s.motion.mode = .engaging ∧ s.motion.rampK < 200 ∧ t.motion.rampK = 200)

/-- RAMP_COMPLETE (R63). -/
def execRampComplete (s : State) : Result := live (whenReached rampReached profileUpdate) s

/-- The engage timer reaches 3,000. -/
def timeoutReached (s t : State) : Bool := decide (s.motion.mode = .engaging ∧ 3000 ≤ t.motion.engageTimer)

/-- ENGAGE_TIMEOUT (R63, R194). -/
def execEngageTimeout (s : State) : Result := live (whenReached timeoutReached profileUpdate) s

/-- EASE (R65). -/
def execEase (s : State) : Result := live (whenReached (passes (.stopped .full) (.stopped .eased)) profileUpdate) s

/-- The restore ends. -/
def restoreReached (s t : State) : Bool :=
  decide (s.motion.mode = .stopped .restoring ∧ t.motion.mode ≠ .stopped .restoring)

/-- RESTORE_COMPLETE (R66). -/
def execRestoreComplete (s : State) : Result := live (whenReached restoreReached profileUpdate) s

/-- RELEASE_RAMP_END (R64). -/
def execReleaseRampEnd (s : State) : Result := live (whenReached (passes .releasing .released) profileUpdate) s

/-- A stop ends. -/
def stopEnds (s t : State) : Bool := isStopping s.motion.mode && !isStopping t.motion.mode

/-- STATIONARY (R68). -/
def execStationary (s : State) : Result := live (whenReached stopEnds profileUpdate) s

/-- HALT_END (R78). -/
def execHaltEnd (s : State) : Result := live (whenReached (passes .halting .released) profileUpdate) s

/-- ENTRY_TO_RUN (R69). -/
def execEntryToRun (s : State) : Result := live (whenReached (passes (.play .entry) (.play .run)) profileUpdate) s

/-- A SEARCH ends NO_ADDRESS. -/
def searchReached (s t : State) : Bool :=
  decide (s.motion.mode = .locate .search ∧ t.motion.mode = .stopping .normal ∧
    t.motion.result.map LocResult.result = some .noAddress)

/-- SEARCH_EXHAUSTED (R91). -/
def execSearchExhausted (s : State) : Result := live (whenReached searchReached profileUpdate) s

/-- The arrival test is made in this update: the mode is APPROACH or CREEP and stays so until the stationary count
reaches 20. -/
def arrivalDue (s : State) : Bool :=
  decide ((s.motion.mode = .locate .approach ∨ s.motion.mode = .locate .creep) ∧
    (speedPart s).motion.mode = s.motion.mode ∧ (speedPart s).motion.loc ≠ none ∧ 20 ≤ stillCount (speedPart s))

/-- ARRIVAL_TEST (R93). -/
def execArrivalTest (s : State) : Result := live (whenReached (fun s _ => arrivalDue s) profileUpdate) s

/-- HOLD_EXPIRY (R96). -/
def execHoldExpiry (s : State) : Result := live (whenReached (passes (.locate .hold) (.stopped .full)) profileUpdate) s

/-! ## Scans and judgements -/

/-- SCAN (R120). -/
def execScan (s : State) : Result := live scanStart s

/-- SCAN_COMPLETION (R120). -/
def execScanCompletion (codes : ScanCodes) (s : State) : Result := live (scanCompletion codes) s

/-! The rows of the three judgements are the completion with its judgement taken first, before the servo computation; after
SCAN_COMPLETION itself a judgement that brings a report follows the computation (R121; log entry 36). -/

/-- A reel-current count reaches 10. -/
def reelReached (s t : State) : Bool :=
  decide ((s.monitor.reel2 = 9 ∧ t.monitor.reel2 = 10) ∨ (s.monitor.reel3 = 9 ∧ t.monitor.reel3 = 10))

/-- REEL_CURRENT (R126). -/
def execReelCurrent (codes : ScanCodes) (s : State) : Result := live (whenReached reelReached (judgedCompletion codes)) s

/-- The capstan-overload count reaches 200. -/
def overloadReached (s t : State) : Bool := decide (s.monitor.overload = 199 ∧ t.monitor.overload = 200)

/-- CAPSTAN_OVERLOAD (R127). -/
def execCapstanOverload (codes : ScanCodes) (s : State) : Result :=
  live (whenReached overloadReached (judgedCompletion codes)) s

/-- The supply-low condition becomes present. -/
def lowReached (s t : State) : Bool := !s.monitor.supplyLow && t.monitor.supplyLow

/-- SUPPLY_LOW (R128). -/
def execSupplyLow (codes : ScanCodes) (s : State) : Result := live (whenReached lowReached (judgedCompletion codes)) s

/-! ## Servo computations and counts -/

/-- SERVO_COMPUTATION (R102). -/
def execServoComputation (s : State) : Result := live servoComputation s

/-- The ready count reaches 50. -/
def readyReached (s : State) : Bool :=
  decide (s.motion.mode = .engaging ∧ s.servo.ready < 50 ∧ 50 ≤ nextReady (servoFigures s).servo)

/-- READY (R63, R112). -/
def execReady (s : State) : Result := live (whenReached (fun s _ => readyReached s) servoComputation) s

/-- RADIUS_WINDOW (R104). -/
def execRadiusWindow (s : State) : Result :=
  live (whenReached (fun s _ => decide (16 ≤ s.servo.winCount + 1)) servoComputation) s

/-- TENSION_LOSS (R113). -/
def execTensionLoss (s : State) : Result :=
  live (whenReached (fun s t => decide (s.servo.loss < 20 ∧ t.servo.loss = 20)) servoComputation) s

/-- SPEED_RUNAWAY (R115). -/
def execSpeedRunaway (s : State) : Result :=
  live (whenReached (fun s t => decide (s.servo.runaway < 10 ∧ t.servo.runaway = 10)) servoComputation) s

/-- ROLLER_COUNT (R3). -/
def execRollerCount (d : Dir) (s : State) : Result := live (rollerCount d) s

/-- REEL_TACHOMETER_COUNT (R101). -/
def execReelTachometerCount (r : Reel) (d : Dir) (s : State) : Result := live (tachometer r d) s

/-! ## Address reads -/

/-- ADDRESS_READ (R7). -/
def execAddressRead (r : TapeRead) (s : State) : Result := live (addressRead r) s

/-- ADDRESS_DROPOUT (R8). -/
def execAddressDropout (r : TapeRead) (s : State) : Result :=
  live (whenReached (fun s t => decide (s.tracker.rejects = 15 ∧ t.tracker.rejects = 16)) (addressRead r)) s

/-- CAPSTAN_LOCK (R143). -/
def execCapstanLock (r : TapeRead) (s : State) : Result :=
  live (whenReached (fun s t => !s.capstan.lock && t.capstan.lock) (addressRead r)) s

/-! ## Reference -/

/-- INTERNAL_EDGE (R132). -/
def execInternalEdge (s : State) : Result := live internalEdge s

/-- WORD_CLOCK_EDGE (R133). -/
def execWordClockEdge (t : Count32) (s : State) : Result := live (wordClockEdge t) s

/-- QUALIFIED (R135). -/
def execQualified (t : Count32) (s : State) : Result :=
  live (whenReached (fun s u => decide (s.capstan.refState ≠ .external ∧ u.capstan.refState = .external)) (wordClockEdge t)) s

/-- SILENCE_TIMEOUT (R136). -/
def execSilenceTimeout (s : State) : Result := live silenceTimeout s

/-- An edge of the reference in use: a word-clock edge, which may be a derived edge, or an internal edge. -/
def edgeInUse (t : Count32) (s : State) : State :=
  if s.capstan.refState = .external then wordClockEdge t s else internalEdge s

/-- MISSED_EDGES (R144). -/
def execMissedEdges (t : Count32) (s : State) : Result :=
  live (whenReached (fun s u => decide (s.capstan.missed = 3 ∧ u.capstan.missed = 4)) (edgeInUse t)) s

/-- START_SAMPLE (R145). -/
def execStartSample (high : Bool) (s : State) : Result := live (startSample high) s

/-! ## Inputs and medium -/

/-- The permit as the unit sees it, with the gate conditions judged (R149, R151). -/
def permitSeen (present : Bool) (s : State) : State := gateGuard (s.onPunch fun p => { p with permit := present })

/-- RECORD_PERMIT_CHANGE (R149): the input changes even in the internal reset, whose end takes it as it stands. -/
def execRecordPermitChange (present : Bool) (s : State) : Result :=
  live (permitSeen present) (s.onPunch fun p => { p with permitPin := present })

/-- SAVE_STAGE_END (R175). -/
def execSaveStageEnd (agrees : Bool) (s : State) : Result := live (saveStageEnd agrees) s

/-! ## The line -/

/-- CHARACTER_RECEIVED (R180). -/
def execCharacterReceived (c : Byte) (framingError : Bool) (s : State) : Result := live (receive c framingError) s

/-- LINE_IDLE (R180). -/
def execLineIdle (s : State) : Result := live lineIdle s

/-- UNKNOWN_COMMAND (R182). -/
def execUnknownCommand (f : Frame) (s : State) : Result := live (takeAnyFrame f) s

/-- REPLY (R184). -/
def execReply (s : State) : Result := live reply s

/-- SLOT_ANSWER (R191). -/
def execSlotAnswer (s : State) : Result := live slotAnswer s

/-- WARM_RESET (R192). -/
def execWarmReset (s : State) : Result := live replyGone s

end Sys2Proof.Machine
end

