-- ==== Sys2Proof/Machine/Requests.lean ====
section
/-!
DEFINITION. Requests: the meanings of the request rows: each is a whole frame with its leading idle and a good CRC
(log entry 5), taken by the Deck Link Port (R181, R182, R186) and carried out by its owning block (section 10.3).
-/

namespace Sys2Proof.Machine

/-- STATUS_POLL (R189), command 0x00 of every unit. -/
def execStatusPoll (h : Hdr) (unit : Nat) (s : State) : Result := live (takeRequest (.statusPoll h unit)) s

/-- ENGAGE (R62). -/
def execEngage (h : Hdr) (profile : Nat) (s : State) : Result := live (takeRequest (.engage h profile)) s

/-- RELEASE (R64). -/
def execRelease (h : Hdr) (s : State) : Result := live (takeRequest (.release h)) s

/-- STOP (R67), with whatever payload it carries (R182). -/
def execStop (h : Hdr) (payload : List Byte) (s : State) : Result := live (takeRequest (.stop h payload)) s

/-- PLAY (R69). -/
def execPlay (h : Hdr) (s : State) : Result := live (takeRequest (.play h)) s

/-- CUE (R71). -/
def execCue (h : Hdr) (speed : Int) (s : State) : Result := live (takeRequest (.cue h speed)) s

/-- WIND (R72). -/
def execWind (h : Hdr) (direction speed : Nat) (s : State) : Result := live (takeRequest (.wind h direction speed)) s

/-- LOCATE (R80). -/
def execLocate (h : Hdr) (target : LocTarget) (preroll followOn holdLimit : Nat) (s : State) : Result := live (takeRequest (.locate h target preroll followOn holdLimit)) s

/-- POSITION_READ (R24). -/
def execPositionRead (h : Hdr) (s : State) : Result := live (takeRequest (.positionRead h)) s

/-- ANCHOR_READ (R25). -/
def execAnchorRead (h : Hdr) (index : Nat) (s : State) : Result := live (takeRequest (.anchorRead h index)) s

/-- LOCATE_READ (R100). -/
def execLocateRead (h : Hdr) (s : State) : Result := live (takeRequest (.locateRead h)) s

/-- TENSION_READ (R117). -/
def execTensionRead (h : Hdr) (s : State) : Result := live (takeRequest (.tensionRead h)) s

/-- SENSE_READ (R130). -/
def execSenseRead (h : Hdr) (s : State) : Result := live (takeRequest (.senseRead h)) s

/-- REFERENCE_SELECT (R134). -/
def execReferenceSelect (h : Hdr) (selection : Nat) (s : State) : Result := live (takeRequest (.referenceSelect h selection)) s

/-- REFERENCE_READ (R146). -/
def execReferenceRead (h : Hdr) (s : State) : Result := live (takeRequest (.referenceRead h)) s

/-- FAULT_READ (R197). -/
def execFaultRead (h : Hdr) (s : State) : Result := live (takeRequest (.faultRead h)) s

/-- FAULT_CLEAR (R198). -/
def execFaultClear (h : Hdr) (s : State) : Result := live (takeRequest (.faultClear h)) s

/-- MARK_SET (R35); number 255 is "first free" (R183). -/
def execMarkSet (h : Hdr) (number kind : Nat) (a : Addr) (label : Label) (s : State) : Result := live (takeRequest (.markSet h number kind a label)) s

/-- MARK_HERE (R36); number 255 is "first free". -/
def execMarkHere (h : Hdr) (number kind : Nat) (label : Label) (s : State) : Result := live (takeRequest (.markHere h number kind label)) s

/-- MARK_MOVE (R37). -/
def execMarkMove (h : Hdr) (number : Nat) (a : Addr) (s : State) : Result := live (takeRequest (.markMove h number a)) s

/-- MARK_TRIM (R38). -/
def execMarkTrim (h : Hdr) (number : Nat) (amount : Int) (s : State) : Result := live (takeRequest (.markTrim h number amount)) s

/-- MARK_NAME (R39). -/
def execMarkName (h : Hdr) (number : Nat) (label : Label) (s : State) : Result := live (takeRequest (.markName h number label)) s

/-- MARK_PAIR (R41). -/
def execMarkPair (h : Hdr) (a b : Nat) (s : State) : Result := live (takeRequest (.markPair h a b)) s

/-- MARK_UNPAIR (R42). -/
def execMarkUnpair (h : Hdr) (number : Nat) (s : State) : Result := live (takeRequest (.markUnpair h number)) s

/-- MARK_LOCK (R34). -/
def execMarkLock (h : Hdr) (number : Nat) (s : State) : Result := live (takeRequest (.markLock h number)) s

/-- MARK_UNLOCK (R34). -/
def execMarkUnlock (h : Hdr) (number : Nat) (s : State) : Result := live (takeRequest (.markUnlock h number)) s

/-- MARK_RETIRE (R43). -/
def execMarkRetire (h : Hdr) (number : Nat) (s : State) : Result := live (takeRequest (.markRetire h number)) s

/-- MARK_RETIRE_REEL (R44). -/
def execMarkRetireReel (h : Hdr) (tag : Nat) (s : State) : Result := live (takeRequest (.markRetireReel h tag)) s

/-- MARK_READ (R45). -/
def execMarkRead (h : Hdr) (number : Nat) (s : State) : Result := live (takeRequest (.markRead h number)) s

/-- MARK_FIND_NEXT (R46). -/
def execMarkFindNext (h : Hdr) (s : State) : Result := live (takeRequest (.markFindNext h)) s

/-- MARK_FIND_PREVIOUS (R46). -/
def execMarkFindPrevious (h : Hdr) (s : State) : Result := live (takeRequest (.markFindPrevious h)) s

/-- MARK_FIND_NEAREST (R47). -/
def execMarkFindNearest (h : Hdr) (a : Addr) (s : State) : Result := live (takeRequest (.markFindNearest h a)) s

/-- MARK_FIND_LABEL (R47). -/
def execMarkFindLabel (h : Hdr) (label : Label) (s : State) : Result := live (takeRequest (.markFindLabel h label)) s

/-- ARM (R153). -/
def execArm (h : Hdr) (inMark tracks rehearse : Nat) (s : State) : Result := live (takeRequest (.arm h inMark tracks rehearse)) s

/-- DISARM (R154); number 255 is ALL (R183). -/
def execDisarm (h : Hdr) (inMark : Nat) (s : State) : Result := live (takeRequest (.disarm h inMark)) s

/-- SAFE (R149). -/
def execSafe (h : Hdr) (tracks setting : Nat) (s : State) : Result := live (takeRequest (.safe h tracks setting)) s

/-- RECORD_ON (R164). -/
def execRecordOn (h : Hdr) (tracks : Nat) (s : State) : Result := live (takeRequest (.recordOn h tracks)) s

/-- RECORD_OFF (R165). -/
def execRecordOff (h : Hdr) (s : State) : Result := live (takeRequest (.recordOff h)) s

/-- PUNCH_READ (R166). -/
def execPunchRead (h : Hdr) (s : State) : Result := live (takeRequest (.punchRead h)) s

/-- PROFILE_WRITE (R171). -/
def execProfileWrite (h : Hdr) (number : Nat) (p : Profile) (s : State) : Result := live (takeRequest (.profileWrite h number p)) s

/-- STORE_SAVE (R174). -/
def execStoreSave (h : Hdr) (s : State) : Result := live (takeRequest (.storeSave h)) s

/-- SERVICE_MASK (R188). -/
def execServiceMask (h : Hdr) (mask : Nat) (s : State) : Result := live (takeRequest (.serviceMask h mask)) s

/-- POLL_CONFIGURE (R190). -/
def execPollConfigure (h : Hdr) (slot condition sense : Nat) (s : State) : Result := live (takeRequest (.pollConfigure h slot condition sense)) s

/-- RESET (R192). -/
def execReset (h : Hdr) (s : State) : Result := live (takeRequest (.reset h)) s

/-- GROUP_POLL (R191). -/
def execGroupPoll (h : Hdr) (s : State) : Result := live (takeRequest (.groupPoll h)) s

/-- PROFILE_READ (R170). -/
def execProfileRead (h : Hdr) (number : Nat) (s : State) : Result := live (takeRequest (.profileRead h number)) s

/-- STORE_READ (R176). -/
def execStoreRead (h : Hdr) (s : State) : Result := live (takeRequest (.storeRead h)) s

/-- IDENTIFY (R179). -/
def execIdentify (h : Hdr) (s : State) : Result := live (takeRequest (.identify h)) s

end Sys2Proof.Machine
end

