-- ==== Sys2Proof/Machine/Dispatch.lean ====
section
/-!
DEFINITION. Dispatch: one arm for each command.
-/

namespace Sys2Proof.Machine

/-- The effect of a command on everything but the queue. -/
def exec (i : Instr) (s : State) : Host.Outcome State Fault Refusal :=
  match i with
  | .coldStart => Sys2Proof.Machine.execColdStart s
  | .internalResetEnd switch => Sys2Proof.Machine.execInternalResetEnd switch s
  | .linkSilenceEnd => Sys2Proof.Machine.execLinkSilenceEnd s
  | .profileUpdate => Sys2Proof.Machine.execProfileUpdate s
  | .thread => Sys2Proof.Machine.execThread s
  | .unthread => Sys2Proof.Machine.execUnthread s
  | .rampComplete => Sys2Proof.Machine.execRampComplete s
  | .engageTimeout => Sys2Proof.Machine.execEngageTimeout s
  | .ready => Sys2Proof.Machine.execReady s
  | .ease => Sys2Proof.Machine.execEase s
  | .restoreComplete => Sys2Proof.Machine.execRestoreComplete s
  | .releaseRampEnd => Sys2Proof.Machine.execReleaseRampEnd s
  | .stationary => Sys2Proof.Machine.execStationary s
  | .haltEnd => Sys2Proof.Machine.execHaltEnd s
  | .entryToRun => Sys2Proof.Machine.execEntryToRun s
  | .searchExhausted => Sys2Proof.Machine.execSearchExhausted s
  | .arrivalTest => Sys2Proof.Machine.execArrivalTest s
  | .holdExpiry => Sys2Proof.Machine.execHoldExpiry s
  | .scan => Sys2Proof.Machine.execScan s
  | .scanCompletion codes => Sys2Proof.Machine.execScanCompletion codes s
  | .reelCurrent codes => Sys2Proof.Machine.execReelCurrent codes s
  | .capstanOverload codes => Sys2Proof.Machine.execCapstanOverload codes s
  | .supplyLow codes => Sys2Proof.Machine.execSupplyLow codes s
  | .servoComputation => Sys2Proof.Machine.execServoComputation s
  | .radiusWindow => Sys2Proof.Machine.execRadiusWindow s
  | .tensionLoss => Sys2Proof.Machine.execTensionLoss s
  | .speedRunaway => Sys2Proof.Machine.execSpeedRunaway s
  | .rollerCount sense => Sys2Proof.Machine.execRollerCount sense s
  | .reelTachometerCount reel sense => Sys2Proof.Machine.execReelTachometerCount reel sense s
  | .addressRead read => Sys2Proof.Machine.execAddressRead read s
  | .addressDropout read => Sys2Proof.Machine.execAddressDropout read s
  | .capstanLock read => Sys2Proof.Machine.execCapstanLock read s
  | .internalEdge => Sys2Proof.Machine.execInternalEdge s
  | .wordClockEdge time => Sys2Proof.Machine.execWordClockEdge time s
  | .qualified time => Sys2Proof.Machine.execQualified time s
  | .silenceTimeout => Sys2Proof.Machine.execSilenceTimeout s
  | .missedEdges time => Sys2Proof.Machine.execMissedEdges time s
  | .startSample high => Sys2Proof.Machine.execStartSample high s
  | .recordPermitChange present => Sys2Proof.Machine.execRecordPermitChange present s
  | .saveStageEnd agrees => Sys2Proof.Machine.execSaveStageEnd agrees s
  | .lineIdle => Sys2Proof.Machine.execLineIdle s
  | .unknownCommand frame => Sys2Proof.Machine.execUnknownCommand frame s
  | .reply => Sys2Proof.Machine.execReply s
  | .slotAnswer => Sys2Proof.Machine.execSlotAnswer s
  | .warmReset => Sys2Proof.Machine.execWarmReset s
  | .statusPoll h unit => Sys2Proof.Machine.execStatusPoll h unit s
  | .engage h profile => Sys2Proof.Machine.execEngage h profile s
  | .release h => Sys2Proof.Machine.execRelease h s
  | .stop h payload => Sys2Proof.Machine.execStop h payload s
  | .play h => Sys2Proof.Machine.execPlay h s
  | .cue h speed => Sys2Proof.Machine.execCue h speed s
  | .wind h direction speed => Sys2Proof.Machine.execWind h direction speed s
  | .locate h target preroll followOn holdLimit => Sys2Proof.Machine.execLocate h target preroll followOn holdLimit s
  | .positionRead h => Sys2Proof.Machine.execPositionRead h s
  | .anchorRead h index => Sys2Proof.Machine.execAnchorRead h index s
  | .locateRead h => Sys2Proof.Machine.execLocateRead h s
  | .tensionRead h => Sys2Proof.Machine.execTensionRead h s
  | .senseRead h => Sys2Proof.Machine.execSenseRead h s
  | .referenceSelect h selection => Sys2Proof.Machine.execReferenceSelect h selection s
  | .referenceRead h => Sys2Proof.Machine.execReferenceRead h s
  | .faultRead h => Sys2Proof.Machine.execFaultRead h s
  | .faultClear h => Sys2Proof.Machine.execFaultClear h s
  | .markSet h number kind a label => Sys2Proof.Machine.execMarkSet h number kind a label s
  | .markHere h number kind label => Sys2Proof.Machine.execMarkHere h number kind label s
  | .markMove h number a => Sys2Proof.Machine.execMarkMove h number a s
  | .markTrim h number amount => Sys2Proof.Machine.execMarkTrim h number amount s
  | .markName h number label => Sys2Proof.Machine.execMarkName h number label s
  | .markPair h a b => Sys2Proof.Machine.execMarkPair h a b s
  | .markUnpair h number => Sys2Proof.Machine.execMarkUnpair h number s
  | .markLock h number => Sys2Proof.Machine.execMarkLock h number s
  | .markUnlock h number => Sys2Proof.Machine.execMarkUnlock h number s
  | .markRetire h number => Sys2Proof.Machine.execMarkRetire h number s
  | .markRetireReel h tag => Sys2Proof.Machine.execMarkRetireReel h tag s
  | .markRead h number => Sys2Proof.Machine.execMarkRead h number s
  | .markFindNext h => Sys2Proof.Machine.execMarkFindNext h s
  | .markFindPrevious h => Sys2Proof.Machine.execMarkFindPrevious h s
  | .markFindNearest h a => Sys2Proof.Machine.execMarkFindNearest h a s
  | .markFindLabel h label => Sys2Proof.Machine.execMarkFindLabel h label s
  | .arm h inMark tracks rehearse => Sys2Proof.Machine.execArm h inMark tracks rehearse s
  | .disarm h inMark => Sys2Proof.Machine.execDisarm h inMark s
  | .safe h tracks setting => Sys2Proof.Machine.execSafe h tracks setting s
  | .recordOn h tracks => Sys2Proof.Machine.execRecordOn h tracks s
  | .recordOff h => Sys2Proof.Machine.execRecordOff h s
  | .punchRead h => Sys2Proof.Machine.execPunchRead h s
  | .profileWrite h number p => Sys2Proof.Machine.execProfileWrite h number p s
  | .storeSave h => Sys2Proof.Machine.execStoreSave h s
  | .serviceMask h mask => Sys2Proof.Machine.execServiceMask h mask s
  | .pollConfigure h slot condition sense => Sys2Proof.Machine.execPollConfigure h slot condition sense s
  | .reset h => Sys2Proof.Machine.execReset h s
  | .groupPoll h => Sys2Proof.Machine.execGroupPoll h s
  | .profileRead h number => Sys2Proof.Machine.execProfileRead h number s
  | .storeRead h => Sys2Proof.Machine.execStoreRead h s
  | .identify h => Sys2Proof.Machine.execIdentify h s
  | .characterReceived c framingError => Sys2Proof.Machine.execCharacterReceived c framingError s

end Sys2Proof.Machine
end

