-- ==== Sys2Proof/Machine/Step.lean ====
section
/-!
DEFINITION. Step: the card takes the command at the front of its queue.
-/

namespace Sys2Proof.Machine

/-- One step: the command at the front, on the state with the queue's rest; an empty queue idles (log entry 1). -/
def step (s : State) : Host.Outcome State Fault Refusal :=
  match s.pending with
  | [] => .next s
  | c :: r => exec c { s with pending := r }

/-- The command a table word spells, put at the front of the queue; unchanged where the word spells none. -/
def State.withFetchWord (s : State) (nbits w : Nat) : State :=
  match decodeTableWord nbits w with
  | some c => { s with pending := c :: s.pending }
  | none => s

end Sys2Proof.Machine
end

