-- ==== Sys2Proof/Safety.lean ====
section
/-!
DEFINITION. Safety: the laws of the card, as the spec states them of every moment, in the terms claims use. Each is a
predicate on one state; where a law needs a companion to carry it from step to step, the companion stands beside it.
-/

namespace Sys2Proof.Safety

open Sys2Proof.Machine

/-! ## Faults and locates (R83, R84, R195) -/

/-- The modes that a non-empty fault set allows (R194, R195). -/
def calm : Mode → Bool
  | .empty => true
  | .released => true
  | .releasing => true
  | .halting => true
  | .stopping .safe => true
  | _ => false

/-- While the fault set is non-empty the transport is in none of ENGAGING, STOPPED, PLAY, CUE, WIND, LOCATE, nor in a stop
of kind NORMAL (R195). -/
abbrev FaultLaw (s : State) : Prop := s.monitor.faults ≠ [] → calm s.motion.mode = true

/-- The mode is LOCATE. -/
def isLocate : Mode → Bool
  | .locate _ => true
  | _ => false

/-- A locate context exists only in LOCATE, and a held request only during a restore (R66, R83). -/
abbrev ContextLaw (s : State) : Prop :=
  (s.motion.loc ≠ none → isLocate s.motion.mode = true) ∧ (s.motion.held ≠ none → s.motion.mode = .stopped .restoring)

/-- The fault set holds at most one record per cause, in the order of R194, each with a count of 1 to 255 (R195). -/
abbrev FaultSetForm (s : State) : Prop :=
  (s.monitor.faults.map fun r => r.cause.number).Pairwise (· < ·) ∧ ∀ r ∈ s.monitor.faults, 1 ≤ r.count ∧ r.count ≤ 255

/-! ## Reels (R110, R111) -/

/-- Each torque command lies within the active profile's torque limit, and both are 0 in EMPTY, RELEASED and HALTING. -/
abbrev TorqueLaw (s : State) : Prop :=
  mag s.servo.cmdSupply ≤ (activeProfile s).torque ∧ mag s.servo.cmdTakeUp ≤ (activeProfile s).torque ∧
  (s.motion.mode.forcedZero = true → s.servo.cmdSupply = 0 ∧ s.servo.cmdTakeUp = 0 ∧ s.servo.drives = false)

/-! ## Speed (R58) -/

/-- v_cmd never exceeds the active profile's wind maximum, nor 40,000 ticks/s while the lifters are down; in EMPTY and
RELEASED, where a profile may change, it is 0. -/
abbrev SpeedLaw (s : State) : Prop :=
  mag s.motion.vCmd ≤ ((activeProfile s).windMax : Int) * 100 ∧
  (s.motion.liftersUp = false → mag s.motion.vCmd ≤ Config.headContact) ∧ (Parked s → s.motion.vCmd = 0)

/-! ## Solenoids and capstan (R56, R140, R143) -/

/-- Outside the internal reset the pinch is in exactly in PLAY RUN, the brakes are as the mode's row gives, and the lifters
are up wherever the row calls for them up (R56). -/
abbrev SolenoidLaw (s : State) : Prop :=
  s.inReset = false →
    s.motion.pinchIn = decide (s.motion.mode = .play .run) ∧ s.motion.brakesOn = s.motion.mode.brakesRow ∧
    (s.motion.mode.liftersRow = some true → s.motion.liftersUp = true)

/-- The capstan command of R140 for a state. -/
def capstanCommand (s : State) : Int :=
  if s.motion.mode.capstanOn then
    if s.motion.mode = .play .run then s.capstan.vRef + s.capstan.correction else s.capstan.vRef
  else 0

/-- Outside the internal reset the capstan lines are as R140 gives, and outside PLAY RUN the lock is UNLOCKED with both
counts 0 and no correction (R142, R143). -/
abbrev CapstanLaw (s : State) : Prop :=
  s.inReset = false →
    s.capstan.enable = s.motion.mode.capstanOn ∧ s.capstan.command = capstanCommand s ∧
    (¬ InRun s → s.capstan.lock = false ∧ s.capstan.lockCount = 0 ∧ s.capstan.missed = 0 ∧ s.capstan.correction = 0)

/-! ## Gates and monitors (R151) -/

/-- A record gate is asserted only while all the gate conditions hold. -/
abbrev GateLaw (s : State) : Prop :=
  GateOn s → MonitorConditions s ∧ s.punch.permit = true ∧ (s.punch.gateA = true → s.punch.safeA = false) ∧
    (s.punch.gateB = true → s.punch.safeB = false)

/-- A monitor line is on only while the monitor conditions hold. -/
abbrev MonitorLaw (s : State) : Prop := MonitorOn s → MonitorConditions s

/-! ## Tables -/

/-- Neighbouring anchors are in order with a legal slope. -/
abbrev MapOrdered (map : List Anchor) : Prop := map.IsChain Below

/-- The law of the anchor map (R12). -/
abbrev MapLaw (s : State) : Prop :=
  s.tracker.map.length ≤ Config.maxAnchors ∧ MapOrdered s.tracker.map ∧
  (s.tracker.map ≠ [] → (s.tracker.map.filter fun a => a.live).length = 1) ∧
  ∀ a ∈ s.tracker.map, 0 ≤ a.ticks ∧ a.ticks ≤ 104857500

/-- The mark table and the retry table are in their canonical form: numbers strictly rising, 0 to 99 and 1 to 15. -/
abbrev TableForm (s : State) : Prop :=
  Rising s.marks ∧ (∀ p ∈ s.marks, p.1 ≤ 99) ∧ Rising s.link.retry ∧ ∀ p ∈ s.link.retry, 1 ≤ p.1 ∧ p.1 ≤ 15

/-- A partner link is mutual and joins two marks of one tag whose kinds form a pair (R40). -/
abbrev Linked (t : MarkTable) : Prop :=
  ∀ p ∈ t, ∀ q ∈ p.2.partner, ∃ o ∈ slotGet q t, o.partner = some p.1 ∧ o.tag = p.2.tag ∧ kindsPair p.2.kind o.kind = true

/-- A table of marks in its canonical form with all its links in order; slot 0 is owned by station 0, unlocked and
unpaired (R26, R40). -/
abbrev LinkedTable (t : MarkTable) : Prop :=
  Rising t ∧ (∀ p ∈ t, p.1 ≤ 99) ∧ Linked t ∧ ∀ p ∈ t, p.1 = 0 → p.2.owner = 0 ∧ p.2.locked = false ∧ p.2.partner = none

/-- A table as STORE SAVE takes it: claimed marks of slots 1 to 99 only (R54, R173). -/
abbrev SavedTable (t : MarkTable) : Prop := LinkedTable t ∧ ∀ p ∈ t, p.1 ≠ 0 ∧ p.2.tag ≠ none

/-- The laws of the mark table: the links and slot 0 (R26, R40); the ordering of every pair of current marks (R40); a mark is
PROVISIONAL only if it is current for a loaded reel, and then carries a spread (R28; its capture count is part of the
state). Their companions: the map is empty while no reel is loaded (R10), and the saved tables are in order too. -/
abbrev MarkLaw (s : State) : Prop :=
  LinkedTable s.marks ∧
  (∀ p ∈ s.marks, p.2.tag = loadedTag s → ∀ q ∈ p.2.partner, ∀ o ∈ markAt s q,
    OrderHolds p.2.kind (tickValue s p.2) o.kind (tickValue s o)) ∧
  (∀ p ∈ s.marks, p.2.isProvisional = true → s.tracker.loaded ≠ none ∧ p.2.tag = loadedTag s ∧ p.2.spread ≠ none) ∧
  (s.tracker.map ≠ [] → s.tracker.loaded ≠ none) ∧
  SavedTable s.store.user.image.marks ∧ ∀ v ∈ s.store.save, SavedTable v.snapshot.marks

/-- What an armed entry rests on: its marks are a current punch pair, both firm without spread (R152, R153, R162); an ACTIVE
one is on a loaded reel, with a drop point no higher than its range (R161). -/
abbrev EntryLaw (s : State) (e : Entry) : Prop :=
  (∃ m ∈ markAt s e.inMark, ∃ o ∈ markAt s e.outMark, m.kind = .punchIn ∧ m.partner = some e.outMark ∧
    m.tag = loadedTag s ∧ m.imprecise = false ∧ o.imprecise = false) ∧
  (e.isActive = true → s.tracker.loaded ≠ none) ∧
  ∀ late d ain, e.state = .active late (some d) ain → d ≤ entryTop s e

/-- The law of the armed list: at most four entries, in order of in tick with ranges that do not overlap, at most one ACTIVE
(R152); its companion is the law of each entry. -/
abbrev ArmedLaw (s : State) : Prop :=
  s.punch.entries.length ≤ 4 ∧ (s.punch.entries.filter Entry.isActive).length ≤ 1 ∧
  s.punch.entries.Pairwise (fun e f => entryTop s e < entryIn s f) ∧ ∀ e ∈ s.punch.entries, EntryLaw s e

/-- Only the eleven events stand in the summary and the mask (R187, R188). -/
abbrev SummaryLaw (s : State) : Prop := s.link.summary &&& 0xF800#16 = 0 ∧ s.link.mask &&& 0xF800#16 = 0

/-- The roller counter stays within its limits (R3). -/
abbrev CounterLaw (s : State) : Prop :=
  Config.counterMin ≤ s.tracker.counter ∧ s.tracker.counter ≤ Config.counterMax

/-! ## What a command leaves alone, and what a request leaves on the link -/

/-- The blocks of the card. -/
inductive Block where
  | tracker
  | marks
  | motion
  | servo
  | scanner
  | monitor
  | capstan
  | punch
  | store
  | link
deriving DecidableEq, Repr

/-- A block is as it was. -/
def kept (s t : State) : Block → Prop
  | .tracker => t.tracker = s.tracker
  | .marks   => t.marks = s.marks
  | .motion  => t.motion = s.motion
  | .servo   => t.servo = s.servo
  | .scanner => t.scanner = s.scanner
  | .monitor => t.monitor = s.monitor
  | .capstan => t.capstan = s.capstan
  | .punch   => t.punch = s.punch
  | .store   => t.store = s.store
  | .link    => t.link = s.link

/-- Nothing outside the named blocks has changed. -/
def OnlyIn (bs : List Block) (s t : State) : Prop :=
  t.inReset = s.inReset ∧ t.pending = s.pending ∧ ∀ b, b ∉ bs → kept s t b

/-- The link is as it was but for the event summary. -/
def LinkKept (s t : State) : Prop := { t.link with summary := s.link.summary } = s.link

/-- The request that an instruction stands for reaches its block: the card is in service, nothing of its own is on the
line, the frame names it and an originating station, and no stored reply matches (R180 to R186). -/
abbrev Takes (w : Wire) (s : State) : Prop :=
  s.inReset = false ∧ s.link.silent = false ∧ s.link.tx = .quiet ∧ Addressed w.hdr s ∧ StationOk w.hdr.station ∧
  retryFor w s = none

/-- The same, of a request row. -/
abbrev Hears (i : Instr) (s : State) : Prop := ∃ w ∈ requestWire i, Takes w s

/-- The reply frame of R182 to a request. -/
def replyTo (w : Wire) (c : Code) (ps : List Byte) (s : State) : List Byte :=
  replyFrame s.link.address w.unit w.hdr { code := c, payload := ps }

/-- The link once a request has been answered: the reply owed and kept in the retry table, the line disregarded until the
next idle; everything else on the link as it was. -/
def answeredLink (w : Wire) (c : Code) (ps : List Byte) (s : State) : Link :=
  { s.link with
    rx := .disregard
    tx := .replyDue (replyTo w c ps s) false
    retry := slotPut w.hdr.station (retryOf w (replyTo w c ps s)) s.link.retry }

/-- The same, of a request row. -/
def answered (i : Instr) (c : Code) (ps : List Byte) (s : State) : Link :=
  match requestWire i with
  | some w => answeredLink w c ps s
  | none => s.link

/-- The link with one more event in the summary (R187). -/
def raised (e : Event) (l : Link) : Link := { l with summary := l.summary ||| e.bit }

/-- The leader side after an update at which the transport does not travel (R61). -/
def sideAfter (s : State) : Option Dir := if s.scanner.optical = .opaqueTape then none else s.motion.leader

/-- No gate or monitor is on and no manual record is in hand. -/
abbrev NoRecording (s : State) : Prop := ¬ GateOn s ∧ ¬ MonitorOn s ∧ s.punch.manual = .off

/-- No locate is in progress or held, nothing is armed, and nothing is being recorded. -/
abbrev NothingPlanned (s : State) : Prop :=
  s.motion.loc = none ∧ s.motion.held = none ∧ s.punch.entries = [] ∧ NoRecording s

/-- Characters received one after another. -/
def hear : List Byte → State → Host.Outcome State Fault Refusal
  | [], s => .next s
  | c :: r, s =>
    match exec (.characterReceived c false) s with
    | .next t => hear r t
    | o => o

end Sys2Proof.Safety
end

