-- ==== Sys2Proof/WellFormed.lean ====
section
/-!
DEFINITION. WellFormed: what the lines of the card can carry. A command is well formed when every operand is a
value that its field's encoding (R183, section 10.9), its sensor (R5, R119) or its switch (R181) can bring.
The meanings run on any operands; these checks say for which a command is one that can arrive.
-/

namespace Sys2Proof

/-- A number of one character (R183). -/
abbrev InChar (n : Nat) : Prop := n < 256

/-- A number of two characters (R183). -/
abbrev InTwoChars (n : Nat) : Prop := n < 65536

/-- A number of four characters (R183). -/
abbrev InFourChars (n : Nat) : Prop := n < 4294967296

/-- The header characters of a frame. -/
abbrev Hdr.WellFormed (h : Hdr) : Prop := InChar h.dest ∧ InChar h.station ∧ InChar h.seq

/-- A block:sample field: block in 4 characters, sample in 2 (R183). -/
abbrev Addr.WellFormed (a : Addr) : Prop := InFourChars a.block ∧ InTwoChars a.sample

/-- A label field that a payload of at most 48 characters can carry beside `others` more characters,
its own length character among them (R180, R183). -/
abbrev LabelFits (l : Label) (others : Nat) : Prop := l.length + others ≤ 48

/-- A whole frame. -/
abbrev Frame.WellFormed (f : Frame) : Prop :=
  f.hdr.WellFormed ∧ InChar f.unit ∧ InChar f.cmd ∧ f.payload.length ≤ 48

/-- The fields of an address read (R5). -/
abbrev TapeRead.WellFormed (r : TapeRead) : Prop :=
  r.block < 16777216 ∧ InTwoChars r.tag ∧ -2147483648 ≤ r.latched ∧ r.latched ≤ 2147483647

/-- Converter codes are 0 to 4,095 (R119). -/
abbrev ScanCodes.WellFormed (c : ScanCodes) : Prop :=
  c.supplyArm < 4096 ∧ c.takeUpArm < 4096 ∧ c.rotating < 4096

/-- The target field of LOCATE. -/
abbrev LocTarget.WellFormed : LocTarget → Prop
  | .mark n => InChar n
  | .address a => a.WellFormed
  | .next => True
  | .previous => True

/-- The fields of a profile record as PROFILE WRITE carries them, in the widths of R183. -/
abbrev Profile.WellFormed (p : Profile) : Prop :=
  LabelFits p.name 31 ∧ InTwoChars p.hub ∧ InTwoChars p.flange ∧ InFourChars p.nominal ∧ InTwoChars p.tPlay ∧
  InTwoChars p.tWind ∧ InChar p.gain ∧ InChar p.kv ∧ InFourChars p.aLight ∧ InFourChars p.aFull ∧
  InTwoChars p.windMax ∧ InTwoChars p.torque ∧ InChar p.slew ∧ InTwoChars p.easeTime

/-- The command can arrive: every operand fits its field. -/
def WellFormed : Instr → Prop
  | .coldStart => True
  | .internalResetEnd sw => sw < 32
  | .linkSilenceEnd => True
  | .profileUpdate => True
  | .thread => True
  | .unthread => True
  | .rampComplete => True
  | .engageTimeout => True
  | .ready => True
  | .ease => True
  | .restoreComplete => True
  | .releaseRampEnd => True
  | .stationary => True
  | .haltEnd => True
  | .entryToRun => True
  | .searchExhausted => True
  | .arrivalTest => True
  | .holdExpiry => True
  | .scan => True
  | .scanCompletion c => c.WellFormed
  | .reelCurrent c => c.WellFormed
  | .capstanOverload c => c.WellFormed
  | .supplyLow c => c.WellFormed
  | .servoComputation => True
  | .radiusWindow => True
  | .tensionLoss => True
  | .speedRunaway => True
  | .rollerCount _ => True
  | .reelTachometerCount _ _ => True
  | .addressRead r => r.WellFormed
  | .addressDropout r => r.WellFormed
  | .capstanLock r => r.WellFormed
  | .internalEdge => True
  | .wordClockEdge _ => True
  | .qualified _ => True
  | .silenceTimeout => True
  | .missedEdges _ => True
  | .startSample _ => True
  | .recordPermitChange _ => True
  | .saveStageEnd _ => True
  | .lineIdle => True
  | .unknownCommand f => f.WellFormed
  | .reply => True
  | .slotAnswer => True
  | .warmReset => True
  | .statusPoll h u => h.WellFormed ∧ u ≤ 3
  | .engage h p => h.WellFormed ∧ InChar p
  | .release h => h.WellFormed
  | .stop h ps => h.WellFormed ∧ ps.length ≤ 48
  | .play h => h.WellFormed
  | .cue h v => h.WellFormed ∧ -32768 ≤ v ∧ v ≤ 32767
  | .wind h d v => h.WellFormed ∧ InChar d ∧ InTwoChars v
  | .locate h t p f l => h.WellFormed ∧ t.WellFormed ∧ InTwoChars p ∧ InChar f ∧ InTwoChars l
  | .positionRead h => h.WellFormed
  | .anchorRead h i => h.WellFormed ∧ InChar i
  | .locateRead h => h.WellFormed
  | .tensionRead h => h.WellFormed
  | .senseRead h => h.WellFormed
  | .referenceSelect h x => h.WellFormed ∧ InChar x
  | .referenceRead h => h.WellFormed
  | .faultRead h => h.WellFormed
  | .faultClear h => h.WellFormed
  | .markSet h n k a l => h.WellFormed ∧ InChar n ∧ InChar k ∧ a.WellFormed ∧ LabelFits l 9
  | .markHere h n k l => h.WellFormed ∧ InChar n ∧ InChar k ∧ LabelFits l 3
  | .markMove h n a => h.WellFormed ∧ InChar n ∧ a.WellFormed
  | .markTrim h n v => h.WellFormed ∧ InChar n ∧ -2147483648 ≤ v ∧ v ≤ 2147483647
  | .markName h n l => h.WellFormed ∧ InChar n ∧ LabelFits l 2
  | .markPair h a b => h.WellFormed ∧ InChar a ∧ InChar b
  | .markUnpair h n => h.WellFormed ∧ InChar n
  | .markLock h n => h.WellFormed ∧ InChar n
  | .markUnlock h n => h.WellFormed ∧ InChar n
  | .markRetire h n => h.WellFormed ∧ InChar n
  | .markRetireReel h t => h.WellFormed ∧ InTwoChars t
  | .markRead h n => h.WellFormed ∧ InChar n
  | .markFindNext h => h.WellFormed
  | .markFindPrevious h => h.WellFormed
  | .markFindNearest h a => h.WellFormed ∧ a.WellFormed
  | .markFindLabel h l => h.WellFormed ∧ LabelFits l 2
  | .arm h n t r => h.WellFormed ∧ InChar n ∧ InChar t ∧ InChar r
  | .disarm h n => h.WellFormed ∧ InChar n
  | .safe h t x => h.WellFormed ∧ InChar t ∧ InChar x
  | .recordOn h t => h.WellFormed ∧ InChar t
  | .recordOff h => h.WellFormed
  | .punchRead h => h.WellFormed
  | .profileWrite h n p => h.WellFormed ∧ InChar n ∧ p.WellFormed
  | .storeSave h => h.WellFormed
  | .serviceMask h m => h.WellFormed ∧ InTwoChars m
  | .pollConfigure h s c x => h.WellFormed ∧ InChar s ∧ InChar c ∧ InChar x
  | .reset h => h.WellFormed
  | .groupPoll h => h.WellFormed
  | .profileRead h n => h.WellFormed ∧ InChar n
  | .storeRead h => h.WellFormed
  | .identify h => h.WellFormed
  | .characterReceived _ _ => True

end Sys2Proof
end

