-- ==== Sys2Proof/Certificates/Slice0/Obligations.lean ====
section
/-!
DEFINITION. Obligations: what is stated of the card for the provers. Each statement's docstring names the rules of spec/ it
rests on; the laws and helpers it speaks in stand in Sys2Proof/Safety.lean.
-/

open Sys2Proof Sys2Proof.Machine Sys2Proof.Safety

/-! ## The queue -/

/-- The command at the front of the queue is run on the state with the queue's rest; on an empty queue the block idles (the
model's choice, log entry 1). -/
def Obligations.StepTakesFront : Prop :=
  (∀ (c : Instr) (r : List Instr) (s : State), s.pending = c :: r → step s = exec c { s with pending := r }) ∧
  ∀ s : State, s.pending = [] → step s = .next s

/-- Every command ends in a next state and leaves the queue as it was. -/
def Obligations.EveryCommandCompletes : Prop := ∀ (i : Instr) (s : State), ∃ t, exec i s = .next t ∧ t.pending = s.pending

/-- Log entries 2 and 36 (the model's choice): a row that names a limit of the profile update, of a scan completion (with its
judgement taken first), of a servo computation, of a read or of an edge is that event exactly where the event reaches the
limit, and leaves the card as it is where it does not. -/
def Obligations.LimitRowsAreTheirEvents : Prop :=
  ∀ (c : ScanCodes) (r : TapeRead) (n : Count32) (s t : State), s.inReset = false →
    (exec .profileUpdate s = .next t →
      exec .thread s = .next (if s.motion.mode = .empty ∧ t.motion.mode = .released then t else s) ∧
      exec .unthread s = .next (if s.motion.mode = .released ∧ t.motion.mode = .empty then t else s) ∧
      exec .rampComplete s = .next
        (if s.motion.mode = .engaging ∧ s.motion.rampK < 200 ∧ t.motion.rampK = 200 then t else s) ∧
      exec .engageTimeout s = .next (if s.motion.mode = .engaging ∧ 3000 ≤ t.motion.engageTimer then t else s) ∧
      exec .ease s = .next (if s.motion.mode = .stopped .full ∧ t.motion.mode = .stopped .eased then t else s) ∧
      exec .restoreComplete s = .next
        (if s.motion.mode = .stopped .restoring ∧ t.motion.mode ≠ .stopped .restoring then t else s) ∧
      exec .releaseRampEnd s = .next (if s.motion.mode = .releasing ∧ t.motion.mode = .released then t else s) ∧
      exec .stationary s = .next (if isStopping s.motion.mode = true ∧ isStopping t.motion.mode = false then t else s) ∧
      exec .haltEnd s = .next (if s.motion.mode = .halting ∧ t.motion.mode = .released then t else s) ∧
      exec .entryToRun s = .next (if s.motion.mode = .play .entry ∧ t.motion.mode = .play .run then t else s) ∧
      exec .searchExhausted s = .next
        (if s.motion.mode = .locate .search ∧ t.motion.mode = .stopping .normal ∧
            t.motion.result.map LocResult.result = some .noAddress then t else s) ∧
      exec .arrivalTest s = .next (if arrivalDue s = true then t else s) ∧
      exec .holdExpiry s = .next (if s.motion.mode = .locate .hold ∧ t.motion.mode = .stopped .full then t else s)) ∧
    (exec (.scanCompletion c) s = .next t →
      let u := judgeDue t
      exec (.reelCurrent c) s = .next
        (if (s.monitor.reel2 = 9 ∧ u.monitor.reel2 = 10) ∨ (s.monitor.reel3 = 9 ∧ u.monitor.reel3 = 10) then u else s) ∧
      exec (.capstanOverload c) s = .next (if s.monitor.overload = 199 ∧ u.monitor.overload = 200 then u else s) ∧
      exec (.supplyLow c) s = .next (if s.monitor.supplyLow = false ∧ u.monitor.supplyLow = true then u else s)) ∧
    (exec .servoComputation s = .next t →
      exec .ready s = .next
        (if s.motion.mode = .engaging ∧ s.servo.ready < 50 ∧ 50 ≤ nextReady (servoFigures s).servo then t else s) ∧
      exec .radiusWindow s = .next (if 15 ≤ s.servo.winCount then t else s) ∧
      exec .tensionLoss s = .next (if s.servo.loss < 20 ∧ t.servo.loss = 20 then t else s) ∧
      exec .speedRunaway s = .next (if s.servo.runaway < 10 ∧ t.servo.runaway = 10 then t else s)) ∧
    (exec (.addressRead r) s = .next t →
      exec (.addressDropout r) s = .next (if s.tracker.rejects = 15 ∧ t.tracker.rejects = 16 then t else s) ∧
      exec (.capstanLock r) s = .next (if s.capstan.lock = false ∧ t.capstan.lock = true then t else s)) ∧
    (exec (.wordClockEdge n) s = .next t →
      exec (.qualified n) s = .next (if s.capstan.refState ≠ .external ∧ t.capstan.refState = .external then t else s)) ∧
    ((if s.capstan.refState = .external then exec (.wordClockEdge n) s else exec .internalEdge s) = .next t →
      exec (.missedEdges n) s = .next (if s.capstan.missed = 3 ∧ t.capstan.missed = 4 then t else s))

/-! ## The laws of the card, kept by every step -/

/-- The laws hold of the card right after reset. -/
def Obligations.LawsAtReset : Prop :=
  FaultLaw State.reset ∧ ContextLaw State.reset ∧ FaultSetForm State.reset ∧ TorqueLaw State.reset ∧ SpeedLaw State.reset ∧
  SolenoidLaw State.reset ∧ CapstanLaw State.reset ∧ GateLaw State.reset ∧ MonitorLaw State.reset ∧ MapLaw State.reset ∧
  TableForm State.reset ∧ SummaryLaw State.reset ∧ CounterLaw State.reset ∧ MarkLaw State.reset ∧ ArmedLaw State.reset

/-- R195: with a fault recorded the transport is in no mode that moves or tensions the tape for use (and, its companion, a
locate context exists only in LOCATE, a held request only during a restore); one record per cause, in the order of R194,
counts 1 to 255. -/
def Obligations.FaultLawsKept : Prop :=
  (∀ s t : State, FaultLaw s ∧ ContextLaw s → step s = .next t → FaultLaw t ∧ ContextLaw t) ∧
  (∀ s t : State, FaultSetForm s → step s = .next t → FaultSetForm t)

/-- R58, R110, R111: the torque commands stay within the limit and are zero in EMPTY, RELEASED and HALTING; the speed command
stays within the wind maximum, and within head-contact speed while the lifters are down. -/
def Obligations.DriveLawsKept : Prop :=
  (∀ s t : State, TorqueLaw s → step s = .next t → TorqueLaw t) ∧
  (∀ s t : State, SpeedLaw s → step s = .next t → SpeedLaw t)

/-- R56, R140, R142, R143: pinch, brakes, lifters and the capstan lines follow the mode, and lock and correction exist only in
PLAY RUN. -/
def Obligations.OutputLawsKept : Prop :=
  (∀ s t : State, SolenoidLaw s → step s = .next t → SolenoidLaw t) ∧
  (∀ s t : State, CapstanLaw s → step s = .next t → CapstanLaw t)

/-- R151: a record gate is on only while every gate condition holds, a monitor line only while the monitor conditions hold. -/
def Obligations.RecordingLawsKept : Prop :=
  (∀ s t : State, GateLaw s → step s = .next t → GateLaw t) ∧
  (∀ s t : State, MonitorLaw s → step s = .next t → MonitorLaw t)

/-- R12: at most 64 anchors, strictly increasing, every slope within the law, one of them live. -/
def Obligations.MapLawKept : Prop := ∀ s t : State, MapLaw s → step s = .next t → MapLaw t

/-- R10, R26, R28, R40, R152: partners are mutual, of one tag and in order, a PROVISIONAL mark is current on a loaded reel and
holds a spread, slot 0 is unpaired (with their companions); the armed list holds at most four entries, in order with
ranges that do not overlap, at most one ACTIVE (with its companion, the law of the marks). -/
def Obligations.MarkAndArmedLawsKept : Prop :=
  (∀ s t : State, MarkLaw s → step s = .next t → MarkLaw t) ∧
  (∀ s t : State, MarkLaw s ∧ ArmedLaw s → step s = .next t → ArmedLaw t)

/-- R3, R187, R188: the mark table and the retry table stay in canonical form; summary and mask hold none but the eleven
events; the roller counter stays within its limits. -/
def Obligations.TablesKept : Prop :=
  (∀ s t : State, TableForm s → step s = .next t → TableForm t) ∧
  (∀ s t : State, SummaryLaw s → step s = .next t → SummaryLaw t) ∧
  ∀ s t : State, CounterLaw s → step s = .next t → CounterLaw t

/-! ## The link's encoding -/

/-- Reading a request's payload gives back the request, whatever its operands, and it fits a frame. -/
def Obligations.RequestsReadBack : Prop :=
  ∀ (i : Instr) (w : Wire), requestWire i = some w → WellFormed i →
    parseRequest w.hdr w.unit w.cmd w.payload = .ok i ∧ w.payload.length ≤ 48

/-- R180, R181: after an idle, the characters of a frame with its CRC act exactly as the frame taken whole; and a request row
is the frame of its encoding (the model's choice, log entry 5). -/
def Obligations.FramesAreRequests : Prop :=
  (∀ (f : Frame) (s : State), f.WellFormed → s.inReset = false → s.link.silent = false → s.link.tx = .quiet →
     s.link.rx = .idle → hear (sync :: requestChars f.hdr f.unit f.cmd f.payload) s = exec (.unknownCommand f) s) ∧
  (∀ (i : Instr) (w : Wire) (s : State), requestWire i = some w → WellFormed i →
     exec i s = exec (.unknownCommand { hdr := w.hdr, unit := w.unit, cmd := w.cmd, payload := w.payload }) s)

/-! ## Frames, answers and refusals -/

/-- R181, R182, R186: a frame that names another station, or an unlisted originating station by broadcast, does nothing; one
from an unlisted originating station is answered BAD_STATION outside the retry table; one that matches the stored request
is answered with the stored reply and carried out no second time; an unknown unit or command is answered WRONG_UNIT, a
payload of the wrong length RANGE. -/
def Obligations.FramesRefused : Prop :=
  (∀ (f : Frame) (s : State), s.inReset = false → s.link.silent = false → s.link.tx = .quiet →
     (f.hdr.dest ≠ 31 → ¬ Addressed f.hdr s →
       exec (.unknownCommand f) s = .next { s with link := { s.link with rx := .disregard } }) ∧
     (f.hdr.dest = 31 → ¬ StationOk f.hdr.station →
       exec (.unknownCommand f) s = .next { s with link := { s.link with rx := .disregard } }) ∧
     (Addressed f.hdr s → ¬ StationOk f.hdr.station →
       exec (.unknownCommand f) s = .next { s with link := { s.link with
         rx := .disregard
         tx := .replyDue (replyFrame s.link.address f.unit f.hdr (.refuse .badStation)) false } }) ∧
     ∀ e, Addressed f.hdr s → StationOk f.hdr.station → slotGet f.hdr.station s.link.retry = some e → f.hdr.seq ≠ 0 →
       e.unit = f.unit → e.seq = f.hdr.seq → e.cmd = f.cmd → e.payload = f.payload →
       exec (.unknownCommand f) s = .next { s with link := { s.link with rx := .disregard, tx := .replyDue e.reply false } }) ∧
  (∀ (f : Frame) (s : State), Takes { hdr := f.hdr, unit := f.unit, cmd := f.cmd, payload := f.payload } s →
     (3 < f.unit ∨ readerOf f.hdr f.unit f.cmd = none →
       exec (.unknownCommand f) s = .next { s with
         link := answeredLink { hdr := f.hdr, unit := f.unit, cmd := f.cmd, payload := f.payload } .wrongUnit [] s }) ∧
     (∀ r, readerOf f.hdr f.unit f.cmd = some r → r f.payload = none →
       exec (.unknownCommand f) s = .next { s with
         link := answeredLink { hdr := f.hdr, unit := f.unit, cmd := f.cmd, payload := f.payload } .range [] s }))

/-- R182: a request that the port or its owning block refuses changes nothing but the link, and its reply carries no payload. -/
def Obligations.RefusedChangesNothing : Prop :=
  ∀ (i : Instr) (w : Wire) (s : State), requestWire i = some w → Takes w s →
    ∃ c ps b t, exec i s = .next t ∧ t.link.tx = .replyDue (replyTo w c ps s) b ∧
      (c ≠ .ok → c ≠ .clamped → ps = [] ∧ t = { s with link := answeredLink w c [] s })

/-- R180, R181, R184, R191, R192: what one character does to the receiver, up to the one that completes a frame: where its CRC
disagrees the frame is discarded with no reply and no change. SYNC after an idle begins a frame: a reply or slot answer
not yet begun is dropped, and the warm reset of a dropped RESET reply is carried out. That no other character drops one is
log entry 9 (DEDUCED); that SYNC with a framing error begins no frame, and that a framing error makes the receiver
disregard the line until the next idle, is log entry 10 (DEDUCED). -/
def Obligations.CharacterJudged : Prop :=
  ∀ (c : Byte) (fe : Bool) (s : State), s.inReset = false → s.link.silent = false →
    ((∃ b, s.link.tx = .sending b) ∨ s.link.rx = .disregard → exec (.characterReceived c fe) s = .next s) ∧
    ((∀ b, s.link.tx ≠ .sending b) → s.link.rx = .idle →
      (fe = true ∨ c ≠ sync →
        exec (.characterReceived c fe) s = .next { s with link := { s.link with rx := .disregard } }) ∧
      (fe = false → c = sync →
        (s.link.tx = .quiet →
          exec (.characterReceived c fe) s = .next { s with link := { s.link with rx := .collecting [] } }) ∧
        ((∃ f, s.link.tx = .replyDue f false) ∨ (∃ a, s.link.tx = .slotDue a) →
          exec (.characterReceived c fe) s = .next { s with link := { s.link with tx := .quiet, rx := .collecting [] } }) ∧
        (∀ f, s.link.tx = .replyDue f true →
          ∃ t, exec .warmReset { s with link := { s.link with tx := .sending true } } = .next t ∧
            exec (.characterReceived c fe) s = .next { t with link := { t.link with rx := .collecting [] } }))) ∧
    (∀ cs, s.link.rx = .collecting cs → (∀ b, s.link.tx ≠ .sending b) →
      let n := (cs.getD 5 0).toNat
      (fe = true → exec (.characterReceived c fe) s = .next { s with link := { s.link with rx := .disregard } }) ∧
      (fe = false →
        (cs.length < 5 →
          exec (.characterReceived c fe) s = .next { s with link := { s.link with rx := .collecting (cs ++ [c]) } }) ∧
        (cs.length = 5 →
          exec (.characterReceived c fe) s = .next { s with
            link := { s.link with rx := if 48 < c.toNat then .disregard else .collecting (cs ++ [c]) } }) ∧
        (6 ≤ cs.length → cs.length < n + 7 →
          exec (.characterReceived c fe) s = .next { s with link := { s.link with rx := .collecting (cs ++ [c]) } }) ∧
        (cs.length = n + 7 → crcField ((cs ++ [c]).take (n + 6)) ≠ (cs ++ [c]).drop (n + 6) →
          exec (.characterReceived c fe) s = .next { s with link := { s.link with rx := .disregard } })))

/-- R180, R184, R191, R193: the 250 ms of silence run out; an idle opens the receiver and ends a transmission of the card
(DEDUCED, log entry 23), and the warm reset that a RESET owes is carried out then; a reply or a slot answer that is owed
is sent, the receiver disregarding the line meanwhile, and where none is owed the row does nothing (the model's choice,
log entry 2). -/
def Obligations.LineTimes : Prop :=
  (∀ s : State, s.inReset = false →
     (s.link.silent = true →
       exec .linkSilenceEnd s = .next { s with link := { s.link with silent := false, rx := .disregard } }) ∧
     (s.link.silent = false → (∀ b, s.link.tx ≠ .sending b) →
       exec .lineIdle s = .next { s with link := { s.link with rx := .idle } }) ∧
     (s.link.silent = false → s.link.tx = .sending false →
       exec .lineIdle s = .next { s with link := { s.link with tx := .quiet, rx := .idle } }) ∧
     (s.link.silent = false → s.link.tx = .sending true →
       ∃ t, exec .warmReset s = .next t ∧ exec .lineIdle s = .next { t with link := { t.link with rx := .idle } }) ∧
     (s.link.silent = true → exec .lineIdle s = .next s)) ∧
  (∀ s : State, s.inReset = false →
     (∀ f b, s.link.tx = .replyDue f b →
       exec .reply s = .next { s with link := { s.link with tx := .sending b, sent := f, rx := .disregard } }) ∧
     (∀ c, s.link.tx = .slotDue c →
       exec .slotAnswer s = .next { s with link := { s.link with tx := .sending false, sent := [c], rx := .disregard } }) ∧
     (s.link.tx = .quiet → exec .reply s = .next s ∧ exec .slotAnswer s = .next s))

/-! ## Resets -/

/-- R199: a cold start holds every output safe at once, cuts a save short and stops the link. That nothing else changes at
that moment is the model's choice (log entry 18). -/
def Obligations.ColdStartHoldsSafe : Prop :=
  ∀ s : State, ∃ t, exec .coldStart s = .next t ∧ t.inReset = true ∧ serviceLow t = false ∧ t.pending = s.pending ∧
    t.marks = s.marks ∧ t.scanner = s.scanner ∧ t.monitor = s.monitor ∧
    t.tracker = { s.tracker with counter := 0 } ∧
    t.motion = { s.motion with liftersUp := true, pinchIn := false, brakesOn := true } ∧
    t.servo = { s.servo with cmdSupply := 0, cmdTakeUp := 0, drives := false } ∧
    t.capstan = { s.capstan with enable := false, command := 0 } ∧
    t.punch = { s.punch with gateA := false, gateB := false, monA := false, monB := false, offset := 0 } ∧
    t.store = { s.store with save := none } ∧ t.link = { s.link with rx := .disregard, tx := .quiet }

/-- R23, R147, R167, R172, R177, R193, R199 and the reset rules of every block: the card when the internal reset ends. The
values that no rule states are the model's choice: log entry 7 (among them START HIGH), log entry 4 for the times of the
reference. That the permit follows its input through the reset is log entry 8 (DEDUCED). -/
def Obligations.InternalResetEndValues : Prop :=
  ∀ (sw : Nat) (s : State), s.inReset = true →
    ∃ t, exec (.internalResetEnd sw) s = .next t ∧ t.inReset = false ∧ t.pending = s.pending ∧
      t.tracker = State.reset.tracker ∧ t.motion = State.reset.motion ∧ t.scanner = State.reset.scanner ∧
      t.monitor = State.reset.monitor ∧ t.link = { State.reset.link with address := sw } ∧
      t.store.active = 0 ∧ t.store.save = none ∧ t.store.lastSave = .none ∧ t.store.user = s.store.user ∧
      t.store.factory = s.store.factory ∧ t.store.sectorFlag = s.store.user.valid ∧
      t.store.factoryFlag = s.store.factory.valid ∧
      (s.store.user.valid = true → t.store.profiles = s.store.user.image.profiles ∧ t.store.source = .user ∧
        t.capstan.selection = s.store.user.image.selection ∧
        (Rising s.store.user.image.marks → markAt t 0 = none ∧
          ∀ n, 1 ≤ n → n ≤ 99 → markAt t n = (slotGet n s.store.user.image.marks).map savedMark)) ∧
      (s.store.user.valid = false → t.store.profiles = factoryProfiles ∧ t.store.source = .defaults ∧
        t.capstan.selection = .internal ∧ t.marks = []) ∧
      (s.store.factory.valid = true → t.servo.calSupply = s.store.factory.supply ∧
        t.servo.calTakeUp = s.store.factory.takeUp ∧ t.store.serial = s.store.factory.serial ∧
        t.store.revision = s.store.factory.revision) ∧
      (s.store.factory.valid = false → t.servo.calSupply = defaultCal ∧ t.servo.calTakeUp = defaultCal ∧
        t.store.serial = 0 ∧ t.store.revision = 0) ∧
      t.servo = { State.reset.servo with
        rSupply := midpoint (activeProfile t), rTakeUp := midpoint (activeProfile t),
        calSupply := t.servo.calSupply, calTakeUp := t.servo.calTakeUp } ∧
      t.capstan =
        { timebase := s.capstan.timebase, selection := t.capstan.selection
          refState := if t.capstan.selection = .wordClock then .qualifying else .internal
          qual := 0, divider := 0, openAt := none, latest := none, silence := none
          lastInternal := s.capstan.timebase, lastEdge := s.capstan.timebase, period := 10000, vRef := 10000
          lock := false, lockCount := 0, missed := 0, lastPhase := none, correction := 0, enable := false, command := 0
          startHigh := true, startArmed := false, startCount := 0, startEdges := 0 } ∧
      t.punch = { State.reset.punch with permitPin := s.punch.permitPin, permit := s.punch.permitPin, zones := zonesOf t }

/-- R192, with R22, R53, R79, R118, R129, R147, R167, R193 and R200: the warm reset after the reply to RESET has gone. That
WARM_RESET is the end of that reply's transmission is log entry 23 (DEDUCED); that a conversion due for judgement is
dropped is log entry 36 (the model's choice). -/
def Obligations.WarmResetValues : Prop :=
  ∀ s : State, s.inReset = false → s.link.tx = .sending true → Parked s → GateLaw s → MonitorLaw s → TableForm s →
    ∃ t, exec .warmReset s = .next t ∧ OnlyIn [.tracker, .marks, .motion, .servo, .monitor, .capstan, .punch, .link] s t ∧
      t.tracker = State.reset.tracker ∧
      (∀ n m, markAt t n = some m → n ≠ 0 ∧ m.tag ≠ none ∧ m.standing = .firm) ∧
      (∀ n m, n ≠ 0 → markAt s n = some m → m.tag ≠ none →
        ∃ p, markAt t n = some { m with standing := .firm, partner := p } ∧ (MarkLaw s → p = m.partner)) ∧
      t.motion = { s.motion with
        vCmd := 0, tapeTimer := 0, leader := none, idle := 0, rampK := 0, engageTimer := 0,
        held := none, loc := none, result := none } ∧
      t.servo = { s.servo with
        winCount := 0, refRoller := s.servo.accRoller, refSupply := s.servo.accSupply, refTakeUp := s.servo.accTakeUp,
        rSupply := midpoint (activeProfile s), rTakeUp := midpoint (activeProfile s), cmdSupply := 0, cmdTakeUp := 0,
        drives := false, rampDone := false, ready := 0, loss := 0, runaway := 0, stopSupply := false,
        stopTakeUp := false, foundSupply := false, foundTakeUp := false } ∧
      t.monitor = State.reset.monitor ∧
      t.punch = { s.punch with
        gateA := false, gateB := false, monA := false, monB := false, offset := 0, entries := [], manual := .off
        permit := s.punch.permitPin, last := none, zones := zonesOf t } ∧
      t.capstan = { s.capstan with
        refState := if s.capstan.refState = .internal then .internal else .qualifying
        qual := 0, divider := 0, openAt := none, latest := none, silence := none, vRef := 10000
        period := if s.capstan.refState = .external then 10000 else s.capstan.period
        lastEdge := if s.capstan.refState = .external then s.capstan.lastInternal else s.capstan.lastEdge
        lock := false, lockCount := 0, missed := 0, correction := 0, enable := false, command := 0 } ∧
      t.link = { s.link with
        tx := .quiet, retry := [],
        summary := (if ∃ p ∈ s.marks, p.2.tag = none then Event.marksLost.bit else 0) |||
          (if s.capstan.refState = .external ∨ s.capstan.refState = .fallback then Event.referenceChange.bit else 0) }

/-! ## The profile update and the limits it reaches -/

/-- R57, R58, R60, R61, R65: the profile update in the modes at rest, short of the limits that end them: v_cmd is 0 at once,
the leader side clears on opaque tape, the lifters come down in STOPPED FULL only, and the mode's own timer counts. -/
def Obligations.RestUpdates : Prop :=
  ∀ s : State, s.inReset = false →
    (s.motion.mode = .stopped .eased →
      exec .profileUpdate s = .next { s with motion := { s.motion with vCmd := 0, leader := sideAfter s } }) ∧
    (s.motion.mode = .stopped .full → (activeProfile s).easeTime ≠ 0 → s.motion.idle + 1 < (activeProfile s).easeTime * 1000 →
      exec .profileUpdate s = .next { s with
        motion := { s.motion with
          vCmd := 0, leader := sideAfter s, idle := s.motion.idle + 1
          liftersUp := if mag s.servo.vMeas ≤ 40000 then false else s.motion.liftersUp } }) ∧
    (s.motion.mode = .empty → s.motion.tapeTimer < 499 →
      exec .profileUpdate s = .next { s with
        motion := { s.motion with
          vCmd := 0, leader := sideAfter s
          tapeTimer := if s.scanner.optical = .opaqueTape then s.motion.tapeTimer + 1 else 0 } }) ∧
    (s.motion.mode = .released → s.motion.tapeTimer < 499 →
      exec .profileUpdate s = .next { s with
        motion := { s.motion with
          vCmd := 0, leader := sideAfter s
          tapeTimer := if s.scanner.optical = .clear then s.motion.tapeTimer + 1 else 0 } }) ∧
    (s.motion.mode = .engaging → s.motion.rampK < 199 → s.motion.engageTimer < 2999 →
      exec .profileUpdate s = .next { s with
        motion := { s.motion with
          vCmd := 0, leader := sideAfter s, rampK := s.motion.rampK + 1, engageTimer := s.motion.engageTimer + 1
          setpoint := (activeProfile s).tPlay * (s.motion.rampK + 1) / 200 } }) ∧
    (s.motion.mode = .stopped .restoring → s.motion.restoreK < 249 →
      exec .profileUpdate s = .next { s with
        motion := { s.motion with
          vCmd := 0, leader := sideAfter s, restoreK := s.motion.restoreK + 1
          setpoint := (activeProfile s).tPlay / 2 +
            ((activeProfile s).tPlay - (activeProfile s).tPlay / 2) * (s.motion.restoreK + 1) / 250 } }) ∧
    (s.motion.mode = .releasing → s.motion.releaseK < 499 →
      exec .profileUpdate s = .next { s with
        motion := { s.motion with
          vCmd := 0, leader := sideAfter s, releaseK := s.motion.releaseK + 1
          setpoint := s.motion.releaseStart - s.motion.releaseStart * (s.motion.releaseK + 1) / 500 } })

/-- R57 to R59, R68 to R72, R75, R76, R89 to R92, R94, R96, R97: the profile update in CUE on opaque tape, outside both end
zones; and the speed command that an update forms in every moving mode: the wanted speed of PLAY, CUE, WIND, STOPPING and
each phase of LOCATE, the ramp (none in PLAY RUN) and the caps; with the passages between the phases of a locate. That the
phase is judged before the speed is formed, and the settle test of the update that enters APPROACH, are log entry 3
(DEDUCED; the settle test the model's choice). -/
def Obligations.SpeedsFormed : Prop :=
  (∀ s : State, s.inReset = false → s.motion.mode = .cue → s.scanner.optical = .opaqueTape → inEndZone s .forward = false →
     inEndZone s .reverse = false → 0 ≤ decelLimit s → mag s.motion.vCmd ≤ ((activeProfile s).windMax : Int) * 100 →
     mag s.motion.want ≤ ((activeProfile s).windMax : Int) * 100 →
     (s.motion.liftersUp = false → mag s.motion.vCmd ≤ 40000 ∧ mag s.motion.want ≤ 40000) →
     exec .profileUpdate s = .next { s with
       motion := { s.motion with
         vCmd := moveToward s.motion.vCmd s.motion.want (decelLimit s / 1000), leader := none
         liftersUp := if mag s.servo.vMeas ≤ 40000 ∧ mag (moveToward s.motion.vCmd s.motion.want (decelLimit s / 1000)) ≤ 40000
           then false else s.motion.liftersUp } }) ∧
  (∀ s : State, s.inReset = false →
     let a := decelLimit s
     let wind : Int := (activeProfile s).windMax * 100
     let ramp := fun w : Int => moveToward s.motion.vCmd w (a / 1000)
     let top := if s.motion.liftersUp = true then wind else min wind 40000
     let zone := fun w v : Int =>
       ((0 < v ∨ (v = 0 ∧ 0 < w)) ∧ inEndZone s .forward = true) ∨ ((v < 0 ∨ (v = 0 ∧ w < 0)) ∧ inEndZone s .reverse = true)
     let speed := fun w r : Int => let v := capMag top r; if zone w v then capMag 20000 v else v
     let edge := fun v : Int =>
       if 0 < v then (((activeProfile s).nominal : Int) - 500) * 100 - estimate s else estimate s - 50000
     let windSpeed := fun cap w : Int =>
       let v := capMag cap (ramp w)
       if zone w v then capMag 20000 v
       else if quality s = .unknown then v
       else capMag (isqrtInt (400000000 + 2 * a * edge v)) v
     ∃ t, exec .profileUpdate s = .next t ∧
       (s.motion.mode = .play .entry → t.motion.vCmd = speed s.capstan.vRef (ramp s.capstan.vRef)) ∧
       (s.motion.mode = .play .run → t.motion.vCmd = speed s.capstan.vRef s.capstan.vRef) ∧
       (s.motion.mode = .cue → t.motion.vCmd = speed s.motion.want (ramp s.motion.want)) ∧
       (s.motion.mode = .wind → t.motion.vCmd = windSpeed top s.motion.want) ∧
       (s.motion.mode = .stopping .normal ∨ s.motion.mode = .stopping .safe → t.motion.vCmd = speed 0 (ramp 0)) ∧
       (∀ c ∈ s.motion.loc,
         let d := mag (c.targetTick - estimate s)
         let near := d ≤ c.approach ∧ mag s.servo.vMeas ≤ 40000
         let signed := fun x : Int => if c.targetTick < estimate s then -x else x
         let close := signed (min 40000 (isqrtInt (80000 * d)))
         let curve :=
           if c.approach < d then signed (min wind (isqrtInt (1600000000 + 2 * a * (d - c.approach)))) else close
         (s.motion.mode = .locate .search → quality s = .unknown → mag (s.tracker.counter - c.searchStart) < 300000 →
           t.motion.vCmd = speed 20000 (ramp 20000)) ∧
         (s.motion.mode = .locate .search → quality s = .unknown → 300000 ≤ mag (s.tracker.counter - c.searchStart) →
           t.motion.vCmd = speed 0 (ramp 0)) ∧
         (s.motion.mode = .locate .run → ¬ near → t.motion.vCmd = windSpeed top curve) ∧
         (s.motion.mode = .locate .approach → d ≤ c.approach →
           t.motion.vCmd = if c.latch = true ∨ d ≤ 100 then 0 else speed close (ramp close)) ∧
         (s.motion.mode = .locate .run ∨ (s.motion.mode = .locate .search ∧ quality s ≠ .unknown) → near →
           t.motion.vCmd = (if d ≤ 100 then 0 else speed close (ramp close)) ∧
           (s.scanner.optical = .opaqueTape → OnlyIn [.motion, .capstan] s t ∧ t.motion.mode = .locate .approach ∧
             t.motion.still = 0 ∧ t.motion.loc.map LocCtx.latch = some (decide (d ≤ 100)))) ∧
         (s.motion.mode = .locate .creep → d ≤ c.approach →
           t.motion.vCmd =
             if c.creep = some .forward ∧ estimate s < c.targetTick then speed 2500 (ramp 2500)
             else if c.creep = some .reverse ∧ c.targetTick < estimate s then speed (-2500) (ramp (-2500))
             else 0) ∧
         (s.motion.mode = .locate .hold → d ≤ c.approach → c.holdLimit = 0 ∨ c.holdTimer + 1 < c.holdLimit →
           t.motion.vCmd = speed 0 (ramp 0)) ∧
         (s.motion.mode = .locate .hold → d ≤ c.approach → c.holdLimit ≠ 0 → c.holdLimit ≤ c.holdTimer + 1 →
           t.motion.vCmd = 0) ∧
         ((s.motion.mode = .locate .approach ∨ s.motion.mode = .locate .creep ∨ s.motion.mode = .locate .hold) ∧ c.approach < d ∨
             s.motion.mode = .locate .search ∧ quality s ≠ .unknown ∧ ¬ near →
           t.motion.vCmd = windSpeed wind curve ∧
           (s.scanner.optical = .opaqueTape → OnlyIn [.motion, .capstan] s t ∧ t.motion.mode = .locate .run ∧
             t.motion.liftersUp = true ∧
             t.motion.loc.map (fun x => { x with lastDir := c.lastDir }) =
               some { c with latch := false, creep := none, judgement := none, holdTimer := 0 }))) ∧
       (s.scanner.optical = .opaqueTape → t.motion.mode = s.motion.mode → s.motion.entryCount < 19 → s.motion.still < 19 →
         (∃ k, s.motion.mode = .play k) ∨ s.motion.mode = .cue ∨ s.motion.mode = .wind ∨ (∃ k, s.motion.mode = .locate k) ∨
           (∃ k, s.motion.mode = .stopping k) →
         OnlyIn [.motion] s t ∧
         t.motion = { s.motion with
           vCmd := t.motion.vCmd, liftersUp := t.motion.liftersUp, leader := none, loc := t.motion.loc
           still := t.motion.still, entryCount := t.motion.entryCount }))

/-- R61, R75, R76: in CUE and WIND the speed command in an end zone is at most 20,000 ticks/s; and a clear sensor at an update
that travels, with no leader side noted or the side of this travel, ends the motion: the side is kept, TAPE_END raised,
and the transport stops. -/
def Obligations.TapeEnds : Prop :=
  ∀ (d : Dir) (s : State), s.inReset = false → s.motion.mode = .cue ∨ s.motion.mode = .wind →
    ∃ t, exec .profileUpdate s = .next t ∧
      (signDir t.motion.vCmd = some d → inEndZone s d = true → mag t.motion.vCmd ≤ 20000) ∧
      (s.motion.loc = none → s.scanner.optical = .clear →
        travel { s with motion := { s.motion with vCmd := nextSpeed s } } = some d →
        s.motion.leader = none ∨ s.motion.leader = some d →
        OnlyIn [.motion, .capstan, .link] s t ∧ t.motion.mode = .stopping .normal ∧ t.motion.leader = some d ∧
          t.motion.vCmd = nextSpeed s ∧ t.motion.still = 0 ∧
          t.capstan = { s.capstan with enable := true, command := s.capstan.vRef } ∧ t.link = raised .tapeEnd s.link)

/-- R4, R56, R60, R63, R64, R77, R111, R140, R194, R195: the tape is threaded; the engage ramp completes at count 200; at
3,000 ms the engage is given up: ENGAGE_TIMEOUT is recorded and the transport releases from the setpoint in force. -/
def Obligations.ThreadsAndEngages : Prop :=
  (∀ s : State, s.inReset = false → s.motion.mode = .empty → s.motion.tapeTimer = 499 → s.scanner.optical = .opaqueTape →
     exec .thread s = .next { s with
       tracker := { s.tracker with counter := 0 }
       motion := { s.motion with
         mode := .released, vCmd := 0, leader := none, liftersUp := true, pinchIn := false, brakesOn := true, tapeTimer := 0 }
       servo := { s.servo with cmdSupply := 0, cmdTakeUp := 0, drives := false }
       capstan := { s.capstan with enable := false, command := 0 } }) ∧
  (∀ s : State, s.inReset = false → s.motion.mode = .engaging →
     (s.motion.rampK = 199 → s.motion.engageTimer < 2999 →
       exec .rampComplete s = .next { s with
         motion := { s.motion with
           vCmd := 0, leader := sideAfter s, rampK := 200, engageTimer := s.motion.engageTimer + 1
           setpoint := (activeProfile s).tPlay }
         servo := { s.servo with rampDone := true } }) ∧
     (s.motion.rampK = 200 → s.motion.engageTimer = 2999 → ¬ HasRecord s .engageTimeout →
       exec .engageTimeout s = .next { s with
         motion := { s.motion with
           mode := .releasing, vCmd := 0, leader := sideAfter s, engageTimer := 3000, liftersUp := true, pinchIn := false
           brakesOn := false, setpoint := (activeProfile s).tPlay, releaseStart := (activeProfile s).tPlay, releaseK := 0
           restoreK := 0 }
         servo := { s.servo with ready := 0, rampDone := false }
         capstan := { s.capstan with enable := false, command := 0 }
         monitor := { s.monitor with
           faults := s.monitor.faults ++
             [{ cause := .engageTimeout, count := 1, mode := .engaging, estimate := estimate s, quality := quality s }] }
         link := raised .fault s.link }))

/-- R22, R53, R60, R79, R137, R167: the tape has gone: what it takes with it, in every block. -/
def Obligations.Unthreads : Prop :=
  ∀ s : State, s.inReset = false → s.motion.mode = .released → s.motion.tapeTimer = 499 → s.scanner.optical = .clear →
    GateLaw s → MonitorLaw s → TableForm s →
    ∃ t, exec .unthread s = .next t ∧ OnlyIn [.tracker, .marks, .motion, .servo, .capstan, .punch, .link] s t ∧
      t.tracker = State.reset.tracker ∧
      (∀ n m, markAt t n = some m → n ≠ 0 ∧ m.tag ≠ none ∧ m.standing = .firm) ∧
      (∀ n m, n ≠ 0 → markAt s n = some m → m.tag ≠ none →
        ∃ p, markAt t n = some { m with standing := .firm, partner := p } ∧ (MarkLaw s → p = m.partner)) ∧
      t.motion = { s.motion with
        mode := .empty, vCmd := 0, leader := none, liftersUp := true, pinchIn := false, brakesOn := true, tapeTimer := 0,
        idle := 0, rampK := 0, engageTimer := 0, held := none, loc := none } ∧
      t.servo = { s.servo with cmdSupply := 0, cmdTakeUp := 0, drives := false } ∧
      t.punch = { s.punch with
        gateA := false, gateB := false, monA := false, monB := false, offset := 0, entries := [], manual := .off, zones := [] } ∧
      (s.capstan.refState = .internal ∨ spb s = 480 →
        t.capstan = { s.capstan with enable := false, command := 0 } ∧
        t.link = if ∃ p ∈ s.marks, p.2.tag = none then raised .marksLost s.link else s.link) ∧
      (s.capstan.refState ≠ .internal → spb s ≠ 480 →
        t.capstan.refState = .qualifying ∧ t.capstan.qual = 0 ∧ t.capstan.divider = 0 ∧ t.capstan.latest = none)

/-- R63, R65, R69, R102, R112, R113, R115, R140, R142, R143, R152: the fiftieth computation in the ready window ends ENGAGING
in STOPPED FULL with the idle timer at 0, and is judged in step 6 of R102 as one of ENGAGING, with nothing reported and
the loss and runaway counts (R113, R115) at 0, which is log entry 17 (DEDUCED); PLAY ENTRY passes to RUN: the pinch goes
in, the lock starts UNLOCKED, and every armed entry takes its stage. -/
def Obligations.ModesReached : Prop :=
  (∀ s : State, s.inReset = false → s.motion.mode = .engaging → s.servo.rampDone = true → s.servo.ready = 49 →
     InReadyWindow (servoFigures s).servo → s.monitor.due = none →
     ∃ t, exec .ready s = .next t ∧ OnlyIn [.motion, .servo, .capstan] s t ∧
       t.motion = { s.motion with mode := .stopped .full, pinchIn := false, brakesOn := false, idle := 0 } ∧
       t.servo.ready = 0 ∧ t.servo.rampDone = false ∧ t.servo.drives = s.servo.drives ∧ t.servo.loss = 0 ∧ t.servo.runaway = 0 ∧
       t.capstan = { s.capstan with enable := true, command := s.capstan.vRef }) ∧
  (∀ s : State, s.inReset = false → s.motion.mode = .play .entry → s.motion.entryCount = 19 → s.motion.liftersUp = false →
     mag (s.servo.vMeas - s.capstan.vRef) ≤ 500 → s.scanner.optical = .opaqueTape →
     ∃ t, exec .entryToRun s = .next t ∧ OnlyIn [.motion, .capstan, .punch] s t ∧
       t.motion = { s.motion with
         mode := .play .run, vCmd := nextSpeed s, leader := none, pinchIn := true, brakesOn := false, entryCount := 0 } ∧
       t.capstan = { s.capstan with
         enable := true, command := s.capstan.vRef, lock := false, lockCount := 0, missed := 0, correction := 0 } ∧
       t.punch = { s.punch with entries := s.punch.entries.map (restage t) })

/-- R65, R66: easing after the ease time; and the end of a restore, at which the pending request begins. -/
def Obligations.EaseAndRestore : Prop :=
  ∀ (w : Int) (s : State), s.inReset = false →
    (s.motion.mode = .stopped .full → (activeProfile s).easeTime ≠ 0 → s.motion.idle + 1 = (activeProfile s).easeTime * 1000 →
      exec .ease s = .next { s with
        motion := { s.motion with
          mode := .stopped .eased, vCmd := 0, leader := sideAfter s, liftersUp := true, pinchIn := false, brakesOn := false
          setpoint := (activeProfile s).tPlay / 2 }
        capstan := { s.capstan with enable := true, command := s.capstan.vRef } }) ∧
    (s.motion.mode = .stopped .restoring → s.motion.restoreK = 249 → s.motion.loc = none → s.motion.held = some (.wind w) →
      exec .restoreComplete s = .next { s with
        motion := { s.motion with
          mode := .wind, want := w, vCmd := 0, leader := sideAfter s, liftersUp := true, pinchIn := false, brakesOn := false
          restoreK := 0, setpoint := (activeProfile s).tPlay, idle := 0, held := none }
        capstan := { s.capstan with enable := true, command := s.capstan.vRef } }) ∧
    (s.motion.mode = .stopped .restoring → s.motion.restoreK = 249 → s.motion.loc = none → mag s.servo.vMeas ≤ 40000 →
      (s.motion.held = none →
        exec .restoreComplete s = .next { s with
          motion := { s.motion with
            mode := .stopped .full, vCmd := 0, leader := sideAfter s, liftersUp := false, pinchIn := false, brakesOn := false
            restoreK := 0, setpoint := (activeProfile s).tPlay, idle := 0 }
          capstan := { s.capstan with enable := true, command := s.capstan.vRef } }) ∧
      (s.motion.held = some (.cue w) →
        exec .restoreComplete s = .next { s with
          motion := { s.motion with
            mode := .cue, want := w, vCmd := 0, leader := sideAfter s, liftersUp := false, pinchIn := false, brakesOn := false
            restoreK := 0, setpoint := (activeProfile s).tPlay, idle := 0, held := none }
          capstan := { s.capstan with enable := true, command := s.capstan.vRef } }) ∧
      (s.motion.held = some .play →
        exec .restoreComplete s = .next { s with
          motion := { s.motion with
            mode := .play .entry, vCmd := 0, leader := sideAfter s, liftersUp := false, pinchIn := false, brakesOn := false
            restoreK := 0, setpoint := (activeProfile s).tPlay, idle := 0, held := none, entryCount := 0 }
          capstan := { s.capstan with enable := true, command := s.capstan.vRef } }))

/-- R64, R68, R78, R107: the end of the release ramp, of a stop of either kind, and of a halt. That a safe stop releases from
T_wind, the setpoint in force, is log entry 16 (DEDUCED). -/
def Obligations.StopsEnd : Prop :=
  ∀ s : State, s.inReset = false →
    (s.motion.mode = .releasing → s.motion.releaseK = 499 →
      exec .releaseRampEnd s = .next { s with
        motion := { s.motion with
          mode := .released, vCmd := 0, leader := sideAfter s, liftersUp := true, pinchIn := false, brakesOn := true
          tapeTimer := 0, setpoint := 0, releaseK := 0 }
        servo := { s.servo with cmdSupply := 0, cmdTakeUp := 0, drives := false }
        capstan := { s.capstan with enable := false, command := 0 } }) ∧
    (s.motion.mode = .stopping .normal → s.motion.still = 19 → s.motion.vCmd = 0 → mag s.servo.vMeas < 200 → 0 ≤ decelLimit s →
      exec .stationary s = .next { s with
        motion := { s.motion with
          mode := .stopped .full, leader := sideAfter s, liftersUp := false, pinchIn := false, brakesOn := false, idle := 0
          still := 0 }
        capstan := { s.capstan with enable := true, command := s.capstan.vRef } }) ∧
    (s.motion.mode = .stopping .safe → s.motion.still = 19 → s.motion.vCmd = 0 → mag s.servo.vMeas < 200 → 0 ≤ decelLimit s →
      exec .stationary s = .next { s with
        motion := { s.motion with
          mode := .releasing, leader := sideAfter s, liftersUp := true, pinchIn := false, brakesOn := false, still := 0
          setpoint := (activeProfile s).tWind, releaseStart := (activeProfile s).tWind, releaseK := 0, restoreK := 0 }
        capstan := { s.capstan with enable := false, command := 0 } }) ∧
    (s.motion.mode = .halting → s.scanner.optical = .opaqueTape →
      (s.motion.haltStill = 99 ∧ mag s.servo.vMeas < 100) ∨ s.motion.haltTimer = 4999 →
      exec .haltEnd s = .next { s with
        motion := { s.motion with
          mode := .released, vCmd := 0, leader := none, liftersUp := true, pinchIn := false, brakesOn := true, tapeTimer := 0
          haltTimer := 0, haltStill := 0 }
        servo := { s.servo with cmdSupply := 0, cmdTakeUp := 0, drives := false }
        capstan := { s.capstan with enable := false, command := 0 } })

/-- R91, R93 to R96, R98: a search that finds no address, an arrival, an arrival that fails in APPROACH or at the end of a
creep run with the creep run or the end it brings (a run the other way is one more reversal), and the expiry of a hold. -/
def Obligations.LocatesEnd : Prop :=
  ∀ (c : LocCtx) (s : State), s.inReset = false → s.motion.loc = some c → s.scanner.optical = .opaqueTape → 0 ≤ decelLimit s →
    (s.motion.mode = .locate .search → quality s = .unknown → 300000 ≤ mag (s.tracker.counter - c.searchStart) →
      ∃ t, exec .searchExhausted s = .next t ∧ OnlyIn [.motion, .capstan, .link] s t ∧ t.motion.mode = .stopping .normal ∧
        t.motion.loc = none ∧ t.motion.still = 0 ∧
        t.motion.result = some { targetTick := c.targetTick, mark := c.target.markNumber, result := .noAddress, error := none,
                                 reversals := c.reversals } ∧
        t.capstan = { s.capstan with enable := true, command := s.capstan.vRef } ∧ t.link = raised .locateDone s.link) ∧
    ((s.motion.mode = .locate .approach ∧ c.latch = true) ∨ (s.motion.mode = .locate .creep ∧ c.creep = none) →
      s.motion.still = 19 → s.motion.vCmd = 0 → mag s.servo.vMeas < 200 → mag (c.targetTick - estimate s) ≤ c.approach →
      let dir : Dir := if c.targetTick < estimate s then .reverse else .forward
      let turned := if c.lastDir = none ∨ c.lastDir = some dir then c.reversals else c.reversals + 1
      (mag (estimate s - c.targetTick) ≤ 100 → c.followOn = .stop →
        exec .arrivalTest s = .next { s with
          motion := { s.motion with
            mode := .stopped .full, loc := none, leader := none, liftersUp := false, pinchIn := false, brakesOn := false
            idle := 0, still := 0
            result := some { targetTick := c.targetTick, mark := c.target.markNumber
                             result := if quality s = .locked then .arrived else .reckoned
                             error := if quality s = .unknown then none else some (estimate s - c.targetTick)
                             reversals := c.reversals } }
          capstan := { s.capstan with enable := true, command := s.capstan.vRef }
          link := raised .locateDone s.link }) ∧
      (mag (estimate s - c.targetTick) ≤ 100 → c.followOn = .play →
        ∃ t, exec .arrivalTest s = .next t ∧ OnlyIn [.motion, .capstan, .punch, .link, .marks] s t ∧
          t.motion.mode = .play .entry ∧ t.motion.loc = none ∧ t.motion.entryCount = 0 ∧
          t.motion.result = some { targetTick := c.targetTick, mark := c.target.markNumber
                                   result := if quality s = .locked then .arrived else .reckoned
                                   error := if quality s = .unknown then none else some (estimate s - c.targetTick)
                                   reversals := c.reversals } ∧
          t.capstan = { s.capstan with enable := true, command := s.capstan.vRef } ∧ Latched .locateDone t ∧
          (quality s = .unknown → t.marks = s.marks) ∧
          (quality s ≠ .unknown → (markAt t 0).map Mark.addr = some (placeHere s))) ∧
      (mag (estimate s - c.targetTick) ≤ 100 → c.followOn = .playOnTrigger →
        exec .arrivalTest s = .next { s with
          motion := { s.motion with
            mode := .locate .hold, leader := none, liftersUp := false, pinchIn := false, brakesOn := false, still := 0
            loc := some { c with
              judgement := some (if quality s = .locked then .arrived else .reckoned), holdTimer := 0, creep := none } }
          capstan := { s.capstan with enable := true, command := s.capstan.vRef } }) ∧
      (100 < mag (estimate s - c.targetTick) → turned < 4 →
        exec .arrivalTest s = .next { s with
          motion := { s.motion with
            mode := .locate .creep, leader := none, liftersUp := false, pinchIn := false, brakesOn := false, still := 0
            loc := some { c with creep := some dir, reversals := turned } }
          capstan := { s.capstan with enable := true, command := s.capstan.vRef } }) ∧
      (100 < mag (estimate s - c.targetTick) → turned = 4 →
        exec .arrivalTest s = .next { s with
          motion := { s.motion with
            mode := .stopped .full, loc := none, leader := none, liftersUp := false, pinchIn := false, brakesOn := false
            idle := 0, still := 0
            result := some { targetTick := c.targetTick, mark := c.target.markNumber, result := .inexact
                             error := if quality s = .unknown then none else some (estimate s - c.targetTick)
                             reversals := 4 } }
          capstan := { s.capstan with enable := true, command := s.capstan.vRef }
          link := raised .locateDone s.link })) ∧
    (s.motion.mode = .locate .hold → c.holdLimit ≠ 0 → c.holdLimit = c.holdTimer + 1 → s.motion.vCmd = 0 →
      mag s.servo.vMeas ≤ 40000 → mag (c.targetTick - estimate s) ≤ c.approach →
      ∃ t, exec .holdExpiry s = .next t ∧ OnlyIn [.motion, .capstan, .link] s t ∧ t.motion.mode = .stopped .full ∧
        t.motion.loc = none ∧ t.motion.idle = 0 ∧ t.motion.result.map LocResult.result = some .holdExpired ∧
        t.capstan = { s.capstan with enable := true, command := s.capstan.vRef } ∧ t.link = raised .locateDone s.link)

/-! ## Scans, judgements, computations -/

/-- R122, R123: the value that a completion writes for each channel it converts. -/
def Obligations.ChannelValues : Prop :=
  ∀ (c : ScanCodes) (s : State), s.inReset = false → s.scanner.table.length = 7 →
    ∃ t, exec (.scanCompletion c) s = .next t ∧
      (t.scanner.table.getD 0 blankChannel).value = c.supplyArm ∧ (t.scanner.table.getD 1 blankChannel).value = c.takeUpArm ∧
      (s.scanner.pointer = 2 ∨ s.scanner.pointer = 3 →
        (t.scanner.table.getD s.scanner.pointer blankChannel).value = (((c.rotating : Int) - 2048) * 12000).tdiv 2048) ∧
      (s.scanner.pointer = 4 → (t.scanner.table.getD 4 blankChannel).value = (((c.rotating : Int) - 2048) * 4000).tdiv 2048) ∧
      (s.scanner.pointer = 5 → (t.scanner.table.getD 5 blankChannel).value = (c.rotating : Int) * 60000 / 4096) ∧
      (s.scanner.pointer = 6 → (t.scanner.table.getD 6 blankChannel).value = c.rotating)

/-- R120, R124, R125, R130: a scan turns the rotation pointer through channels 2 to 6; a completion writes code, age and
saturation of the three channels it converts, ages the rest, reports the pointer, and on channel 6 forms the optical state
with its hysteresis and changes nothing outside the scanner. -/
def Obligations.ScansTaken : Prop :=
  (∀ s : State, s.inReset = false →
     exec .scan s = .next { s with
       scanner := { s.scanner with pointer := if s.scanner.pointer < 6 then s.scanner.pointer + 1 else 2 } }) ∧
  (∀ (n : Nat) (c : ScanCodes) (s : State), s.inReset = false → s.scanner.table.length = 7 → n < 7 → 2 ≤ s.scanner.pointer →
     ∃ t, exec (.scanCompletion c) s = .next t ∧ t.scanner.pointer = s.scanner.pointer ∧ t.scanner.latest = s.scanner.pointer ∧
       (n = 0 →
         (t.scanner.table.getD n blankChannel).code = c.supplyArm ∧ (t.scanner.table.getD n blankChannel).age = 0 ∧
         (t.scanner.table.getD n blankChannel).saturation = decide (c.supplyArm = 0 ∨ c.supplyArm = 4095)) ∧
       (n = 1 →
         (t.scanner.table.getD n blankChannel).code = c.takeUpArm ∧ (t.scanner.table.getD n blankChannel).age = 0 ∧
         (t.scanner.table.getD n blankChannel).saturation = decide (c.takeUpArm = 0 ∨ c.takeUpArm = 4095)) ∧
       (n ≠ 0 → n ≠ 1 → n ≠ s.scanner.pointer →
         t.scanner.table.getD n blankChannel = { s.scanner.table.getD n blankChannel with
           age := min 65535 ((s.scanner.table.getD n blankChannel).age + 1) }) ∧
       (n = s.scanner.pointer →
         (t.scanner.table.getD n blankChannel).code = c.rotating ∧ (t.scanner.table.getD n blankChannel).age = 0 ∧
         (t.scanner.table.getD n blankChannel).saturation = decide (c.rotating = 0 ∨ c.rotating = 4095)) ∧
       (s.scanner.pointer = 6 → (s.monitor.due = none → OnlyIn [.scanner] s t) ∧
         t.scanner.optical = if c.rotating < 800 then .clear else if 2400 < c.rotating then .opaqueTape else s.scanner.optical) ∧
       (s.scanner.pointer ≠ 6 → t.scanner.optical = s.scanner.optical))

/-- R77, R78, R102, R111, R121, R126 to R128, R194, R195: in CUE with nothing planned, the conversion that completes a run-
length records its fault and gives its order: REEL_CURRENT and SUPPLY_LOW halt, CAPSTAN_OVERLOAD stops safely. These rows
take the judgement first; SCAN_COMPLETION leaves a judgement that brings a report due, and a servo computation taken then
acts on the new codes in the old mode before the order (the model's choice of rows, log entry 36). -/
def Obligations.ConversionFaults : Prop :=
  (∀ (c : ScanCodes) (s : State), s.inReset = false → s.motion.mode = .cue → s.motion.loc = none → s.motion.held = none →
     s.monitor.faults = [] → s.monitor.due = none →
     let record := fun cause : Cause =>
       [({ cause := cause, count := 1, mode := .cue, estimate := estimate s, quality := quality s } : FaultRec)]
     let halted := { s.motion with
       mode := .halting, vCmd := 0, liftersUp := true, pinchIn := false, brakesOn := true, haltTimer := 0, haltStill := 0 }
     (s.scanner.pointer = 2 → s.monitor.reel2 = 9 → 10000 < mag ((((c.rotating : Int) - 2048) * 12000).tdiv 2048) →
       ∃ t, exec (.reelCurrent c) s = .next t ∧ OnlyIn [.scanner, .monitor, .motion, .servo, .capstan, .link] s t ∧
         t.monitor = { s.monitor with reel2 := 10, faults := record .reelCurrent } ∧ t.motion = halted ∧
         t.servo = { s.servo with cmdSupply := 0, cmdTakeUp := 0, drives := false } ∧
         t.capstan = { s.capstan with enable := false, command := 0 } ∧ t.link = raised .fault s.link) ∧
     (s.scanner.pointer = 3 → s.monitor.reel3 = 9 → 10000 < mag ((((c.rotating : Int) - 2048) * 12000).tdiv 2048) →
       ∃ t, exec (.reelCurrent c) s = .next t ∧ t.monitor = { s.monitor with reel3 := 10, faults := record .reelCurrent } ∧
         t.motion = halted) ∧
     (s.scanner.pointer = 4 → s.monitor.overload = 199 → 3500 < mag ((((c.rotating : Int) - 2048) * 4000).tdiv 2048) →
       ∃ t, exec (.capstanOverload c) s = .next t ∧ OnlyIn [.scanner, .monitor, .motion, .capstan, .link] s t ∧
         t.monitor = { s.monitor with overload := 200, faults := record .capstanOverload } ∧
         t.motion = { s.motion with mode := .stopping .safe, pinchIn := false, brakesOn := false, still := 0 } ∧
         t.capstan = { s.capstan with enable := false, command := 0 } ∧ t.link = raised .fault s.link) ∧
     (s.scanner.pointer = 5 → s.monitor.supplyLow = false → s.monitor.lowCount = 1 → (c.rotating : Int) * 60000 / 4096 < 38000 →
       ∃ t, exec (.supplyLow c) s = .next t ∧ OnlyIn [.scanner, .monitor, .motion, .servo, .capstan, .link] s t ∧
         t.monitor = { s.monitor with supplyLow := true, lowCount := 2, faults := record .supplyLow } ∧ t.motion = halted ∧
         t.servo = { s.servo with cmdSupply := 0, cmdTakeUp := 0, drives := false } ∧ t.link = raised .fault s.link)) ∧
  (∀ (c : ScanCodes) (code : Nat) (s : State), s.inReset = false → s.motion.mode = .cue → s.monitor.reel2 = 9 →
     (s.monitor.due = none → s.scanner.pointer = 2 → 10000 < mag ((((c.rotating : Int) - 2048) * 12000).tdiv 2048) →
       ∃ t, exec (.scanCompletion c) s = .next t ∧ OnlyIn [.scanner, .monitor] s t ∧
         t.monitor = { s.monitor with due := some { channel := 2, code := c.rotating } }) ∧
     (s.monitor.due = some { channel := 2, code := code } → 10000 < mag ((((code : Int) - 2048) * 12000).tdiv 2048) →
       ∃ t, exec .servoComputation s = .next t ∧ t.servo.tSet = (activeProfile s).tPlay ∧ t.motion.mode = .halting ∧
         t.servo.cmdSupply = 0 ∧ t.servo.cmdTakeUp = 0 ∧ t.servo.drives = false ∧ t.monitor.reel2 = 10 ∧
         t.monitor.due = none ∧ HasRecord t .reelCurrent))

/-- R107: the tension setpoint of each mode, and with it the forced zero of the modes at rest. -/
def Obligations.TensionSetpoint : Prop :=
  ∀ (ph : PlayPhase) (k : StopKind) (s : State), s.inReset = false →
    ∃ t, exec .servoComputation s = .next t ∧
      (s.motion.mode = .play ph → t.servo.tSet = (activeProfile s).tPlay) ∧
      (s.motion.mode = .cue → t.servo.tSet = (activeProfile s).tPlay) ∧
      (s.motion.mode = .locate .search ∨ s.motion.mode = .locate .approach ∨ s.motion.mode = .locate .creep ∨
        s.motion.mode = .locate .hold → t.servo.tSet = (activeProfile s).tPlay) ∧
      (s.motion.mode = .locate .run → t.servo.tSet = (activeProfile s).tWind) ∧
      (s.motion.mode = .wind → t.servo.tSet = (activeProfile s).tWind) ∧
      (s.motion.mode = .stopping k → t.servo.tSet = (activeProfile s).tWind) ∧
      (s.motion.mode = .stopped .full → t.servo.tSet = (activeProfile s).tPlay) ∧
      (s.motion.mode = .stopped .eased → t.servo.tSet = (activeProfile s).tPlay / 2) ∧
      (s.motion.mode = .stopped .restoring ∨ s.motion.mode = .engaging ∨ s.motion.mode = .releasing →
        t.servo.tSet = s.motion.setpoint) ∧
      (s.motion.mode = .halting → t.servo.tSet = (activeProfile s).tWind ∧ t.servo.cmdSupply = 0 ∧ t.servo.cmdTakeUp = 0) ∧
      (s.motion.mode = .empty ∨ s.motion.mode = .released →
        t.servo.tSet = 0 ∧ t.servo.cmdSupply = 0 ∧ t.servo.cmdTakeUp = 0)

/-- R103, R106, R108 to R110, R117: a computation's measured speed, tensions, arms found at their stops and, while no fault
turns the mode, torque commands. -/
def Obligations.ServoFiguresFormed : Prop :=
  ∀ s : State, s.inReset = false →
    ∃ t, exec .servoComputation s = .next t ∧ OnlyIn [.motion, .servo, .capstan, .monitor, .punch, .link] s t ∧
      t.servo.history = (s.servo.accRoller :: s.servo.history).take 17 ∧
      t.servo.vMeas = ((s.servo.accRoller - t.servo.history.getD 16 0).toInt * 1000).tdiv 16 ∧
      t.servo.codeSupply = channelCode s 0 ∧ t.servo.codeTakeUp = channelCode s 1 ∧
      t.servo.foundSupply = decide (channelCode s 0 ≤ 63 ∨ 4032 ≤ channelCode s 0) ∧
      t.servo.foundTakeUp = decide (channelCode s 1 ≤ 63 ∨ 4032 ≤ channelCode s 1) ∧
      t.servo.tSupply = max 0 (s.servo.calSupply.base +
        (((channelCode s 0 : Int) - s.servo.calSupply.centre) * s.servo.calSupply.rate).tdiv 64) ∧
      t.servo.tTakeUp = max 0 (s.servo.calTakeUp.base +
        (((channelCode s 1 : Int) - s.servo.calTakeUp.centre) * s.servo.calTakeUp.rate).tdiv 64) ∧
      (t.motion.mode = s.motion.mode → s.motion.mode.forcedZero = false →
        let p := activeProfile s
        let drive := if InRun s then 0 else ((s.motion.vCmd - t.servo.vMeas) * p.kv).tdiv 1024
        let dem := fun x : Int => clampInt 0 (2 * t.servo.tSet) (t.servo.tSet + ((t.servo.tSet - x) * p.gain).tdiv 16)
        t.servo.cmdSupply = moveToward s.servo.cmdSupply
          (clampInt (-p.torque) p.torque (dem t.servo.tSupply * t.servo.rSupply / 10000 - drive)) p.slew ∧
        t.servo.cmdTakeUp = moveToward s.servo.cmdTakeUp
          (clampInt (-p.torque) p.torque (dem t.servo.tTakeUp * t.servo.rTakeUp / 10000 + drive)) p.slew)

/-- R77, R104, R105, R113 to R115, R194, R195: the sixteenth computation of a radius window; the arm-at-stop flags, which each
computation judges while the servo is engaged and takes as no otherwise; and in CUE an arm newly at its stop, the
twentieth computation out of the tension window and the tenth above the runaway speed, each with its record and its safe
stop or halt. The computation that enters STOPPED FULL in step 5 of R102 is judged in step 6 as one of ENGAGING, so that
it takes the flags as no and the counts as 0: log entry 17 (DEDUCED). -/
def Obligations.ServoLimits : Prop :=
  ∀ s : State, s.inReset = false →
    (s.servo.winCount = 15 →
      ∃ t, exec .radiusWindow s = .next t ∧ t.servo.winCount = 0 ∧ t.servo.refRoller = s.servo.accRoller ∧
        t.servo.refSupply = s.servo.accSupply ∧ t.servo.refTakeUp = s.servo.accTakeUp ∧
        t.servo.rSupply =
          (if 64 ≤ mag (s.servo.accSupply - s.servo.refSupply).toInt then
             clampInt (activeProfile s).hub (activeProfile s).flange
               (mag (s.servo.accRoller - s.servo.refRoller).toInt * 1242 / mag (s.servo.accSupply - s.servo.refSupply).toInt)
           else s.servo.rSupply) ∧
        t.servo.rTakeUp =
          (if 64 ≤ mag (s.servo.accTakeUp - s.servo.refTakeUp).toInt then
             clampInt (activeProfile s).hub (activeProfile s).flange
               (mag (s.servo.accRoller - s.servo.refRoller).toInt * 1242 / mag (s.servo.accTakeUp - s.servo.refTakeUp).toInt)
           else s.servo.rTakeUp)) ∧
    (s.motion.mode = .cue → s.motion.loc = none → s.monitor.faults = [] → s.monitor.due = none →
      atStop (channelCode s 0) = false → atStop (channelCode s 1) = false →
      (s.servo.loss = 19 → s.servo.runaway < 9 →
        OutOfWindow (servoFigures s).servo.tSet (servoFigures s).servo.tSupply →
        ∃ t, exec .tensionLoss s = .next t ∧ OnlyIn [.motion, .servo, .capstan, .monitor, .link] s t ∧ t.servo.loss = 20 ∧
          t.monitor = { s.monitor with
            faults := [{ cause := .tensionLoss, count := 1, mode := .cue, estimate := estimate s, quality := quality s }] } ∧
          t.motion = { s.motion with mode := .stopping .safe, pinchIn := false, brakesOn := false, still := 0 } ∧
          t.capstan = { s.capstan with enable := false, command := 0 } ∧ t.link = raised .fault s.link) ∧
      (s.servo.runaway = 9 → s.servo.loss < 19 →
        ((activeProfile s).windMax : Int) * 125 < mag (servoFigures s).servo.vMeas →
        ∃ t, exec .speedRunaway s = .next t ∧ OnlyIn [.motion, .servo, .capstan, .monitor, .link] s t ∧ t.servo.runaway = 10 ∧
          t.monitor = { s.monitor with
            faults := [{ cause := .speedRunaway, count := 1, mode := .cue, estimate := estimate s, quality := quality s }] } ∧
          t.motion = { s.motion with mode := .stopping .safe, pinchIn := false, brakesOn := false, still := 0 } ∧
          t.capstan = { s.capstan with enable := false, command := 0 } ∧ t.link = raised .fault s.link)) ∧
    (s.monitor.due = none →
      let atS := channelCode s 0 ≤ 63 ∨ 4032 ≤ channelCode s 0
      let atT := channelCode s 1 ≤ 63 ∨ 4032 ≤ channelCode s 1
      ∃ t, exec .servoComputation s = .next t ∧
        (s.motion.mode.engaged = false →
          t.servo.stopSupply = false ∧ t.servo.stopTakeUp = false ∧ t.servo.loss = 0 ∧ t.servo.runaway = 0 ∧
          t.monitor = s.monitor ∧ t.link = s.link) ∧
        (s.motion.mode.engaged = true → t.servo.stopSupply = decide atS ∧ t.servo.stopTakeUp = decide atT) ∧
        (s.motion.mode = .cue → s.servo.loss < 19 → s.servo.runaway < 9 →
          ((atS ∧ s.servo.stopSupply = false) ∨ (atT ∧ s.servo.stopTakeUp = false) → s.motion.loc = none → s.motion.held = none →
            s.monitor.faults = [] →
            OnlyIn [.motion, .servo, .capstan, .monitor, .link] s t ∧
            t.monitor = { s.monitor with
              faults := [{ cause := .armLimit, count := 1, mode := .cue, estimate := estimate s, quality := quality s }] } ∧
            t.motion = { s.motion with
              mode := .halting, vCmd := 0, liftersUp := true, pinchIn := false, brakesOn := true, haltTimer := 0
              haltStill := 0 } ∧
            t.servo.cmdSupply = 0 ∧ t.servo.cmdTakeUp = 0 ∧ t.servo.drives = false ∧
            t.capstan = { s.capstan with enable := false, command := 0 } ∧ t.link = raised .fault s.link) ∧
          ((atS → s.servo.stopSupply = true) → (atT → s.servo.stopTakeUp = true) → OnlyIn [.servo] s t)))

/-! ## Counts and address reads -/

/-- R3, R101: a roller count steps the counter, which holds at its limits, and the wrapping accumulator; a reel count steps
its own accumulator. -/
def Obligations.CountsTaken : Prop :=
  ∀ (d : Dir) (s : State), s.inReset = false →
    (∃ t, exec (.rollerCount d) s = .next t ∧ OnlyIn [.tracker, .servo, .punch, .link] s t ∧
      t.tracker = { s.tracker with
        counter := match d with
          | .forward => if s.tracker.counter = 2147483647 then s.tracker.counter else s.tracker.counter + 1
          | .reverse => if s.tracker.counter = -2147483648 then s.tracker.counter else s.tracker.counter - 1 } ∧
      t.servo = { s.servo with
        accRoller := match d with
          | .forward => s.servo.accRoller + 1
          | .reverse => s.servo.accRoller - 1 } ∧
      (¬ InRun s ∨ (s.punch.entries = [] ∧ NoRecording s) → t.punch = s.punch ∧ t.link = s.link)) ∧
    exec (.reelTachometerCount .supply d) s = .next { s with
      servo := { s.servo with
        accSupply := match d with
          | .forward => s.servo.accSupply + 1
          | .reverse => s.servo.accSupply - 1 } } ∧
    exec (.reelTachometerCount .takeUp d) s = .next { s with
      servo := { s.servo with
        accTakeUp := match d with
          | .forward => s.servo.accTakeUp + 1
          | .reverse => s.servo.accTakeUp - 1 } }

/-- R151, R155, R156, R158: at a roller count in PLAY RUN, with a single entry in the list: a recording whose drop point has
been reached ends UNCLEAN_OUT with its gates off; a waiting entry whose lead point has been reached is cleared, or
suppressed where it is not a rehearsal and the permit or a free track is missing, or while the capstan is not locked. The
actual out at the place of the drop-point close, and none and none for SUPPRESSED, are log entry 30 (DEDUCED). -/
def Obligations.PositionTests : Prop :=
  ∀ (e : Entry) (ain : Addr) (point : Int) (s : State), s.inReset = false → InRun s → s.punch.entries = [e] →
    ∃ t, exec (.rollerCount .forward) s = .next t ∧ OnlyIn [.tracker, .servo, .punch, .link] s t ∧
      (e.state = .active false (some point) ain → e.rehearse = false → s.punch.manual = .off → ¬ MonitorOn s → GateOn s →
        point ≤ estimate t →
        t.punch = { s.punch with
          gateA := false, gateB := false, offset := 0
          entries := [{ e with state := .complete .uncleanOut (some ain) (some (placeHere t)) }]
          last := some { inMark := e.inMark, outMark := e.outMark, tracks := e.tracks, rehearse := false
                         result := .uncleanOut, actualIn := some ain, actualOut := some (placeHere t) } } ∧
        t.link = raised .punchDone s.link) ∧
      (e.state = .armed .waiting false → NoRecording s → leadPoint s e ≤ estimate t → s.punch.zones = [] → quality t = .locked →
        let free := e.rehearse = true ∨ (s.punch.permit = true ∧ TrackFree s e.tracks)
        (free → s.capstan.lock = true → estimate t < ((markBlock s e.inMark : Int) + 3) * 100 →
          t.punch = { s.punch with entries := [{ e with state := .armed .cleared false }] } ∧ t.link = s.link) ∧
        (¬ free ∨ s.capstan.lock = false →
          t.punch.entries = [{ e with state := .complete .suppressed none none }] ∧ t.link = raised .punchDone s.link))

/-- R6, R8 to R10, R52: a read that is not good-format, or whose identity is not the loaded one, is rejected; it counts within
the speed window only, and the sixteenth in a row raises ADDRESS_DROPOUT; the first good read of an unknown reel becomes
the candidate and is rejected; a second of the same identity loads it, claims the unclaimed marks and is accepted. -/
def Obligations.ReadsJudged : Prop :=
  (∀ (r : TapeRead) (s : State), s.inReset = false →
     ¬ GoodFormat r s ∨ (s.tracker.loaded ≠ none ∧ s.tracker.loaded ≠ some { tag := r.tag, rate := r.rate }) →
     (¬ InReadWindow s → exec (.addressRead r) s = .next { s with capstan := { s.capstan with timebase := r.time } }) ∧
     (InReadWindow s → s.tracker.rejects ≠ 15 →
       exec (.addressRead r) s = .next { s with
         capstan := { s.capstan with timebase := r.time }
         tracker := { s.tracker with rejects := min 65535 (s.tracker.rejects + 1) } }) ∧
     (InReadWindow s → s.tracker.rejects = 15 →
       exec (.addressDropout r) s = .next { s with
         capstan := { s.capstan with timebase := r.time }
         tracker := { s.tracker with rejects := 16 }
         link := raised .addressDropout s.link })) ∧
  (∀ (r : TapeRead) (s : State), s.inReset = false → GoodFormat r s → s.tracker.loaded = none → TableForm s →
     (s.tracker.candidate ≠ some { tag := r.tag, rate := r.rate } → s.tracker.rejects < 15 →
       exec (.addressRead r) s = .next { s with
         capstan := { s.capstan with timebase := r.time }
         tracker := { s.tracker with
           candidate := some { tag := r.tag, rate := r.rate }, rejects := s.tracker.rejects + 1 } }) ∧
     (s.tracker.candidate = some { tag := r.tag, rate := r.rate } →
       ∃ t, exec (.addressRead r) s = .next t ∧ t.tracker.loaded = some { tag := r.tag, rate := r.rate } ∧
         t.tracker.candidate = none ∧ t.tracker.rejects = 0 ∧ Latched .reelIdentified t ∧
         (∀ p ∈ t.marks, p.2.tag ≠ none) ∧ (t.marks.map Prod.fst = s.marks.map Prod.fst)))

/-- R10, R16 to R18, R21, R141: the read that identifies the reel is the one anchor of an empty map; an accepted read beside a
live anchor nearer or farther than 10,000 counts, beyond the jump limit, and bearing out a jump. -/
def Obligations.ReadsPlaced : Prop :=
  (∀ (r : TapeRead) (s : State), s.inReset = false → GoodFormat r s → s.tracker.loaded = none →
     s.tracker.candidate = some { tag := r.tag, rate := r.rate } → s.tracker.map = [] → s.tracker.jump = none → s.marks = [] →
     s.punch.zones = [] → NothingPlanned s → ¬ InRun s → r.rate = .r48000 ∨ s.capstan.refState = .internal →
     exec (.addressRead r) s = .next { s with
       tracker := { s.tracker with
         loaded := some { tag := r.tag, rate := r.rate }, candidate := none, rejects := 0
         map := [{ count := r.latched, ticks := r.block * 100, live := true }] }
       capstan := { s.capstan with timebase := r.time, lastPhase := some (phaseError s.capstan r.time) }
       link := raised .reelIdentified s.link }) ∧
  (∀ (r : TapeRead) (l : Anchor) (j : Jump) (s : State), s.inReset = false → GoodFormat r s →
     s.tracker.loaded = some { tag := r.tag, rate := r.rate } → s.marks = [] → s.punch.zones = [] → NothingPlanned s → ¬ InRun s →
     let a : Anchor := { count := r.latched, ticks := r.block * 100, live := true }
     let c := { s.capstan with timebase := r.time, lastPhase := some (phaseError s.capstan r.time) }
     (s.tracker.map = [l] → l.live = true → s.tracker.jump = none → mag (a.ticks - estimateAt [l] r.latched) ≤ 5000 →
       mag (r.latched - l.count) < 10000 →
       exec (.addressRead r) s = .next { s with tracker := { s.tracker with rejects := 0, map := [a] }, capstan := c }) ∧
     (s.tracker.map = [l] → l.live = true → s.tracker.jump = none → mag (a.ticks - estimateAt [l] r.latched) ≤ 5000 →
       10000 ≤ r.latched - l.count → 19 * (r.latched - l.count) ≤ 20 * (a.ticks - l.ticks) →
       20 * (a.ticks - l.ticks) ≤ 21 * (r.latched - l.count) →
       exec (.addressRead r) s = .next { s with
         tracker := { s.tracker with rejects := 0, map := [{ l with live := false }, a] }, capstan := c }) ∧
     (s.tracker.map ≠ [] → s.tracker.jump = none → 5000 < mag (a.ticks - estimateAt s.tracker.map r.latched) →
       exec (.addressRead r) s = .next { s with
         capstan := { s.capstan with timebase := r.time }
         tracker := { s.tracker with rejects := 0, jump := some { count := r.latched, block := r.block } } }) ∧
     (s.tracker.jump = some j → mag (((r.block : Int) - j.block) * 100 - (r.latched - j.count)) ≤ 200 →
       exec (.addressRead r) s = .next { s with
         tracker := { s.tracker with rejects := 0, map := [a], jump := none }, capstan := c, link := raised .rebased s.link }))

/-- R18, R141 to R143, R152, R157, R158: in PLAY RUN, with a map that an earlier read has begun: the phase event of a read
that agrees with the map: error, correction, capstan command, and CAPSTAN_LOCK at the sixteenth within 1,250; and, with a
single cleared or recording entry and nothing in the way, the read of the in block that opens the gates with the in sample
as offset and the read of the out block that closes them with the out sample. -/
def Obligations.PunchesMade : Prop :=
  (∀ (r : TapeRead) (s : State), s.inReset = false → GoodFormat r s → InRun s →
     s.tracker.loaded = some { tag := r.tag, rate := r.rate } → s.marks = [] → NothingPlanned s → MapLaw s → s.tracker.map ≠ [] →
     s.tracker.jump = none → mag ((r.block : Int) * 100 - estimateAt s.tracker.map r.latched) ≤ 5000 → s.punch.zones = [] →
     s.capstan.lock = false →
     let since : Int := (r.time - s.capstan.lastEdge).toNat
     let e := clampInt (-5000) 5000 (if since ≤ s.capstan.period / 2 then since else since - s.capstan.period)
     let k := clampInt (-500) 500 (e.tdiv 4)
     let c := { s.capstan with
       timebase := r.time, lastPhase := some e, correction := k, missed := 0, enable := true, command := s.capstan.vRef + k }
     let l : Anchor := { count := r.latched, ticks := r.block * 100, live := true }
     (1250 < mag e →
       ∃ t, exec (.addressRead r) s = .next t ∧ OnlyIn [.tracker, .capstan] s t ∧ liveAnchor t.tracker.map = some l ∧
         t.capstan = { c with lockCount := 0 }) ∧
     (mag e ≤ 1250 → s.capstan.lockCount < 15 →
       ∃ t, exec (.addressRead r) s = .next t ∧ OnlyIn [.tracker, .capstan] s t ∧ liveAnchor t.tracker.map = some l ∧
         t.capstan = { c with lockCount := s.capstan.lockCount + 1 }) ∧
     (mag e ≤ 1250 → s.capstan.lockCount = 15 →
       ∃ t, exec (.capstanLock r) s = .next t ∧ OnlyIn [.tracker, .capstan] s t ∧ liveAnchor t.tracker.map = some l ∧
         t.capstan = { c with lock := true, lockCount := 16 })) ∧
  (∀ (n p : Nat) (tk : Tracks) (ain : Addr) (m o : Mark) (r : TapeRead) (s : State), s.inReset = false → GoodFormat r s →
     InRun s → s.tracker.loaded = some { tag := r.tag, rate := r.rate } → MapLaw s → s.tracker.map ≠ [] →
     s.tracker.jump = none → mag ((r.block : Int) * 100 - estimateAt s.tracker.map r.latched) ≤ 5000 → GateLaw s →
     s.punch.manual = .off → s.punch.zones = [] → ¬ MonitorOn s → s.capstan.lock = true →
     markAt s n = some m → markAt s p = some o → m.standing = .firm → o.standing = .firm →
     (∀ q ∈ s.marks, q.2.standing = .firm) → mag (phaseError s.capstan r.time) ≤ 2500 → s.punch.permit = true →
     r.latched = s.tracker.counter →
     ∃ t, exec (.addressRead r) s = .next t ∧ OnlyIn [.tracker, .capstan, .punch, .link] s t ∧
       (¬ GateOn s → s.punch.entries = [{ inMark := n, outMark := p, tracks := tk, rehearse := false, state := .armed .cleared false }] →
         TrackFree s tk → r.block = m.addr.block →
         t.punch = { s.punch with
           gateA := tk.hasA && !s.punch.safeA, gateB := tk.hasB && !s.punch.safeB, offset := m.addr.sample
           entries := [{ inMark := n, outMark := p, tracks := tk, rehearse := false, state := .active false none m.addr }] }) ∧
       (GateOn s →
         s.punch.entries = [{ inMark := n, outMark := p, tracks := tk, rehearse := false, state := .active false none ain }] →
         m.addr.block ≤ r.block → r.block = o.addr.block →
         t.punch = { s.punch with
           gateA := false, gateB := false, offset := o.addr.sample
           entries := [{ inMark := n, outMark := p, tracks := tk, rehearse := false
                         state := .complete .done (some ain) (some o.addr) }]
           last := some { inMark := n, outMark := p, tracks := tk, rehearse := false, result := .done, actualIn := some ain
                          actualOut := some o.addr } } ∧ t.link = raised .punchDone s.link))

/-! ## Reference edges, START, the permit, the medium -/

/-- R132, R133, R136, R140, R144: internal edges, word-clock edges through the divider, and the missed-edge count in PLAY RUN
up to the fourth, at which the lock is lost and the count holds; in EXTERNAL an internal edge is no reference edge. -/
def Obligations.EdgesTaken : Prop :=
  ∀ (n : Count32) (s : State), s.inReset = false →
    (s.capstan.refState ≠ .external →
      let c := { s.capstan with
        lastInternal := s.capstan.lastInternal + 10000, timebase := s.capstan.lastInternal + 10000
        lastEdge := s.capstan.lastInternal + 10000 }
      (¬ InRun s → exec .internalEdge s = .next { s with capstan := c }) ∧
      (InRun s → s.capstan.missed ≠ 3 →
        exec .internalEdge s = .next { s with capstan := { c with missed := min 4 (s.capstan.missed + 1) } }) ∧
      (InRun s → s.capstan.missed = 3 → NoRecording s →
        exec (.missedEdges n) s = .next { s with
          capstan := { c with
            missed := 4, lock := false, lockCount := 0, correction := 0, enable := true, command := s.capstan.vRef } })) ∧
    (s.capstan.refState = .external →
      exec .internalEdge s = .next { s with
        capstan := { s.capstan with
          lastInternal := s.capstan.lastInternal + 10000, timebase := s.capstan.lastInternal + 10000 } }) ∧
    (s.capstan.refState = .internal →
      exec (.wordClockEdge n) s = .next { s with capstan := { s.capstan with timebase := n } }) ∧
    (s.capstan.refState ≠ .internal → s.capstan.divider + 1 < spb s →
      exec (.wordClockEdge n) s = .next { s with
        capstan := { s.capstan with timebase := n, silence := some n, divider := s.capstan.divider + 1 } }) ∧
    (s.capstan.refState ≠ .internal → s.capstan.divider + 1 = spb s → s.capstan.openAt = none →
      exec (.wordClockEdge n) s = .next { s with
        capstan := { s.capstan with timebase := n, silence := some n, divider := 0, openAt := some n } })

/-- R133, R135, R136, R138, R139, R142 to R144: the sixty-fourth good period in a row puts the word clock in use; a derived
period that closes in EXTERNAL gives the reference its period, its edge and V_ref where it is good, and where it is bad
the reference falls back to the internal one, as it does after 1,000 µs of silence; outside EXTERNAL a bad period sets the
count to 0. Nothing is being recorded. -/
def Obligations.ReferenceTurns : Prop :=
  ∀ (n o : Count32) (s : State), s.inReset = false → NoRecording s →
    let v := fun x : Int => if s.motion.mode.capstanOn then x else 0
    (s.capstan.refState = .qualifying ∨ s.capstan.refState = .fallback → s.capstan.divider + 1 = spb s →
      s.capstan.openAt = some o →
      (s.capstan.qual = 63 → 8929 ≤ (n - o).toNat → (n - o).toNat ≤ 11363 →
        exec (.qualified n) s = .next { s with
          capstan := { s.capstan with
            timebase := n, silence := some n, divider := 0, openAt := some n, latest := some (n - o).toNat, refState := .external
            qual := 64, period := (n - o).toNat, lastEdge := n, vRef := 100000000 / ((n - o).toNat : Int), lock := false
            lockCount := 0, missed := 0, correction := 0, enable := s.motion.mode.capstanOn
            command := v (100000000 / ((n - o).toNat : Int)) }
          link := raised .referenceChange s.link }) ∧
      ((n - o).toNat < 8929 ∨ 11363 < (n - o).toNat →
        exec (.wordClockEdge n) s = .next { s with
          capstan := { s.capstan with
            timebase := n, silence := some n, divider := 0, openAt := some n, latest := some (n - o).toNat, qual := 0 } })) ∧
    (s.capstan.refState = .external → s.capstan.divider + 1 = spb s → s.capstan.openAt = some o →
      let p := (n - o).toNat
      let speed : Int := 100000000 / (p : Int)
      let c := { s.capstan with timebase := n, silence := some n, divider := 0, openAt := some n, latest := some p }
      (8929 ≤ p → p ≤ 11363 →
        let g := { c with period := p, lastEdge := n, vRef := speed, enable := s.motion.mode.capstanOn }
        (¬ InRun s → exec (.wordClockEdge n) s = .next { s with capstan := { g with command := v speed } }) ∧
        (InRun s → s.capstan.missed ≠ 3 →
          exec (.wordClockEdge n) s = .next { s with
            capstan := { g with command := speed + s.capstan.correction, missed := min 4 (s.capstan.missed + 1) } }) ∧
        (InRun s → s.capstan.missed = 3 →
          exec (.missedEdges n) s = .next { s with
            capstan := { g with command := speed, correction := 0, missed := 4, lock := false, lockCount := 0 } })) ∧
      (p < 8929 ∨ 11363 < p →
        exec (.wordClockEdge n) s = .next { s with
          capstan := { c with
            refState := .fallback, qual := 0, period := 10000, lastEdge := s.capstan.lastInternal, vRef := 10000, lock := false
            lockCount := 0, missed := 0, correction := 0, enable := s.motion.mode.capstanOn, command := v 10000 }
          link := raised .referenceChange s.link })) ∧
    (s.capstan.refState = .external → s.capstan.silence ≠ none →
      exec .silenceTimeout s = .next { s with
        capstan := { s.capstan with
          refState := .fallback, qual := 0, divider := 0, openAt := none, latest := none, silence := none, period := 10000
          lastEdge := s.capstan.lastInternal, vRef := 10000, lock := false, lockCount := 0, missed := 0, correction := 0
          enable := s.motion.mode.capstanOn, command := v 10000 }
        link := raised .referenceChange s.link }) ∧
    (s.capstan.refState = .qualifying → s.capstan.silence ≠ none →
      exec .silenceTimeout s = .next { s with
        capstan := { s.capstan with qual := 0, divider := 0, openAt := none, latest := none, silence := none } })

/-- R31, R32, R95, R96, R98, R145, R149, R151, R159, R165, R173 to R176: samples of START and its edge, which in LOCATE HOLD
ends the locate with its judgement, captures the place in slot 0 and begins PLAY; a change of the record permit, whose
loss closes the gates and ends the recording ABORTED (its actual out, the place at the close, is log entry 30, DEDUCED;
the reaction in the same step as the input's change is log entry 15); and the stages of a save with its end by the read-
back (the marker and the flag as log entry 19 chooses). -/
def Obligations.InputsAndMedium : Prop :=
  (∀ (c : LocCtx) (j : Judgement) (s : State), s.inReset = false →
     exec (.startSample true) s = .next { s with
       capstan := { s.capstan with
         startHigh := true, startCount := min 10 (s.capstan.startCount + 1)
         startArmed := s.capstan.startArmed || decide (9 ≤ s.capstan.startCount) } } ∧
     (s.capstan.startArmed = false ∨ s.capstan.startHigh = false →
       exec (.startSample false) s = .next { s with capstan := { s.capstan with startHigh := false, startCount := 0 } }) ∧
     (s.capstan.startArmed = true → s.capstan.startHigh = true →
       let k := { s.capstan with
         startHigh := false, startCount := 0, startArmed := false, startEdges := (s.capstan.startEdges + 1) % 65536 }
       (s.motion.mode ≠ .locate .hold → exec (.startSample false) s = .next { s with capstan := k }) ∧
       (s.motion.mode = .locate .hold → s.motion.loc = some c → s.motion.held = none → c.judgement = some j →
         s.punch.entries = [] → NoRecording s → quality s ≠ .unknown →
         let m : Mark :=
           { kind := .cue, addr := placeHere s, tag := loadedTag s
             standing := if quality s = .locked then .firm else .provisional s.tracker.counter
             spread := if quality s = .locked then none
               else some (min 65535 (1 + (gapOf s.tracker.map s.tracker.counter / 2000).toNat))
             partner := none, label := [], owner := 0, locked := false }
         exec (.startSample false) s = .next { s with
           marks := slotPut 0 m s.marks
           capstan := { k with enable := true, command := s.capstan.vRef }
           motion := { s.motion with
             mode := .play .entry, pinchIn := false, brakesOn := false, entryCount := 0, loc := none
             result := some { targetTick := c.targetTick, mark := c.target.markNumber
                              result := match j with
                                | .arrived => .arrived
                                | .reckoned => .reckoned
                              error := some (estimate s - c.targetTick), reversals := c.reversals } }
           punch := { s.punch with zones := zonesOf { s with marks := slotPut 0 m s.marks } }
           link := raised .locateDone s.link }))) ∧
  (∀ (e : Entry) (late : Bool) (drop : Option Int) (ain : Addr) (s : State), s.inReset = false →
     (GateLaw s → MonitorLaw s → s.punch.manual = .off →
       exec (.recordPermitChange true) s = .next { s with punch := { s.punch with permitPin := true, permit := true } }) ∧
     (NoRecording s →
       exec (.recordPermitChange false) s = .next { s with punch := { s.punch with permitPin := false, permit := false } }) ∧
     (GateOn s → ¬ MonitorOn s → s.punch.entries = [e] → e.state = .active late drop ain → e.rehearse = false →
       exec (.recordPermitChange false) s = .next { s with
         punch := { s.punch with
           permitPin := false, permit := false, gateA := false, gateB := false, offset := 0, manual := .off
           entries := [{ e with state := .complete .aborted (some ain) (some (placeHere s)) }]
           last := some { inMark := e.inMark, outMark := e.outMark, tracks := e.tracks, rehearse := false, result := .aborted
                          actualIn := some ain, actualOut := some (placeHere s) } }
         link := raised .punchDone s.link })) ∧
  (∀ (v : Save) (s : State), s.inReset = false →
     (s.store.save = none → ∀ b, exec (.saveStageEnd b) s = .next s) ∧
     (s.store.save = some v →
     (v.stage = 1 → ∀ b, exec (.saveStageEnd b) s = .next { s with
       store := { s.store with save := some { v with stage := 2 }, user := { s.store.user with marker := false } } }) ∧
     (v.stage = 2 → ∀ b, exec (.saveStageEnd b) s = .next { s with
       store := { s.store with
         save := some { v with stage := 3 }
         user := { s.store.user with
           checkOk := false
           image := { s.store.user.image with profiles := v.snapshot.profiles, selection := v.snapshot.selection } } } }) ∧
     (v.stage = 3 → ∀ b, exec (.saveStageEnd b) s = .next { s with
       store := { s.store with
         save := some { v with stage := 4 }
         user := { s.store.user with
           checkOk := false, count := v.snapshot.marks.length
           image := { s.store.user.image with marks := v.snapshot.marks } } } }) ∧
     (v.stage = 4 →
       exec (.saveStageEnd true) s = .next { s with
         store := { s.store with
           save := none, sectorFlag := true, lastSave := .done
           user := { image := v.snapshot, count := v.snapshot.marks.length, marker := true, checkOk := true } }
         link := raised .storeDone s.link } ∧
       exec (.saveStageEnd false) s = .next { s with
         store := { s.store with save := none, sectorFlag := false, lastSave := .failed }
         link := raised .storeDone s.link })))

/-! ## Requests of the transport -/

/-- R62, R64, R67, R105, R111, R112: ENGAGE from RELEASED with the tape in place and no fault; RELEASE from STOPPED; STOP in
CUE, WIND and STOPPED FULL; and what ENGAGE is refused for. -/
def Obligations.TransportRequests : Prop :=
  ∀ (h : Hdr) (n : Nat) (l : Level) (ps : List Byte) (s : State),
    (Hears (.engage h n) s → s.motion.mode = .released →
      (s.scanner.optical = .opaqueTape → s.monitor.faults = [] → n ≤ 7 →
        exec (.engage h n) s = .next { s with
          store := { s.store with active := n }
          motion := { s.motion with
            mode := .engaging, vCmd := 0, leader := none, rampK := 0, engageTimer := 0, setpoint := 0, liftersUp := true
            pinchIn := false, brakesOn := false }
          servo := { s.servo with
            cmdSupply := 0, cmdTakeUp := 0, drives := true, ready := 0, rampDone := false, winCount := 0
            refRoller := s.servo.accRoller, refSupply := s.servo.accSupply, refTakeUp := s.servo.accTakeUp
            rSupply := midpoint (s.store.profiles.getD n Config.factoryProfile)
            rTakeUp := midpoint (s.store.profiles.getD n Config.factoryProfile) }
          capstan := { s.capstan with enable := false, command := 0 }
          link := answered (.engage h n) .ok [] s }) ∧
      (s.scanner.optical = .clear →
        exec (.engage h n) s = .next { s with link := answered (.engage h n) .noTape [] s }) ∧
      (s.scanner.optical = .opaqueTape → s.monitor.faults ≠ [] →
        exec (.engage h n) s = .next { s with link := answered (.engage h n) .faulted [] s })) ∧
    (Hears (.release h) s → s.motion.mode = .stopped l → s.motion.held = none →
      exec (.release h) s = .next { s with
        motion := { s.motion with
          mode := .releasing, liftersUp := true, pinchIn := false, brakesOn := false, releaseK := 0, restoreK := 0
          releaseStart := tensionSetpoint s, setpoint := tensionSetpoint s }
        capstan := { s.capstan with enable := false, command := 0 }
        link := answered (.release h) .ok [] s }) ∧
    (Hears (.stop h ps) s →
      (s.motion.mode = .cue ∨ s.motion.mode = .wind →
        exec (.stop h ps) s = .next { s with
          motion := { s.motion with mode := .stopping .normal, pinchIn := false, brakesOn := false, still := 0 }
          capstan := { s.capstan with enable := true, command := s.capstan.vRef }
          link := answered (.stop h ps) .ok [] s }) ∧
      (s.motion.mode = .stopped .full →
        exec (.stop h ps) s = .next { s with
          motion := { s.motion with idle := 0 }
          link := answered (.stop h ps) .ok [] s }))

/-- R31, R32, R57, R66, R69, R71, R72, R140: PLAY, CUE and WIND taken in STOPPED FULL, and PLAY and WIND held in STOPPED EASED
while the tension is restored; an accepted PLAY with the position LOCKED or RECKONED captures the place into slot 0. -/
def Obligations.MotionRequests : Prop :=
  (∀ (h : Hdr) (v : Int) (d : Dir) (x : Nat) (s : State), s.motion.loc = none →
     let drive := { s.capstan with enable := true, command := s.capstan.vRef }
     let speed := clampInt (-(activeProfile s).windMax) (activeProfile s).windMax (clampInt (-400) 400 v)
     let dn := match d with
       | .forward => 0
       | .reverse => 1
     let wound := match d with
       | .forward => 100 * ((min x (activeProfile s).windMax : Nat) : Int)
       | .reverse => -(100 * ((min x (activeProfile s).windMax : Nat) : Int))
     (s.motion.mode = .stopped .full →
       (Hears (.play h) s → quality s = .unknown →
         exec (.play h) s = .next { s with
           motion := { s.motion with mode := .play .entry, pinchIn := false, brakesOn := false, entryCount := 0 }
           capstan := drive
           link := answered (.play h) .ok [] s }) ∧
       (Hears (.cue h v) s →
         exec (.cue h v) s = .next { s with
           motion := { s.motion with mode := .cue, pinchIn := false, brakesOn := false, want := 100 * speed }
           capstan := drive
           link := answered (.cue h v) (if speed = v then .ok else .clamped) [] s }) ∧
       (Hears (.wind h dn x) s → 1 ≤ x → x ≤ 1200 →
         exec (.wind h dn x) s = .next { s with
           motion := { s.motion with mode := .wind, liftersUp := true, pinchIn := false, brakesOn := false, want := wound }
           capstan := drive
           link := answered (.wind h dn x) (if x ≤ (activeProfile s).windMax then .ok else .clamped) [] s })) ∧
     (s.motion.mode = .stopped .eased → s.motion.held = none →
       let restoring := { s.motion with
         mode := .stopped .restoring, liftersUp := true, pinchIn := false, brakesOn := false, restoreK := 0
         setpoint := ((activeProfile s).tPlay : Int) / 2 }
       (Hears (.play h) s → quality s = .unknown →
         exec (.play h) s = .next { s with
           motion := { restoring with held := some .play }, capstan := drive, link := answered (.play h) .ok [] s }) ∧
       (Hears (.wind h dn x) s → 1 ≤ x → x ≤ 1200 →
         exec (.wind h dn x) s = .next { s with
           motion := { restoring with held := some (.wind wound) }
           capstan := drive
           link := answered (.wind h dn x) (if x ≤ (activeProfile s).windMax then .ok else .clamped) [] s }))) ∧
  (∀ (h : Hdr) (s : State), Hears (.play h) s → s.motion.mode = .stopped .full → NothingPlanned s → quality s ≠ .unknown →
     let m : Mark :=
       { kind := .cue, addr := placeHere s, tag := loadedTag s
         standing := if quality s = .locked then .firm else .provisional s.tracker.counter
         spread := if quality s = .locked then none
           else some (min 65535 (1 + (gapOf s.tracker.map s.tracker.counter / 2000).toNat))
         partner := none, label := [], owner := 0, locked := false }
     exec (.play h) s = .next { s with
       marks := slotPut 0 m s.marks
       motion := { s.motion with mode := .play .entry, pinchIn := false, brakesOn := false, entryCount := 0 }
       capstan := { s.capstan with enable := true, command := s.capstan.vRef }
       punch := { s.punch with zones := zonesOf { s with marks := slotPut 0 m s.marks } }
       link := answered (.play h) .ok [] s })

/-- R46, R80 to R83: a LOCATE taken in STOPPED FULL, to an address, to a mark, or to the next or previous one: target tick,
first phase, context and reply. -/
def Obligations.LocateBegins : Prop :=
  ∀ (h : Hdr) (x : LocTarget) (g : Target) (base near : Int) (a : Addr) (n : Nat) (m : Mark) (pre f limit : Nat)
    (fo : FollowOn) (s : State), Hears (.locate h x pre f limit) s → s.motion.mode = .stopped .full → s.motion.loc = none →
    followOnOf f = some fo → pre ≤ 3000 → limit ≤ 60000 →
    (x = .address a ∧ g = .address a ∧ a.block ≤ 1048575 ∧ a.sample < spb s ∧ near = 30000 ∧
        base = a.block * 100 + a.sample * 100 / spb s) ∨
      (g = .mark n ∧ markAt s n = some m ∧ m.tag = loadedTag s ∧ base = tickValue s m ∧
        near = 30000 + 100 * (m.spread.getD 0 : Nat) ∧
        ((x = .mark n ∧ n ≤ 99) ∨
         (x = .next ∧ TableForm s ∧ quality s ≠ .unknown ∧ estimate s + 100 ≤ tickValue s m ∧
           ∀ p ∈ s.marks, p.2.tag = loadedTag s → estimate s + 100 ≤ tickValue s p.2 →
             tickValue s m < tickValue s p.2 ∨ (tickValue s m = tickValue s p.2 ∧ n ≤ p.1)) ∨
         (x = .previous ∧ TableForm s ∧ quality s ≠ .unknown ∧ tickValue s m ≤ estimate s - 100 ∧
           ∀ p ∈ s.marks, p.2.tag = loadedTag s → tickValue s p.2 ≤ estimate s - 100 →
             tickValue s p.2 < tickValue s m ∨ (tickValue s m = tickValue s p.2 ∧ p.1 ≤ n)))) →
    let raw : Int := base - pre * 100
    let tick := clampInt 0 ((((activeProfile s).nominal : Int) - 1) * 100) raw
    let ph : LocPhase :=
      if quality s = .unknown then .search
      else if mag (tick - estimate s) ≤ near ∧ mag s.servo.vMeas ≤ 40000 then .approach else .run
    let c : LocCtx :=
      { target := g, preroll := pre, followOn := fo, holdLimit := limit, targetTick := tick, approach := near
        searchStart := s.tracker.counter, latch := false, reversals := 0, lastDir := none, creep := none, judgement := none
        holdTimer := 0 }
    exec (.locate h x pre f limit) s = .next { s with
      motion := { s.motion with
        mode := .locate ph, loc := some c, liftersUp := if ph = .run then true else s.motion.liftersUp, pinchIn := false
        brakesOn := false, still := 0 }
      capstan := { s.capstan with enable := true, command := s.capstan.vRef }
      link := answered (.locate h x pre f limit) (if raw = tick then .ok else .clamped)
        ((if g = .mark n then [1#8] ++ n1 n else [0#8]) ++ n4 tick ++ addrField (addrOf tick (spb s)) ++ n1 ph.number) s }

/-! ## Requests that read -/

/-- R24, R100, R117, R130, R146, R166, R176, R197: the readings of position, tension, sensors, reference, locate, Punch Unit,
store and fault set; each changes nothing but the link. The field encodings are log entry 11; every field of TENSION READ
as it stands, between computations too, is log entry 35, the order of the zones in PUNCH READ log entry 21, and the tracks
absent from it in manual OFF log entry 31 (the model's choices). -/
def Obligations.BlockReads : Prop :=
  (∀ (h : Hdr) (s : State),
     (Hears (.positionRead h) s →
       exec (.positionRead h) s = .next { s with
         link := answered (.positionRead h) .ok
           (n4 s.tracker.counter ++ n4 (estimate s) ++ addrField (addrOf (estimate s) (spb s)) ++ n1 (quality s).number ++
             optField (fun n : Nat => n2 n) (loadedTag s) ++ n1 (rateNumber s.tracker.loaded) ++ n1 s.tracker.map.length ++
             yesNo s.tracker.jump.isSome ++ n2 s.tracker.rejects ++ n2 s.servo.rSupply ++ n2 s.servo.rTakeUp ++
             n4 s.servo.vMeas) s }) ∧
     (Hears (.tensionRead h) s →
       exec (.tensionRead h) s = .next { s with
         link := answered (.tensionRead h) .ok
           (n2 s.servo.codeSupply ++ n2 s.servo.codeTakeUp ++ n2 s.servo.tSupply ++ n2 s.servo.tTakeUp ++ n2 s.servo.tSet ++
             n2 s.servo.rSupply ++ n2 s.servo.rTakeUp ++ n2 s.servo.cmdSupply ++ n2 s.servo.cmdTakeUp ++ yesNo s.servo.drives ++
             n4 s.servo.vMeas ++ yesNo s.servo.rampDone ++ n1 s.servo.ready ++ n1 s.servo.loss ++ n1 s.servo.runaway ++
             yesNo s.servo.foundSupply ++ yesNo s.servo.foundTakeUp) s }) ∧
     (Hears (.senseRead h) s →
       exec (.senseRead h) s = .next { s with
         link := answered (.senseRead h) .ok
           (s.scanner.table.flatMap channelField ++ n1 s.scanner.latest ++ n1 s.scanner.optical.number ++ n1 s.monitor.reel2 ++
             n1 s.monitor.reel3 ++ n1 s.monitor.overload ++ n1 s.monitor.lowCount ++ firstOf s.monitor.supplyLow) s }) ∧
     (Hears (.referenceRead h) s →
       exec (.referenceRead h) s = .next { s with
         link := answered (.referenceRead h) .ok
           (n1 s.capstan.selection.number ++ n1 s.capstan.refState.number ++ n1 s.capstan.qual ++
             optField (fun p : Nat => n4 p) s.capstan.latest ++ n2 (spb s) ++ n2 s.capstan.period ++ n2 s.capstan.vRef ++
             firstOf s.capstan.enable ++ n2 s.capstan.command ++ firstOf s.capstan.lock ++ n1 s.capstan.lockCount ++
             n1 s.capstan.missed ++ optField n2 s.capstan.lastPhase ++ n2 s.capstan.correction ++ firstOf s.capstan.startHigh ++
             yesNo s.capstan.startArmed ++ n2 s.capstan.startEdges) s })) ∧
  (∀ (h : Hdr) (s : State),
     (Hears (.locateRead h) s →
       exec (.locateRead h) s = .next { s with
         link := answered (.locateRead h) .ok
           (optField (fun p : Nat × LocCtx => ctxField s p.1 p.2) (locateInProgress s) ++ optField resultField s.motion.result) s }) ∧
     (Hears (.punchRead h) s →
       exec (.punchRead h) s = .next { s with
         link := answered (.punchRead h) .ok
           (listField (entryField s) s.punch.entries ++ firstOf s.punch.gateA ++ firstOf s.punch.gateB ++ firstOf s.punch.monA ++
             firstOf s.punch.monB ++ n2 s.punch.offset ++ firstOf s.punch.safeA ++ firstOf s.punch.safeB ++ firstOf s.punch.permit ++
             manualField s.punch.manual ++ listField zoneField s.punch.zones ++ optField completionField s.punch.last) s }) ∧
     (Hears (.storeRead h) s →
       exec (.storeRead h) s = .next { s with
         link := answered (.storeRead h) .ok
           ((match s.store.save with
             | none => [0#8, 0#8, 0#8]
             | some v => [1#8] ++ ([1#8] ++ n1 v.stage) ++ ([1#8] ++ n1 v.snapshot.marks.length)) ++ firstOf s.store.sectorFlag ++
             optField (fun x : Nat => n1 x) (if s.store.sectorFlag then some s.store.user.count else none) ++
             n1 s.store.lastSave.number ++ n1 s.store.source.number ++ firstOf s.store.factoryFlag) s }) ∧
     (Hears (.faultRead h) s →
       exec (.faultRead h) s = .next { s with
         link := answered (.faultRead h) .ok
           (n1 s.monitor.faults.length ++
             s.monitor.faults.flatMap fun r =>
               n1 r.cause.number ++ n1 r.count ++ n1 r.mode.number ++ n4 r.estimate ++ n1 r.quality.number ++
                 yesNo (presentNow s r.cause)) s }))

/-- R25: ANCHOR READ. -/
def Obligations.AnchorRead : Prop :=
  ∀ (h : Hdr) (index : Nat) (a : Anchor) (s : State), Hears (.anchorRead h index) s → MapLaw s →
    (s.tracker.map[index]? = some a →
      exec (.anchorRead h index) s = .next { s with
        link := answered (.anchorRead h index) .ok
          (n1 index ++ n4 a.count ++ n4 a.ticks ++ n4 (a.ticks / 100) ++ yesNo a.live) s } ∧
      (index = 0 → ∀ b ∈ s.tracker.map, a.count ≤ b.count)) ∧
    (s.tracker.map.length ≤ index →
      exec (.anchorRead h index) s = .next { s with link := answered (.anchorRead h index) .range [] s })

/-- R170: PROFILE READ. -/
def Obligations.ProfileRead : Prop :=
  ∀ (h : Hdr) (n : Nat) (p : Profile) (s : State), Hears (.profileRead h n) s →
    (7 < n → exec (.profileRead h n) s = .next { s with link := answered (.profileRead h n) .range [] s }) ∧
    (n ≤ 7 → s.store.profiles[n]? = some p →
      exec (.profileRead h n) s = .next { s with
        link := answered (.profileRead h n) .ok
          (n1 n ++ (n1 p.name.length ++ p.name) ++ n2 p.hub ++ n2 p.flange ++ n4 p.nominal ++ n2 p.tPlay ++ n2 p.tWind ++
            n1 p.gain ++ n1 p.kv ++ n4 p.aLight ++ n4 p.aFull ++ n2 p.windMax ++ n2 p.torque ++ n1 p.slew ++ n2 p.easeTime ++
            yesNo (decide (n = s.store.active)) ++ n1 s.store.active) s })

/-- R179: IDENTIFY (the character of the factory flag is log entry 11, DEDUCED). -/
def Obligations.Identify : Prop :=
  ∀ (h : Hdr) (s : State), Hears (.identify h) s →
    exec (.identify h) s = .next { s with
      link := answered (.identify h) .ok
        (n2 0x5A57 ++ n2 620 ++ n1 s.store.revision ++ n4 s.store.serial ++ (if s.store.factoryFlag then [0#8] else [1#8]) ++
          n1 s.link.address ++ n1 99 ++ n1 64 ++ n1 8 ++ n1 4) s }

/-! ## Requests of the port, the store, the fault set and the reference -/

/-- R185, R187 to R191: STATUS POLL reports and clears the event summary; SERVICE MASK and POLL CONFIGURE replace theirs;
GROUP POLL answers in the reply, or in the slot of a broadcast. -/
def Obligations.PortRequests : Prop :=
  ∀ (h : Hdr) (unit m k cond sense : Nat) (s : State),
    (Hears (.statusPoll h unit) s → unit ≤ 3 →
      exec (.statusPoll h unit) s = .next { s with
        link := { answered (.statusPoll h unit) .ok
          (n1 s.motion.mode.number ++ n1 s.motion.mode.phaseNumber ++ n1 s.motion.mode.levelNumber ++ n1 s.motion.mode.stopNumber ++
            n1 (quality s).number ++ yesNo (decide (s.monitor.faults ≠ [])) ++ n1 s.capstan.refState.number ++
            yesNo s.capstan.lock ++ n1 (outputBits s.punch) ++ n2 s.link.summary.toNat) s with summary := 0 } }) ∧
    (Hears (.serviceMask h m) s → m ≤ 0x07FF →
      exec (.serviceMask h m) s = .next { s with
        link := { answered (.serviceMask h m) .ok (n2 m ++ n2 s.link.summary.toNat) s with mask := BitVec.ofNat 16 m } }) ∧
    (Hears (.pollConfigure h k cond sense) s → k ≤ 7 ∨ k = 255 → cond ≤ 4 → sense ≤ 1 →
      exec (.pollConfigure h k cond sense) s = .next { s with
        link := { answered (.pollConfigure h k cond sense) .ok (n1 k ++ n1 cond ++ n1 sense) s with
          slot := if k ≤ 7 then some k else none, cond := cond, sense := decide (sense = 1) } }) ∧
    (Hears (.groupPoll h) s → s.link.slot ≠ none →
      exec (.groupPoll h) s = .next { s with
        link := answered (.groupPoll h) .ok [if pollCondition s s.link.cond = s.link.sense then 1#8 else 0#8] s }) ∧
    (s.inReset = false → s.link.silent = false → s.link.tx = .quiet → h.dest = 31 → StationOk h.station →
      (s.link.slot ≠ none →
        exec (.groupPoll h) s = .next { s with
          link := { s.link with
            rx := .disregard, tx := .slotDue (if pollCondition s s.link.cond = s.link.sense then 1#8 else 0#8) } }) ∧
      (s.link.slot = none → exec (.groupPoll h) s = .next { s with link := { s.link with rx := .disregard } }))

/-- R105, R134, R138, R168, R171, R174, R192, R198: FAULT CLEAR keeps the records whose condition is present; PROFILE WRITE
sets a record, and the radii with it where the active hub or flange changes; STORE SAVE takes its snapshot, and clears the
flag and the validity marker at acceptance (the model's choice, log entry 19); RESET owes the warm reset behind its reply,
or carries it out at once as a broadcast; REFERENCE SELECT turns the reference. -/
def Obligations.CardRequests : Prop :=
  (∀ (h : Hdr) (n : Nat) (p : Profile) (s : State),
     (Hears (.faultClear h) s → Parked s →
       let keep := s.monitor.faults.filter fun r => presentNow s r.cause
       exec (.faultClear h) s = .next { s with
         monitor := { s.monitor with faults := keep }
         link := answered (.faultClear h) .ok (n1 (s.monitor.faults.length - keep.length : Nat) ++ n1 keep.length) s }) ∧
     (Hears (.profileWrite h n p) s → n ≤ 7 → NameOk p.name → ProfileRanges p → n ≠ s.store.active ∨ Parked s →
       let turned := n = s.store.active ∧ (p.hub ≠ (activeProfile s).hub ∨ p.flange ≠ (activeProfile s).flange)
       exec (.profileWrite h n p) s = .next { s with
         store := { s.store with profiles := s.store.profiles.set n p }
         servo := { s.servo with
           rSupply := if turned then ((p.hub : Int) + p.flange) / 2 else s.servo.rSupply
           rTakeUp := if turned then ((p.hub : Int) + p.flange) / 2 else s.servo.rTakeUp }
         link := answered (.profileWrite h n p) .ok [] s }) ∧
     (Hears (.storeSave h) s → s.store.save = none →
       let saved := slotMap (fun _ m => { m with standing := .firm }) (s.marks.filter fun q => q.1 ≠ 0 ∧ q.2.tag ≠ none)
       exec (.storeSave h) s = .next { s with
         store := { s.store with
           save := some { stage := 1
                          snapshot := { profiles := s.store.profiles, marks := saved, selection := s.capstan.selection } }
           sectorFlag := false, user := { s.store.user with marker := false } }
         link := answered (.storeSave h) .ok (n1 saved.length) s }) ∧
     (Hears (.reset h) s → Parked s →
       exec (.reset h) s = .next { s with
         link := { answered (.reset h) .ok [] s with
           tx := .replyDue (replyTo { hdr := h, unit := 3, cmd := 0x05, payload := [] } .ok [] s) true } }) ∧
     (s.inReset = false → s.link.silent = false → s.link.tx = .quiet → h.dest = 31 → StationOk h.station → Parked s →
       exec (.reset h) s = exec .warmReset { s with link := { s.link with rx := .disregard, tx := .sending true } })) ∧
  (∀ (h : Hdr) (s : State), NoRecording s →
     (Hears (.referenceSelect h 1) s → s.capstan.refState = .internal →
       exec (.referenceSelect h 1) s = .next { s with
         capstan := { s.capstan with
           selection := .wordClock, refState := .qualifying, qual := 0, divider := 0, openAt := none, latest := none }
         link := raised .referenceChange (answered (.referenceSelect h 1) .ok [] s) }) ∧
     (Hears (.referenceSelect h 0) s → s.capstan.refState = .internal →
       exec (.referenceSelect h 0) s = .next { s with
         capstan := { s.capstan with selection := .internal }
         link := answered (.referenceSelect h 0) .ok [] s }) ∧
     (Hears (.referenceSelect h 0) s → s.capstan.refState = .external →
       ∃ t, exec (.referenceSelect h 0) s = .next t ∧ OnlyIn [.capstan, .link] s t ∧ t.capstan.selection = .internal ∧
         t.capstan.refState = .internal ∧ t.capstan.period = 10000 ∧ t.capstan.vRef = 10000 ∧ t.capstan.lock = false ∧
         t.capstan.correction = 0 ∧ t.capstan.silence = none ∧ t.capstan.lastEdge = s.capstan.lastInternal ∧
         t.link = raised .referenceChange (answered (.referenceSelect h 0) .ok [] s)))

/-! ## Requests of the mark table -/

/-- R32, R33, R35, R36, R48, R150: MARK SET and MARK HERE into a free slot, named or the first free one, or over an unpaired
mark that the requester may change, whose lock flag stays. -/
def Obligations.MarksSet : Prop :=
  ∀ (h : Hdr) (n slot kind : Nat) (k : MarkKind) (a : Addr) (l : Label) (lk : Bool) (s : State), NothingPlanned s →
    (markAt s slot = none ∧ lk = false) ∨
      (n = slot ∧ ∃ o ∈ markAt s slot, o.partner = none ∧ o.locked = lk ∧ (lk = false ∨ o.owner = h.station)) →
    (n = slot ∧ 1 ≤ slot ∧ slot ≤ 99) ∨ (n = 255 ∧ firstFree s = some slot) → kindOf kind = some k → PlainLabel l →
    let base : Mark :=
      { kind := k, addr := a, tag := loadedTag s, standing := .firm, spread := none, partner := none, label := l.take 12
        owner := h.station, locked := lk }
    (Hears (.markSet h n kind a l) s → a.block ≤ 1048575 → a.sample < spb s →
      exec (.markSet h n kind a l) s = .next { s with
        marks := slotPut slot base s.marks
        punch := { s.punch with zones := zonesOf { s with marks := slotPut slot base s.marks } }
        link := answered (.markSet h n kind a l) (if 12 < l.length then .clamped else .ok)
          (n1 slot ++ n1 1 ++ addrField a) s }) ∧
    (Hears (.markHere h n kind l) s →
      (quality s = .locked →
        let m := { base with addr := placeHere s }
        exec (.markHere h n kind l) s = .next { s with
          marks := slotPut slot m s.marks
          punch := { s.punch with zones := zonesOf { s with marks := slotPut slot m s.marks } }
          link := answered (.markHere h n kind l) (if 12 < l.length then .clamped else .ok)
            (n1 slot ++ n1 1 ++ addrField (placeHere s)) s }) ∧
      (quality s = .reckoned →
        let m := { base with
          addr := placeHere s, standing := .provisional s.tracker.counter
          spread := some (min 65535 (1 + (gapOf s.tracker.map s.tracker.counter / 2000).toNat)) }
        exec (.markHere h n kind l) s = .next { s with
          marks := slotPut slot m s.marks
          punch := { s.punch with zones := zonesOf { s with marks := slotPut slot m s.marks } }
          link := answered (.markHere h n kind l) (if 12 < l.length then .clamped else .ok)
            (n1 slot ++ n1 2 ++ addrField (placeHere s)) s }) ∧
      (quality s = .unknown →
        exec (.markHere h n kind l) s = .next { s with link := answered (.markHere h n kind l) .noPosition [] s }))

/-- R33, R34, R37 to R39: MARK MOVE, MARK TRIM, MARK NAME, MARK LOCK and MARK UNLOCK on a mark that the requester may change. -/
def Obligations.MarksChanged : Prop :=
  ∀ (h : Hdr) (n : Nat) (m : Mark) (a : Addr) (v : Int) (l : Label) (s : State), 1 ≤ n → n ≤ 99 → markAt s n = some m →
    m.locked = false ∨ m.owner = h.station →
    (NothingPlanned s → m.tag = loadedTag s →
      (Hears (.markMove h n a) s → a.block ≤ 1048575 → a.sample < spb s →
        (∀ p ∈ m.partner, ∀ o ∈ markAt s p, OrderHolds m.kind (tickOf a (spb s)) o.kind (tickValue s o)) →
        let u := slotPut n { m with addr := a, standing := .firm, spread := none } s.marks
        exec (.markMove h n a) s = .next { s with
          marks := u
          punch := { s.punch with zones := zonesOf { s with marks := u } }
          link := answered (.markMove h n a) .ok (n1 n ++ n1 1 ++ addrField a) s }) ∧
      (Hears (.markTrim h n v) s → -48000 ≤ v → v ≤ 48000 → v ≠ 0 → m.standing = .firm →
        let raw : Int := m.addr.block * spb s + m.addr.sample + v
        let pos := clampInt 0 (1048575 * spb s + spb s - 1) raw
        let b : Addr := { block := (pos / spb s).toNat, sample := (pos % spb s).toNat }
        let u := slotPut n { m with addr := b } s.marks
        (∀ p ∈ m.partner, ∀ o ∈ markAt s p, OrderHolds m.kind (tickOf b (spb s)) o.kind (tickValue s o)) →
        exec (.markTrim h n v) s = .next { s with
          marks := u
          punch := { s.punch with zones := zonesOf { s with marks := u } }
          link := answered (.markTrim h n v) (if pos = raw then .ok else .clamped) (n1 n ++ n1 1 ++ addrField b) s })) ∧
    (Hears (.markName h n l) s → PlainLabel l →
      exec (.markName h n l) s = .next { s with
        marks := slotPut n { m with label := l.take 12 } s.marks
        link := answered (.markName h n l) (if 12 < l.length then .clamped else .ok) (n1 n) s }) ∧
    (Hears (.markLock h n) s → m.owner = h.station →
      exec (.markLock h n) s = .next { s with
        marks := slotPut n { m with locked := true } s.marks, link := answered (.markLock h n) .ok (n1 n) s }) ∧
    (Hears (.markLock h n) s → m.owner ≠ h.station →
      exec (.markLock h n) s = .next { s with link := answered (.markLock h n) .protectedMark [] s }) ∧
    (Hears (.markUnlock h n) s → m.owner = h.station →
      exec (.markUnlock h n) s = .next { s with
        marks := slotPut n { m with locked := false } s.marks, link := answered (.markUnlock h n) .ok (n1 n) s })

/-- R40 to R43, R48, R150: MARK PAIR of two unpaired marks in either order, its reply with the number of the mark named first
(log entry 11, DEDUCED), MARK UNPAIR of a pair and of an unpaired mark, and MARK RETIRE of an unpaired mark. -/
def Obligations.MarksLinked : Prop :=
  ∀ (h : Hdr) (a b : Nat) (ma mb : Mark) (s : State), NothingPlanned s → 1 ≤ a → a ≤ 99 → 1 ≤ b → b ≤ 99 → a ≠ b →
    markAt s a = some ma → markAt s b = some mb → ma.locked = false ∨ ma.owner = h.station →
    mb.locked = false ∨ mb.owner = h.station →
    (Hears (.markPair h a b) s → ma.tag = loadedTag s → mb.tag = loadedTag s → ma.partner = none → mb.partner = none →
      (ma.kind = .punchIn ∧ mb.kind = .punchOut ∧ tickValue s ma + 1000 ≤ tickValue s mb) ∨
        (ma.kind = .punchOut ∧ mb.kind = .punchIn ∧ tickValue s mb + 1000 ≤ tickValue s ma) ∨
        (ma.kind = .guardStart ∧ mb.kind = .guardEnd ∧ tickValue s ma ≤ tickValue s mb) ∨
        (ma.kind = .guardEnd ∧ mb.kind = .guardStart ∧ tickValue s mb ≤ tickValue s ma) →
      let u := slotPut a { ma with partner := some b } (slotPut b { mb with partner := some a } s.marks)
      exec (.markPair h a b) s = .next { s with
        marks := u
        punch := { s.punch with zones := zonesOf { s with marks := u } }
        link := answered (.markPair h a b) .ok (n1 a) s }) ∧
    (Hears (.markUnpair h a) s → ma.partner = some b → mb.partner = some a → TableForm s →
      let u := slotPut a { ma with partner := none } (slotPut b { mb with partner := none } s.marks)
      exec (.markUnpair h a) s = .next { s with
        marks := u
        punch := { s.punch with zones := zonesOf { s with marks := u } }
        link := answered (.markUnpair h a) .ok (n1 a) s }) ∧
    (Hears (.markUnpair h a) s → ma.partner = none →
      exec (.markUnpair h a) s = .next { s with link := answered (.markUnpair h a) .ok (n1 a) s }) ∧
    (Hears (.markRetire h a) s → ma.partner = none →
      exec (.markRetire h a) s = .next { s with
        marks := slotDrop a s.marks
        punch := { s.punch with zones := zonesOf { s with marks := slotDrop a s.marks } }
        link := answered (.markRetire h a) .ok (n1 a) s })

/-- R43, R44, R84, R85, R162: whatever is planned, a retired mark leaves no armed entry behind and no locate, in progress or
held; a held LOCATE to it ends TARGET_LOST with no motion; and MARK RETIRE REEL retires every mark of the tag that the
requester may change. -/
def Obligations.RetiredMarksGone : Prop :=
  ∀ (h : Hdr) (n : Nat) (m : Mark) (tag : Nat) (s : State), TableForm s →
    (Hears (.markRetire h n) s → 1 ≤ n → n ≤ 99 → markAt s n = some m → m.locked = false ∨ m.owner = h.station →
      ∃ t, exec (.markRetire h n) s = .next t ∧ markAt t n = none ∧ t.motion.loc.map LocCtx.target ≠ some (.mark n) ∧
        (∀ c, t.motion.held = some (.locate c) → c.target ≠ .mark n) ∧
        (∀ e ∈ t.punch.entries, e.inMark ≠ n ∧ e.outMark ≠ n) ∧
        ∀ c, s.motion.held = some (.locate c) → c.target = .mark n → ContextLaw s →
          t.motion = { s.motion with
            held := none
            result := some { targetTick := c.targetTick, mark := some n, result := .targetLost
                             error := if quality s = .unknown then none else some (estimate s - c.targetTick)
                             reversals := c.reversals } } ∧ Latched .locateDone t) ∧
    (Hears (.markRetireReel h tag) s →
      ∃ t, exec (.markRetireReel h tag) s = .next t ∧
        ∀ p ∈ t.marks, p.1 = 0 ∨ p.2.tag ≠ (if tag = 0 then none else some tag) ∨ (p.2.locked = true ∧ p.2.owner ≠ h.station))

/-- R45 to R47: MARK READ of a free slot and of a mark, and the mark each FIND names: the nearest ahead, the nearest behind,
the nearest to an address, the lowest-numbered with a label. That NEAREST and LABEL answer with the fields of NEXT and
PREVIOUS is the model's choice (log entry 11). -/
def Obligations.MarksFound : Prop :=
  ∀ (h : Hdr) (n : Nat) (m : Mark) (a : Addr) (l : Label) (s : State), TableForm s →
    (Hears (.markRead h n) s → n ≤ 99 → markAt s n = none →
      exec (.markRead h n) s = .next { s with link := answered (.markRead h n) .ok (n1 n ++ n1 0) s }) ∧
    (Hears (.markRead h n) s → n ≤ 99 → markAt s n = some m →
      let count : Option Int := match m.standing with
        | .firm => none
        | .provisional c => some c
      let current := decide (m.tag = loadedTag s)
      exec (.markRead h n) s = .next { s with
        link := answered (.markRead h n) .ok
          (n1 n ++ n1 (if count = none then 1 else 2) ++ n1 m.kind.number ++ n4 m.addr.block ++ n2 m.addr.sample ++
            n2 (m.tag.getD 0) ++
            n1 ((if count = none then 0 else 1) + (if m.spread = none then 0 else 2) + (if m.partner = none then 0 else 4) +
              (if current then 8 else 0)) ++
            n4 (count.getD 0) ++ n2 (m.spread.getD 0) ++ n1 (m.partner.getD 0) ++ n1 m.owner ++ yesNo m.locked ++ yesNo current ++
            n4 (if current then tickValue s m else 0) ++ n1 m.label.length ++ m.label) s }) ∧
    (markAt s n = some m → m.tag = loadedTag s →
      let found := n1 n ++ addrField m.addr ++ n4 (tickValue s m)
      (Hears (.markFindNext h) s → quality s ≠ .unknown → estimate s + 100 ≤ tickValue s m →
        (∀ p ∈ s.marks, p.2.tag = loadedTag s → estimate s + 100 ≤ tickValue s p.2 →
          tickValue s m < tickValue s p.2 ∨ (tickValue s m = tickValue s p.2 ∧ n ≤ p.1)) →
        exec (.markFindNext h) s = .next { s with link := answered (.markFindNext h) .ok found s }) ∧
      (Hears (.markFindPrevious h) s → quality s ≠ .unknown → tickValue s m ≤ estimate s - 100 →
        (∀ p ∈ s.marks, p.2.tag = loadedTag s → tickValue s p.2 ≤ estimate s - 100 →
          tickValue s p.2 < tickValue s m ∨ (tickValue s m = tickValue s p.2 ∧ p.1 ≤ n)) →
        exec (.markFindPrevious h) s = .next { s with link := answered (.markFindPrevious h) .ok found s }) ∧
      (Hears (.markFindNearest h a) s → a.block ≤ 1048575 → a.sample < spb s →
        (∀ p ∈ s.marks, p.2.tag = loadedTag s →
          mag (tickValue s m - tickOf a (spb s)) < mag (tickValue s p.2 - tickOf a (spb s)) ∨
          (mag (tickValue s m - tickOf a (spb s)) = mag (tickValue s p.2 - tickOf a (spb s)) ∧ n ≤ p.1)) →
        exec (.markFindNearest h a) s = .next { s with link := answered (.markFindNearest h a) .ok found s }) ∧
      (Hears (.markFindLabel h l) s → m.label = l → l ≠ [] → l.length ≤ 12 → PlainLabel l →
        (∀ p ∈ s.marks, p.2.tag = loadedTag s → p.2.label = l → n ≤ p.1) →
        exec (.markFindLabel h l) s = .next { s with link := answered (.markFindLabel h l) .ok found s }))

/-- R10, R48, R52, R82, R83, R85 to R87, R97, R98, R150 to R152, R159 to R161: what follows a change of the marks in the same
step: a locate follows its mark, is expressed again with the reel's rate, or ends TARGET_LOST; armed entries move with
their marks, go GUARDED under a new zone or are removed for an overlap; a recording in a new zone ends ABORTED, or goes on
to the drop point before it. The actual in and out of the GUARDED and ABORTED records are log entry 30 (DEDUCED). -/
def Obligations.MarkChangesFollowed : Prop :=
  (∀ (h : Hdr) (n : Nat) (a : Addr) (c : LocCtx) (m : Mark) (p : LocPhase) (s : State), s.motion.loc = some c →
     s.motion.mode = .locate p →
     (Hears (.markMove h n a) s → 1 ≤ n → n ≤ 99 → c.target = .mark n → s.motion.held = none → s.punch.entries = [] →
       NoRecording s → markAt s n = some m → m.locked = false ∨ m.owner = h.station → m.tag = loadedTag s → m.partner = none →
       a.block ≤ 1048575 → a.sample < spb s →
       let u := slotPut n { m with addr := a, standing := .firm, spread := none } s.marks
       let tick := clampInt 0 ((((activeProfile s).nominal : Int) - 1) * 100) (tickOf a (spb s) - c.preroll * 100)
       let d := mag (tick - estimate s)
       let moved := { c with targetTick := tick, approach := 30000 }
       let fresh := { moved with latch := false, creep := none, judgement := none, holdTimer := 0 }
       let drive := { s.capstan with enable := true, command := s.capstan.vRef }
       let base : State := { s with
         marks := u
         punch := { s.punch with zones := zonesOf { s with marks := u } }
         link := answered (.markMove h n a) .ok (n1 n ++ n1 1 ++ addrField a) s }
       let kept : State := { base with motion := { s.motion with loc := some moved } }
       let toRun : State := { base with
         motion := { s.motion with
           mode := .locate .run, loc := some fresh, liftersUp := true, pinchIn := false, brakesOn := false }
         capstan := drive }
       let toApproach : State := { base with
         motion := { s.motion with mode := .locate .approach, loc := some fresh, pinchIn := false, brakesOn := false, still := 0 }
         capstan := drive }
       (p = .search ∨ p = .run → exec (.markMove h n a) s = .next kept) ∧
       (p = .approach ∨ p = .creep ∨ p = .hold →
         (30000 < d → exec (.markMove h n a) s = .next toRun) ∧
         (100 < d → d ≤ 30000 → p ≠ .approach → exec (.markMove h n a) s = .next toApproach) ∧
         (100 < d → d ≤ 30000 → p = .approach →
           exec (.markMove h n a) s = .next { base with motion := { s.motion with loc := some { moved with latch := false } } }) ∧
         (d ≤ 100 → exec (.markMove h n a) s = .next kept))) ∧
     (Hears (.markRetire h n) s → 1 ≤ n → n ≤ 99 → c.target = .mark n → ContextLaw s → TableForm s → markAt s n = some m →
       m.locked = false ∨ m.owner = h.station →
       ∃ t, exec (.markRetire h n) s = .next t ∧ markAt t n = none ∧ t.motion.mode = .stopping .normal ∧ t.motion.loc = none ∧
         t.motion.result = some { targetTick := c.targetTick, mark := some n, result := .targetLost
                                  error := if quality s = .unknown then none else some (estimate s - c.targetTick)
                                  reversals := c.reversals } ∧
         Latched .locateDone t) ∧
     (s.inReset = false → p = .approach ∨ p = .creep ∨ p = .hold → c.approach < mag (c.targetTick - estimate s) →
       s.scanner.optical = .opaqueTape →
       ∃ t, exec .profileUpdate s = .next t ∧ t.motion.mode = .locate .run ∧ t.motion.liftersUp = true ∧
         (t.motion.loc.map fun x => { x with lastDir := none }) =
           some { c with latch := false, creep := none, judgement := none, holdTimer := 0, lastDir := none } ∧
         ∀ x ∈ signDir t.motion.vCmd, t.motion.loc.map LocCtx.lastDir = some (some x))) ∧
  (∀ (r : TapeRead) (c : LocCtx) (a : Addr) (s : State), s.inReset = false → GoodFormat r s → s.tracker.loaded = none →
     s.tracker.candidate = some { tag := r.tag, rate := r.rate } → r.rate = .r44100 → s.capstan.refState = .internal →
     s.tracker.map = [] → s.tracker.jump = none → s.marks = [] → s.punch.zones = [] → s.punch.entries = [] → NoRecording s →
     s.motion.held = none → s.motion.mode = .locate .search → s.motion.loc = some c → c.target = .address a →
     let b : Addr := { block := a.block, sample := min a.sample 440 }
     ∃ t, exec (.addressRead r) s = .next t ∧ Latched .reelIdentified t ∧ OnlyIn [.tracker, .motion, .capstan, .link] s t ∧
       t.motion = { s.motion with
         loc := some { c with
           target := .address b, approach := 30000
           targetTick := clampInt 0 ((((activeProfile s).nominal : Int) - 1) * 100)
             ((b.block : Int) * 100 + b.sample * 100 / 441 - c.preroll * 100) } }) ∧
  (∀ (h : Hdr) (n k : Nat) (a ain : Addr) (late : Bool) (drop : Option Int) (st : Stage) (ms : Bool) (e : Entry) (s : State),
     Hears (.markSet h n k a []) s → k = 3 ∨ k = 4 → 1 ≤ n → n ≤ 99 → markAt s n = none → a.block ≤ 1048575 → a.sample < spb s →
     s.motion.loc = none → s.motion.held = none → s.punch.manual = .off → s.punch.entries = [e] → e.inMark ≠ n → e.outMark ≠ n →
     GateLaw s → ¬ MonitorOn s →
     ∃ t, exec (.markSet h n k a []) s = .next t ∧ OnlyIn [.marks, .punch, .link] s t ∧ (markAt t n).map Mark.addr = some a ∧
       t.punch.zones = zonesOf t ∧
       (e.state = .armed st ms → ¬ GateOn s →
         (OverlapsGuard t (entryIn s e) (entryOut s e + 100) →
           t.punch = { s.punch with
             zones := zonesOf t, entries := [{ e with state := .complete .guarded none none }]
             last := some { inMark := e.inMark, outMark := e.outMark, tracks := e.tracks, rehearse := e.rehearse
                            result := .guarded, actualIn := none, actualOut := none } } ∧ Latched .punchDone t) ∧
         (¬ OverlapsGuard t (entryIn s e) (entryOut s e + 100) → t.punch = { s.punch with zones := zonesOf t })) ∧
       (e.state = .active late drop ain → e.rehearse = false → GateOn s →
         (InGuard t (estimate s) →
           t.punch = { s.punch with
             zones := zonesOf t, gateA := false, gateB := false, offset := 0
             entries := [{ e with state := .complete .aborted (some ain) (some (placeHere s)) }]
             last := some { inMark := e.inMark, outMark := e.outMark, tracks := e.tracks, rehearse := false, result := .aborted
                            actualIn := some ain, actualOut := some (placeHere s) } } ∧ Latched .punchDone t) ∧
         (¬ InGuard t (estimate s) →
           let ahead := fun z : Zone => estimate s < z.low ∧ z.low ≤ entryOut s e + 100
           t.punch = { s.punch with zones := zonesOf t, entries := [{ e with state := .active late (formDrop t e) ain }] } ∧
           (formDrop t e = none → ∀ z ∈ t.punch.zones, ¬ ahead z) ∧
           ∀ x ∈ formDrop t e, (∃ z ∈ t.punch.zones, ahead z ∧ z.low = x) ∧ ∀ z ∈ t.punch.zones, ahead z → x ≤ z.low))) ∧
  (∀ (h : Hdr) (n : Nat) (a : Addr) (m : Mark) (e f : Entry) (s : State),
     MarkLaw s → ArmedLaw s → Hears (.markMove h n a) s → 1 ≤ n → n ≤ 99 → markAt s n = some m →
     m.locked = false ∨ m.owner = h.station → m.tag = loadedTag s → a.block ≤ 1048575 → a.sample < spb s →
     (∀ p ∈ m.partner, ∀ o ∈ markAt s p, OrderHolds m.kind (tickOf a (spb s)) o.kind (tickValue s o)) →
     s.motion.loc = none → s.motion.held = none → NoRecording s → s.punch.entries = [e, f] ∨ s.punch.entries = [f, e] →
     e.isActive = false → f.isActive = false → e.inMark = n → f.inMark ≠ n → f.outMark ≠ n → s.punch.zones = [] →
     (∀ q ∈ s.marks, q.2.kind ≠ .guardStart ∧ q.2.kind ≠ .guardEnd) →
     let v : State := { s with marks := slotPut n { m with addr := a, standing := .firm, spread := none } s.marks }
     exec (.markMove h n a) s = .next { v with
       punch := { s.punch with
         entries :=
           if RangesOverlap v e f then [f] else if entryIn v e < entryIn v f then [restage v e, f] else [f, restage v e] }
       link := answered (.markMove h n a) .ok (n1 n ++ n1 1 ++ addrField a) s })

/-! ## Requests of the Punch Unit -/

/-- R152 to R154: ARM of a pair in an empty list clear of guard zones, and DISARM of one entry or of all, an ACTIVE one ended
ABORTED with its gates off (its actual out, the place at the close, is log entry 30, DEDUCED). -/
def Obligations.ArmAndDisarm : Prop :=
  ∀ (h : Hdr) (n p tr rh : Nat) (tk : Tracks) (r : Bool) (m o : Mark) (ain : Addr) (s : State),
    (Hears (.arm h n tr rh) s → tracksOf tr = some tk → yesNoOf rh = some r → n ≤ 99 → markAt s n = some m →
      markAt s p = some o → m.kind = .punchIn → m.partner = some p → m.tag = loadedTag s → m.standing = .firm → m.spread = none →
      o.standing = .firm → o.spread = none → s.punch.entries = [] → s.punch.zones = [] →
      r = true ∨ (s.punch.permit = true ∧ TrackFree s tk) →
      exec (.arm h n tr rh) s = .next { s with
        punch := { s.punch with
          entries := [{ inMark := n, outMark := p, tracks := tk, rehearse := r
                        state := .armed (if InRun s ∧ estimate s < tickValue s m - 200 then .waiting else .idle) false }] }
        link := answered (.arm h n tr rh) .ok [] s }) ∧
    (Hears (.disarm h n) s → n ≤ 99 → (∃ e ∈ s.punch.entries, e.inMark = n) → (∀ e ∈ s.punch.entries, e.isActive = false) →
      exec (.disarm h n) s = .next { s with
        punch := { s.punch with entries := s.punch.entries.filter fun e => e.inMark ≠ n }
        link := answered (.disarm h n) .ok [] s }) ∧
    (Hears (.disarm h 255) s → (∀ e ∈ s.punch.entries, e.isActive = false) →
      exec (.disarm h 255) s = .next { s with
        punch := { s.punch with entries := [] }
        link := answered (.disarm h 255) .ok [] s }) ∧
    (Hears (.disarm h n) s → n ≤ 99 → GateOn s → ¬ MonitorOn s → s.punch.manual = .off →
      s.punch.entries = [{ inMark := n, outMark := p, tracks := tk, rehearse := false, state := .active r none ain }] →
      exec (.disarm h n) s = .next { s with
        punch := { s.punch with
          gateA := false, gateB := false, offset := 0, entries := []
          last := some { inMark := n, outMark := p, tracks := tk, rehearse := false, result := .aborted, actualIn := some ain
                         actualOut := some (placeHere s) } }
        link := raised .punchDone (answered (.disarm h n) .ok [] s) })

/-- R149, R164, R165: SAFE sets the flags of the tracks it names; RECORD ON makes manual record pending; RECORD OFF in each
manual state. -/
def Obligations.TrackRequests : Prop :=
  ∀ (h : Hdr) (tr x : Nat) (tk : Tracks) (d : Option Int) (s : State),
    (Hears (.safe h tr x) s → tracksOf tr = some tk → x ≤ 1 → NoRecording s →
      exec (.safe h tr x) s = .next { s with
        punch := { s.punch with
          safeA := if tk = .b then s.punch.safeA else decide (x = 0)
          safeB := if tk = .a then s.punch.safeB else decide (x = 0) }
        link := answered (.safe h tr x) .ok [] s }) ∧
    (Hears (.recordOn h tr) s → tracksOf tr = some tk → InRun s → (∀ e ∈ s.punch.entries, e.isActive = false) →
      s.punch.manual = .off → s.capstan.lock = true → quality s = .locked → s.punch.permit = true → TrackFree s tk →
      ¬ InGuard s (estimate s) →
      exec (.recordOn h tr) s = .next { s with
        punch := { s.punch with manual := .pendingOn tk }
        link := answered (.recordOn h tr) .ok [] s }) ∧
    (Hears (.recordOff h) s →
      (s.punch.manual = .off ∨ s.punch.manual = .pendingOff tk d →
        exec (.recordOff h) s = .next { s with link := answered (.recordOff h) .ok [] s }) ∧
      (s.punch.manual = .pendingOn tk →
        exec (.recordOff h) s = .next { s with
          punch := { s.punch with manual := .off }, link := answered (.recordOff h) .ok [] s }) ∧
      (s.punch.manual = .on tk d →
        exec (.recordOff h) s = .next { s with
          punch := { s.punch with manual := .pendingOff tk d }, link := answered (.recordOff h) .ok [] s }))
end

