-- ==== Sys2Proof/Laws/State.lean ====
section
/-!
SUPPORT. Laws/State: what each update of one block does to each field of State, so that no later proof unfolds a record
update.
-/

namespace Sys2Proof.Machine

variable (s : State)

/-! ## onTracker -/

@[simp] theorem State.onTracker_tracker (f : Tracker → Tracker) : (s.onTracker f).tracker = f s.tracker := rfl
@[simp] theorem State.onTracker_marks (f : Tracker → Tracker) : (s.onTracker f).marks = s.marks := rfl
@[simp] theorem State.onTracker_motion (f : Tracker → Tracker) : (s.onTracker f).motion = s.motion := rfl
@[simp] theorem State.onTracker_servo (f : Tracker → Tracker) : (s.onTracker f).servo = s.servo := rfl
@[simp] theorem State.onTracker_scanner (f : Tracker → Tracker) : (s.onTracker f).scanner = s.scanner := rfl
@[simp] theorem State.onTracker_monitor (f : Tracker → Tracker) : (s.onTracker f).monitor = s.monitor := rfl
@[simp] theorem State.onTracker_capstan (f : Tracker → Tracker) : (s.onTracker f).capstan = s.capstan := rfl
@[simp] theorem State.onTracker_punch (f : Tracker → Tracker) : (s.onTracker f).punch = s.punch := rfl
@[simp] theorem State.onTracker_store (f : Tracker → Tracker) : (s.onTracker f).store = s.store := rfl
@[simp] theorem State.onTracker_link (f : Tracker → Tracker) : (s.onTracker f).link = s.link := rfl
@[simp] theorem State.onTracker_inReset (f : Tracker → Tracker) : (s.onTracker f).inReset = s.inReset := rfl
@[simp] theorem State.onTracker_pending (f : Tracker → Tracker) : (s.onTracker f).pending = s.pending := rfl

/-! ## onMarks -/

@[simp] theorem State.onMarks_tracker (f : MarkTable → MarkTable) : (s.onMarks f).tracker = s.tracker := rfl
@[simp] theorem State.onMarks_marks (f : MarkTable → MarkTable) : (s.onMarks f).marks = f s.marks := rfl
@[simp] theorem State.onMarks_motion (f : MarkTable → MarkTable) : (s.onMarks f).motion = s.motion := rfl
@[simp] theorem State.onMarks_servo (f : MarkTable → MarkTable) : (s.onMarks f).servo = s.servo := rfl
@[simp] theorem State.onMarks_scanner (f : MarkTable → MarkTable) : (s.onMarks f).scanner = s.scanner := rfl
@[simp] theorem State.onMarks_monitor (f : MarkTable → MarkTable) : (s.onMarks f).monitor = s.monitor := rfl
@[simp] theorem State.onMarks_capstan (f : MarkTable → MarkTable) : (s.onMarks f).capstan = s.capstan := rfl
@[simp] theorem State.onMarks_punch (f : MarkTable → MarkTable) : (s.onMarks f).punch = s.punch := rfl
@[simp] theorem State.onMarks_store (f : MarkTable → MarkTable) : (s.onMarks f).store = s.store := rfl
@[simp] theorem State.onMarks_link (f : MarkTable → MarkTable) : (s.onMarks f).link = s.link := rfl
@[simp] theorem State.onMarks_inReset (f : MarkTable → MarkTable) : (s.onMarks f).inReset = s.inReset := rfl
@[simp] theorem State.onMarks_pending (f : MarkTable → MarkTable) : (s.onMarks f).pending = s.pending := rfl

/-! ## onMotion -/

@[simp] theorem State.onMotion_tracker (f : Motion → Motion) : (s.onMotion f).tracker = s.tracker := rfl
@[simp] theorem State.onMotion_marks (f : Motion → Motion) : (s.onMotion f).marks = s.marks := rfl
@[simp] theorem State.onMotion_motion (f : Motion → Motion) : (s.onMotion f).motion = f s.motion := rfl
@[simp] theorem State.onMotion_servo (f : Motion → Motion) : (s.onMotion f).servo = s.servo := rfl
@[simp] theorem State.onMotion_scanner (f : Motion → Motion) : (s.onMotion f).scanner = s.scanner := rfl
@[simp] theorem State.onMotion_monitor (f : Motion → Motion) : (s.onMotion f).monitor = s.monitor := rfl
@[simp] theorem State.onMotion_capstan (f : Motion → Motion) : (s.onMotion f).capstan = s.capstan := rfl
@[simp] theorem State.onMotion_punch (f : Motion → Motion) : (s.onMotion f).punch = s.punch := rfl
@[simp] theorem State.onMotion_store (f : Motion → Motion) : (s.onMotion f).store = s.store := rfl
@[simp] theorem State.onMotion_link (f : Motion → Motion) : (s.onMotion f).link = s.link := rfl
@[simp] theorem State.onMotion_inReset (f : Motion → Motion) : (s.onMotion f).inReset = s.inReset := rfl
@[simp] theorem State.onMotion_pending (f : Motion → Motion) : (s.onMotion f).pending = s.pending := rfl

/-! ## onServo -/

@[simp] theorem State.onServo_tracker (f : Servo → Servo) : (s.onServo f).tracker = s.tracker := rfl
@[simp] theorem State.onServo_marks (f : Servo → Servo) : (s.onServo f).marks = s.marks := rfl
@[simp] theorem State.onServo_motion (f : Servo → Servo) : (s.onServo f).motion = s.motion := rfl
@[simp] theorem State.onServo_servo (f : Servo → Servo) : (s.onServo f).servo = f s.servo := rfl
@[simp] theorem State.onServo_scanner (f : Servo → Servo) : (s.onServo f).scanner = s.scanner := rfl
@[simp] theorem State.onServo_monitor (f : Servo → Servo) : (s.onServo f).monitor = s.monitor := rfl
@[simp] theorem State.onServo_capstan (f : Servo → Servo) : (s.onServo f).capstan = s.capstan := rfl
@[simp] theorem State.onServo_punch (f : Servo → Servo) : (s.onServo f).punch = s.punch := rfl
@[simp] theorem State.onServo_store (f : Servo → Servo) : (s.onServo f).store = s.store := rfl
@[simp] theorem State.onServo_link (f : Servo → Servo) : (s.onServo f).link = s.link := rfl
@[simp] theorem State.onServo_inReset (f : Servo → Servo) : (s.onServo f).inReset = s.inReset := rfl
@[simp] theorem State.onServo_pending (f : Servo → Servo) : (s.onServo f).pending = s.pending := rfl

/-! ## onScanner -/

@[simp] theorem State.onScanner_tracker (f : Scanner → Scanner) : (s.onScanner f).tracker = s.tracker := rfl
@[simp] theorem State.onScanner_marks (f : Scanner → Scanner) : (s.onScanner f).marks = s.marks := rfl
@[simp] theorem State.onScanner_motion (f : Scanner → Scanner) : (s.onScanner f).motion = s.motion := rfl
@[simp] theorem State.onScanner_servo (f : Scanner → Scanner) : (s.onScanner f).servo = s.servo := rfl
@[simp] theorem State.onScanner_scanner (f : Scanner → Scanner) : (s.onScanner f).scanner = f s.scanner := rfl
@[simp] theorem State.onScanner_monitor (f : Scanner → Scanner) : (s.onScanner f).monitor = s.monitor := rfl
@[simp] theorem State.onScanner_capstan (f : Scanner → Scanner) : (s.onScanner f).capstan = s.capstan := rfl
@[simp] theorem State.onScanner_punch (f : Scanner → Scanner) : (s.onScanner f).punch = s.punch := rfl
@[simp] theorem State.onScanner_store (f : Scanner → Scanner) : (s.onScanner f).store = s.store := rfl
@[simp] theorem State.onScanner_link (f : Scanner → Scanner) : (s.onScanner f).link = s.link := rfl
@[simp] theorem State.onScanner_inReset (f : Scanner → Scanner) : (s.onScanner f).inReset = s.inReset := rfl
@[simp] theorem State.onScanner_pending (f : Scanner → Scanner) : (s.onScanner f).pending = s.pending := rfl

/-! ## onMonitor -/

@[simp] theorem State.onMonitor_tracker (f : Monitor → Monitor) : (s.onMonitor f).tracker = s.tracker := rfl
@[simp] theorem State.onMonitor_marks (f : Monitor → Monitor) : (s.onMonitor f).marks = s.marks := rfl
@[simp] theorem State.onMonitor_motion (f : Monitor → Monitor) : (s.onMonitor f).motion = s.motion := rfl
@[simp] theorem State.onMonitor_servo (f : Monitor → Monitor) : (s.onMonitor f).servo = s.servo := rfl
@[simp] theorem State.onMonitor_scanner (f : Monitor → Monitor) : (s.onMonitor f).scanner = s.scanner := rfl
@[simp] theorem State.onMonitor_monitor (f : Monitor → Monitor) : (s.onMonitor f).monitor = f s.monitor := rfl
@[simp] theorem State.onMonitor_capstan (f : Monitor → Monitor) : (s.onMonitor f).capstan = s.capstan := rfl
@[simp] theorem State.onMonitor_punch (f : Monitor → Monitor) : (s.onMonitor f).punch = s.punch := rfl
@[simp] theorem State.onMonitor_store (f : Monitor → Monitor) : (s.onMonitor f).store = s.store := rfl
@[simp] theorem State.onMonitor_link (f : Monitor → Monitor) : (s.onMonitor f).link = s.link := rfl
@[simp] theorem State.onMonitor_inReset (f : Monitor → Monitor) : (s.onMonitor f).inReset = s.inReset := rfl
@[simp] theorem State.onMonitor_pending (f : Monitor → Monitor) : (s.onMonitor f).pending = s.pending := rfl

/-! ## onCapstan -/

@[simp] theorem State.onCapstan_tracker (f : Capstan → Capstan) : (s.onCapstan f).tracker = s.tracker := rfl
@[simp] theorem State.onCapstan_marks (f : Capstan → Capstan) : (s.onCapstan f).marks = s.marks := rfl
@[simp] theorem State.onCapstan_motion (f : Capstan → Capstan) : (s.onCapstan f).motion = s.motion := rfl
@[simp] theorem State.onCapstan_servo (f : Capstan → Capstan) : (s.onCapstan f).servo = s.servo := rfl
@[simp] theorem State.onCapstan_scanner (f : Capstan → Capstan) : (s.onCapstan f).scanner = s.scanner := rfl
@[simp] theorem State.onCapstan_monitor (f : Capstan → Capstan) : (s.onCapstan f).monitor = s.monitor := rfl
@[simp] theorem State.onCapstan_capstan (f : Capstan → Capstan) : (s.onCapstan f).capstan = f s.capstan := rfl
@[simp] theorem State.onCapstan_punch (f : Capstan → Capstan) : (s.onCapstan f).punch = s.punch := rfl
@[simp] theorem State.onCapstan_store (f : Capstan → Capstan) : (s.onCapstan f).store = s.store := rfl
@[simp] theorem State.onCapstan_link (f : Capstan → Capstan) : (s.onCapstan f).link = s.link := rfl
@[simp] theorem State.onCapstan_inReset (f : Capstan → Capstan) : (s.onCapstan f).inReset = s.inReset := rfl
@[simp] theorem State.onCapstan_pending (f : Capstan → Capstan) : (s.onCapstan f).pending = s.pending := rfl

/-! ## onPunch -/

@[simp] theorem State.onPunch_tracker (f : Punch → Punch) : (s.onPunch f).tracker = s.tracker := rfl
@[simp] theorem State.onPunch_marks (f : Punch → Punch) : (s.onPunch f).marks = s.marks := rfl
@[simp] theorem State.onPunch_motion (f : Punch → Punch) : (s.onPunch f).motion = s.motion := rfl
@[simp] theorem State.onPunch_servo (f : Punch → Punch) : (s.onPunch f).servo = s.servo := rfl
@[simp] theorem State.onPunch_scanner (f : Punch → Punch) : (s.onPunch f).scanner = s.scanner := rfl
@[simp] theorem State.onPunch_monitor (f : Punch → Punch) : (s.onPunch f).monitor = s.monitor := rfl
@[simp] theorem State.onPunch_capstan (f : Punch → Punch) : (s.onPunch f).capstan = s.capstan := rfl
@[simp] theorem State.onPunch_punch (f : Punch → Punch) : (s.onPunch f).punch = f s.punch := rfl
@[simp] theorem State.onPunch_store (f : Punch → Punch) : (s.onPunch f).store = s.store := rfl
@[simp] theorem State.onPunch_link (f : Punch → Punch) : (s.onPunch f).link = s.link := rfl
@[simp] theorem State.onPunch_inReset (f : Punch → Punch) : (s.onPunch f).inReset = s.inReset := rfl
@[simp] theorem State.onPunch_pending (f : Punch → Punch) : (s.onPunch f).pending = s.pending := rfl

/-! ## onStore -/

@[simp] theorem State.onStore_tracker (f : Store → Store) : (s.onStore f).tracker = s.tracker := rfl
@[simp] theorem State.onStore_marks (f : Store → Store) : (s.onStore f).marks = s.marks := rfl
@[simp] theorem State.onStore_motion (f : Store → Store) : (s.onStore f).motion = s.motion := rfl
@[simp] theorem State.onStore_servo (f : Store → Store) : (s.onStore f).servo = s.servo := rfl
@[simp] theorem State.onStore_scanner (f : Store → Store) : (s.onStore f).scanner = s.scanner := rfl
@[simp] theorem State.onStore_monitor (f : Store → Store) : (s.onStore f).monitor = s.monitor := rfl
@[simp] theorem State.onStore_capstan (f : Store → Store) : (s.onStore f).capstan = s.capstan := rfl
@[simp] theorem State.onStore_punch (f : Store → Store) : (s.onStore f).punch = s.punch := rfl
@[simp] theorem State.onStore_store (f : Store → Store) : (s.onStore f).store = f s.store := rfl
@[simp] theorem State.onStore_link (f : Store → Store) : (s.onStore f).link = s.link := rfl
@[simp] theorem State.onStore_inReset (f : Store → Store) : (s.onStore f).inReset = s.inReset := rfl
@[simp] theorem State.onStore_pending (f : Store → Store) : (s.onStore f).pending = s.pending := rfl

/-! ## onLink -/

@[simp] theorem State.onLink_tracker (f : Link → Link) : (s.onLink f).tracker = s.tracker := rfl
@[simp] theorem State.onLink_marks (f : Link → Link) : (s.onLink f).marks = s.marks := rfl
@[simp] theorem State.onLink_motion (f : Link → Link) : (s.onLink f).motion = s.motion := rfl
@[simp] theorem State.onLink_servo (f : Link → Link) : (s.onLink f).servo = s.servo := rfl
@[simp] theorem State.onLink_scanner (f : Link → Link) : (s.onLink f).scanner = s.scanner := rfl
@[simp] theorem State.onLink_monitor (f : Link → Link) : (s.onLink f).monitor = s.monitor := rfl
@[simp] theorem State.onLink_capstan (f : Link → Link) : (s.onLink f).capstan = s.capstan := rfl
@[simp] theorem State.onLink_punch (f : Link → Link) : (s.onLink f).punch = s.punch := rfl
@[simp] theorem State.onLink_store (f : Link → Link) : (s.onLink f).store = s.store := rfl
@[simp] theorem State.onLink_link (f : Link → Link) : (s.onLink f).link = f s.link := rfl
@[simp] theorem State.onLink_inReset (f : Link → Link) : (s.onLink f).inReset = s.inReset := rfl
@[simp] theorem State.onLink_pending (f : Link → Link) : (s.onLink f).pending = s.pending := rfl

end Sys2Proof.Machine
end

