-- ==== Sys2Proof/Laws/Frames.lean ====
section
/-!
SUPPORT. Laws/Frames: for each shared operation, the blocks of State that it leaves alone. What becomes of the blocks not
named, the operation's own definition says.
-/

namespace Sys2Proof.Machine

/-! ## Flags -/

@[simp] theorem raise_frame (e : Event) (s : State) :
    (raise e s).tracker = s.tracker ∧ (raise e s).marks = s.marks ∧ (raise e s).motion = s.motion ∧
      (raise e s).servo = s.servo ∧ (raise e s).scanner = s.scanner ∧ (raise e s).monitor = s.monitor ∧
      (raise e s).capstan = s.capstan ∧ (raise e s).punch = s.punch ∧ (raise e s).store = s.store ∧
      (raise e s).inReset = s.inReset ∧ (raise e s).pending = s.pending := by
  simp [raise]

@[simp] theorem raiseIf_frame (c : Bool) (e : Event) (s : State) :
    (raiseIf c e s).tracker = s.tracker ∧ (raiseIf c e s).marks = s.marks ∧ (raiseIf c e s).motion = s.motion ∧
      (raiseIf c e s).servo = s.servo ∧ (raiseIf c e s).scanner = s.scanner ∧ (raiseIf c e s).monitor = s.monitor ∧
      (raiseIf c e s).capstan = s.capstan ∧ (raiseIf c e s).punch = s.punch ∧ (raiseIf c e s).store = s.store ∧
      (raiseIf c e s).inReset = s.inReset ∧ (raiseIf c e s).pending = s.pending := by
  unfold raiseIf
  split <;> simp

/-! ## Ops -/

@[simp] theorem driveCapstan_frame (s : State) :
    (driveCapstan s).tracker = s.tracker ∧ (driveCapstan s).marks = s.marks ∧ (driveCapstan s).motion = s.motion ∧
      (driveCapstan s).servo = s.servo ∧ (driveCapstan s).scanner = s.scanner ∧
      (driveCapstan s).monitor = s.monitor ∧ (driveCapstan s).punch = s.punch ∧ (driveCapstan s).store = s.store ∧
      (driveCapstan s).link = s.link ∧ (driveCapstan s).inReset = s.inReset ∧ (driveCapstan s).pending = s.pending := by
  simp [driveCapstan]

@[simp] theorem unlockCapstan_frame (s : State) :
    (unlockCapstan s).tracker = s.tracker ∧ (unlockCapstan s).marks = s.marks ∧
      (unlockCapstan s).motion = s.motion ∧ (unlockCapstan s).servo = s.servo ∧
      (unlockCapstan s).scanner = s.scanner ∧ (unlockCapstan s).monitor = s.monitor ∧
      (unlockCapstan s).punch = s.punch ∧ (unlockCapstan s).store = s.store ∧ (unlockCapstan s).link = s.link ∧
      (unlockCapstan s).inReset = s.inReset ∧ (unlockCapstan s).pending = s.pending := by
  simp [unlockCapstan]

@[simp] theorem solenoids_frame (m : Mode) (s : State) :
    (solenoids m s).tracker = s.tracker ∧ (solenoids m s).marks = s.marks ∧ (solenoids m s).servo = s.servo ∧
      (solenoids m s).scanner = s.scanner ∧ (solenoids m s).monitor = s.monitor ∧
      (solenoids m s).capstan = s.capstan ∧ (solenoids m s).punch = s.punch ∧ (solenoids m s).store = s.store ∧
      (solenoids m s).link = s.link ∧ (solenoids m s).inReset = s.inReset ∧ (solenoids m s).pending = s.pending := by
  simp [solenoids]

@[simp] theorem reelLines_frame (m : Mode) (s : State) :
    (reelLines m s).tracker = s.tracker ∧ (reelLines m s).marks = s.marks ∧ (reelLines m s).motion = s.motion ∧
      (reelLines m s).scanner = s.scanner ∧ (reelLines m s).monitor = s.monitor ∧
      (reelLines m s).capstan = s.capstan ∧ (reelLines m s).punch = s.punch ∧ (reelLines m s).store = s.store ∧
      (reelLines m s).link = s.link ∧ (reelLines m s).inReset = s.inReset ∧ (reelLines m s).pending = s.pending := by
  unfold reelLines
  split <;> simp

@[simp] theorem endEngaging_frame (m : Mode) (s : State) :
    (endEngaging m s).tracker = s.tracker ∧ (endEngaging m s).marks = s.marks ∧
      (endEngaging m s).motion = s.motion ∧ (endEngaging m s).scanner = s.scanner ∧
      (endEngaging m s).monitor = s.monitor ∧ (endEngaging m s).capstan = s.capstan ∧
      (endEngaging m s).punch = s.punch ∧ (endEngaging m s).store = s.store ∧ (endEngaging m s).link = s.link ∧
      (endEngaging m s).inReset = s.inReset ∧ (endEngaging m s).pending = s.pending := by
  unfold endEngaging
  split <;> simp

@[simp] theorem lowerLifters_frame (s : State) :
    (lowerLifters s).tracker = s.tracker ∧ (lowerLifters s).marks = s.marks ∧ (lowerLifters s).servo = s.servo ∧
      (lowerLifters s).scanner = s.scanner ∧ (lowerLifters s).monitor = s.monitor ∧
      (lowerLifters s).capstan = s.capstan ∧ (lowerLifters s).punch = s.punch ∧ (lowerLifters s).store = s.store ∧
      (lowerLifters s).link = s.link ∧ (lowerLifters s).inReset = s.inReset ∧ (lowerLifters s).pending = s.pending := by
  unfold lowerLifters
  split <;> simp

/-! ## Punch -/

@[simp] theorem recomputeZones_frame (s : State) :
    (recomputeZones s).tracker = s.tracker ∧ (recomputeZones s).marks = s.marks ∧
      (recomputeZones s).motion = s.motion ∧ (recomputeZones s).servo = s.servo ∧
      (recomputeZones s).scanner = s.scanner ∧ (recomputeZones s).monitor = s.monitor ∧
      (recomputeZones s).capstan = s.capstan ∧ (recomputeZones s).store = s.store ∧
      (recomputeZones s).link = s.link ∧ (recomputeZones s).inReset = s.inReset ∧
      (recomputeZones s).pending = s.pending := by
  simp [recomputeZones]

@[simp] theorem completeEntry_frame (e : Entry) (r : PunchResult) (x y : Option Addr) (s : State) :
    (completeEntry e r x y s).tracker = s.tracker ∧ (completeEntry e r x y s).marks = s.marks ∧
      (completeEntry e r x y s).motion = s.motion ∧ (completeEntry e r x y s).servo = s.servo ∧
      (completeEntry e r x y s).scanner = s.scanner ∧ (completeEntry e r x y s).monitor = s.monitor ∧
      (completeEntry e r x y s).capstan = s.capstan ∧ (completeEntry e r x y s).store = s.store ∧
      (completeEntry e r x y s).inReset = s.inReset ∧ (completeEntry e r x y s).pending = s.pending := by
  simp [completeEntry]

@[simp] theorem closeGates_frame (n : Nat) (s : State) :
    (closeGates n s).tracker = s.tracker ∧ (closeGates n s).marks = s.marks ∧ (closeGates n s).motion = s.motion ∧
      (closeGates n s).servo = s.servo ∧ (closeGates n s).scanner = s.scanner ∧
      (closeGates n s).monitor = s.monitor ∧ (closeGates n s).capstan = s.capstan ∧
      (closeGates n s).store = s.store ∧ (closeGates n s).link = s.link ∧ (closeGates n s).inReset = s.inReset ∧
      (closeGates n s).pending = s.pending := by
  unfold closeGates
  split <;> simp

@[simp] theorem closeMonitors_frame (n : Nat) (s : State) :
    (closeMonitors n s).tracker = s.tracker ∧ (closeMonitors n s).marks = s.marks ∧
      (closeMonitors n s).motion = s.motion ∧ (closeMonitors n s).servo = s.servo ∧
      (closeMonitors n s).scanner = s.scanner ∧ (closeMonitors n s).monitor = s.monitor ∧
      (closeMonitors n s).capstan = s.capstan ∧ (closeMonitors n s).store = s.store ∧
      (closeMonitors n s).link = s.link ∧ (closeMonitors n s).inReset = s.inReset ∧
      (closeMonitors n s).pending = s.pending := by
  unfold closeMonitors
  split <;> simp

@[simp] theorem endActive_frame (b : Bool) (s : State) :
    (endActive b s).tracker = s.tracker ∧ (endActive b s).marks = s.marks ∧
      (endActive b s).motion = s.motion ∧ (endActive b s).servo = s.servo ∧
      (endActive b s).scanner = s.scanner ∧ (endActive b s).monitor = s.monitor ∧
      (endActive b s).capstan = s.capstan ∧ (endActive b s).store = s.store ∧
      (endActive b s).inReset = s.inReset ∧ (endActive b s).pending = s.pending := by
  unfold endActive
  (repeat' split) <;> simp

@[simp] theorem manualOff_frame (s : State) :
    (manualOff s).tracker = s.tracker ∧ (manualOff s).marks = s.marks ∧ (manualOff s).motion = s.motion ∧
      (manualOff s).servo = s.servo ∧ (manualOff s).scanner = s.scanner ∧ (manualOff s).monitor = s.monitor ∧
      (manualOff s).capstan = s.capstan ∧ (manualOff s).store = s.store ∧ (manualOff s).link = s.link ∧
      (manualOff s).inReset = s.inReset ∧ (manualOff s).pending = s.pending := by
  simp [manualOff]

@[simp] theorem dropGates_frame (s : State) :
    (dropGates s).tracker = s.tracker ∧ (dropGates s).marks = s.marks ∧ (dropGates s).motion = s.motion ∧
      (dropGates s).servo = s.servo ∧ (dropGates s).scanner = s.scanner ∧ (dropGates s).monitor = s.monitor ∧
      (dropGates s).capstan = s.capstan ∧ (dropGates s).store = s.store ∧ (dropGates s).inReset = s.inReset ∧
      (dropGates s).pending = s.pending := by
  simp [dropGates]

@[simp] theorem dropMonitors_frame (s : State) :
    (dropMonitors s).tracker = s.tracker ∧ (dropMonitors s).marks = s.marks ∧
      (dropMonitors s).motion = s.motion ∧ (dropMonitors s).servo = s.servo ∧
      (dropMonitors s).scanner = s.scanner ∧ (dropMonitors s).monitor = s.monitor ∧
      (dropMonitors s).capstan = s.capstan ∧ (dropMonitors s).store = s.store ∧
      (dropMonitors s).inReset = s.inReset ∧ (dropMonitors s).pending = s.pending := by
  simp [dropMonitors]

@[simp] theorem dropPending_frame (s : State) :
    (dropPending s).tracker = s.tracker ∧ (dropPending s).marks = s.marks ∧ (dropPending s).motion = s.motion ∧
      (dropPending s).servo = s.servo ∧ (dropPending s).scanner = s.scanner ∧ (dropPending s).monitor = s.monitor ∧
      (dropPending s).capstan = s.capstan ∧ (dropPending s).store = s.store ∧ (dropPending s).link = s.link ∧
      (dropPending s).inReset = s.inReset ∧ (dropPending s).pending = s.pending := by
  unfold dropPending
  (repeat' split) <;> simp

@[simp] theorem gateGuard_frame (s : State) :
    (gateGuard s).tracker = s.tracker ∧ (gateGuard s).marks = s.marks ∧ (gateGuard s).motion = s.motion ∧
      (gateGuard s).servo = s.servo ∧ (gateGuard s).scanner = s.scanner ∧ (gateGuard s).monitor = s.monitor ∧
      (gateGuard s).capstan = s.capstan ∧ (gateGuard s).store = s.store ∧ (gateGuard s).inReset = s.inReset ∧
      (gateGuard s).pending = s.pending := by
  simp only [gateGuard]
  split_ifs <;> simp

@[simp] theorem abortActive_frame (s : State) :
    (abortActive s).tracker = s.tracker ∧ (abortActive s).marks = s.marks ∧ (abortActive s).motion = s.motion ∧
      (abortActive s).servo = s.servo ∧ (abortActive s).scanner = s.scanner ∧ (abortActive s).monitor = s.monitor ∧
      (abortActive s).capstan = s.capstan ∧ (abortActive s).store = s.store ∧ (abortActive s).inReset = s.inReset ∧
      (abortActive s).pending = s.pending := by
  unfold abortActive
  split <;> simp

@[simp] theorem judgeEntry_frame (s : State) (n : Nat) :
    (judgeEntry s n).tracker = s.tracker ∧ (judgeEntry s n).marks = s.marks ∧ (judgeEntry s n).motion = s.motion ∧
      (judgeEntry s n).servo = s.servo ∧ (judgeEntry s n).scanner = s.scanner ∧
      (judgeEntry s n).monitor = s.monitor ∧ (judgeEntry s n).capstan = s.capstan ∧
      (judgeEntry s n).store = s.store ∧ (judgeEntry s n).inReset = s.inReset ∧
      (judgeEntry s n).pending = s.pending := by
  unfold judgeEntry
  (repeat' split) <;> simp

@[simp] theorem foldl_judgeEntry_frame (l : List Nat) (s : State) :
    (l.foldl judgeEntry s).tracker = s.tracker ∧ (l.foldl judgeEntry s).marks = s.marks ∧
      (l.foldl judgeEntry s).motion = s.motion ∧ (l.foldl judgeEntry s).servo = s.servo ∧
      (l.foldl judgeEntry s).scanner = s.scanner ∧ (l.foldl judgeEntry s).monitor = s.monitor ∧
      (l.foldl judgeEntry s).capstan = s.capstan ∧ (l.foldl judgeEntry s).store = s.store ∧
      (l.foldl judgeEntry s).inReset = s.inReset ∧ (l.foldl judgeEntry s).pending = s.pending := by
  induction l generalizing s with
  | nil => simp
  | cons x l ih => simp [ih]

@[simp] theorem reformManual_frame (s : State) :
    (reformManual s).tracker = s.tracker ∧ (reformManual s).marks = s.marks ∧ (reformManual s).motion = s.motion ∧
      (reformManual s).servo = s.servo ∧ (reformManual s).scanner = s.scanner ∧
      (reformManual s).monitor = s.monitor ∧ (reformManual s).capstan = s.capstan ∧
      (reformManual s).store = s.store ∧ (reformManual s).link = s.link ∧ (reformManual s).inReset = s.inReset ∧
      (reformManual s).pending = s.pending := by
  unfold reformManual
  split <;> simp

@[simp] theorem guardReact_frame (s : State) :
    (guardReact s).tracker = s.tracker ∧ (guardReact s).marks = s.marks ∧ (guardReact s).motion = s.motion ∧
      (guardReact s).servo = s.servo ∧ (guardReact s).scanner = s.scanner ∧ (guardReact s).monitor = s.monitor ∧
      (guardReact s).capstan = s.capstan ∧ (guardReact s).store = s.store ∧ (guardReact s).inReset = s.inReset ∧
      (guardReact s).pending = s.pending := by
  simp [guardReact]

@[simp] theorem removeEntry_frame (n : Nat) (s : State) :
    (removeEntry n s).tracker = s.tracker ∧ (removeEntry n s).marks = s.marks ∧
      (removeEntry n s).motion = s.motion ∧ (removeEntry n s).servo = s.servo ∧
      (removeEntry n s).scanner = s.scanner ∧ (removeEntry n s).monitor = s.monitor ∧
      (removeEntry n s).capstan = s.capstan ∧ (removeEntry n s).store = s.store ∧
      (removeEntry n s).inReset = s.inReset ∧ (removeEntry n s).pending = s.pending := by
  unfold removeEntry
  split <;> simp

@[simp] theorem foldl_removeEntry_frame (l : List Nat) (s : State) :
    (l.foldl (fun s k => removeEntry k s) s).tracker = s.tracker ∧
      (l.foldl (fun s k => removeEntry k s) s).marks = s.marks ∧
      (l.foldl (fun s k => removeEntry k s) s).motion = s.motion ∧
      (l.foldl (fun s k => removeEntry k s) s).servo = s.servo ∧
      (l.foldl (fun s k => removeEntry k s) s).scanner = s.scanner ∧
      (l.foldl (fun s k => removeEntry k s) s).monitor = s.monitor ∧
      (l.foldl (fun s k => removeEntry k s) s).capstan = s.capstan ∧
      (l.foldl (fun s k => removeEntry k s) s).store = s.store ∧
      (l.foldl (fun s k => removeEntry k s) s).inReset = s.inReset ∧
      (l.foldl (fun s k => removeEntry k s) s).pending = s.pending := by
  induction l generalizing s with
  | nil => simp
  | cons x l ih => simp [ih]

@[simp] theorem removeEntriesOf_frame (s : State) (n : Nat) :
    (removeEntriesOf s n).tracker = s.tracker ∧ (removeEntriesOf s n).marks = s.marks ∧
      (removeEntriesOf s n).motion = s.motion ∧ (removeEntriesOf s n).servo = s.servo ∧
      (removeEntriesOf s n).scanner = s.scanner ∧ (removeEntriesOf s n).monitor = s.monitor ∧
      (removeEntriesOf s n).capstan = s.capstan ∧ (removeEntriesOf s n).store = s.store ∧
      (removeEntriesOf s n).inReset = s.inReset ∧ (removeEntriesOf s n).pending = s.pending := by
  simp [removeEntriesOf]

@[simp] theorem foldl_removeEntriesOf_frame (l : List Nat) (s : State) :
    (l.foldl removeEntriesOf s).tracker = s.tracker ∧ (l.foldl removeEntriesOf s).marks = s.marks ∧
      (l.foldl removeEntriesOf s).motion = s.motion ∧ (l.foldl removeEntriesOf s).servo = s.servo ∧
      (l.foldl removeEntriesOf s).scanner = s.scanner ∧ (l.foldl removeEntriesOf s).monitor = s.monitor ∧
      (l.foldl removeEntriesOf s).capstan = s.capstan ∧ (l.foldl removeEntriesOf s).store = s.store ∧
      (l.foldl removeEntriesOf s).inReset = s.inReset ∧ (l.foldl removeEntriesOf s).pending = s.pending := by
  induction l generalizing s with
  | nil => simp
  | cons x l ih => simp [ih]

@[simp] theorem dropOverlapping_frame (s : State) (n : Nat) :
    (dropOverlapping s n).tracker = s.tracker ∧ (dropOverlapping s n).marks = s.marks ∧
      (dropOverlapping s n).motion = s.motion ∧ (dropOverlapping s n).servo = s.servo ∧
      (dropOverlapping s n).scanner = s.scanner ∧ (dropOverlapping s n).monitor = s.monitor ∧
      (dropOverlapping s n).capstan = s.capstan ∧ (dropOverlapping s n).store = s.store ∧
      (dropOverlapping s n).link = s.link ∧ (dropOverlapping s n).inReset = s.inReset ∧
      (dropOverlapping s n).pending = s.pending := by
  unfold dropOverlapping
  (repeat' split) <;> simp

@[simp] theorem foldl_dropOverlapping_frame (l : List Nat) (s : State) :
    (l.foldl dropOverlapping s).tracker = s.tracker ∧ (l.foldl dropOverlapping s).marks = s.marks ∧
      (l.foldl dropOverlapping s).motion = s.motion ∧ (l.foldl dropOverlapping s).servo = s.servo ∧
      (l.foldl dropOverlapping s).scanner = s.scanner ∧ (l.foldl dropOverlapping s).monitor = s.monitor ∧
      (l.foldl dropOverlapping s).capstan = s.capstan ∧ (l.foldl dropOverlapping s).store = s.store ∧
      (l.foldl dropOverlapping s).link = s.link ∧ (l.foldl dropOverlapping s).inReset = s.inReset ∧
      (l.foldl dropOverlapping s).pending = s.pending := by
  induction l generalizing s with
  | nil => simp
  | cons x l ih => simp [ih]

@[simp] theorem moveEntries_frame (l : List Nat) (s : State) :
    (moveEntries l s).tracker = s.tracker ∧ (moveEntries l s).marks = s.marks ∧
      (moveEntries l s).motion = s.motion ∧ (moveEntries l s).servo = s.servo ∧
      (moveEntries l s).scanner = s.scanner ∧ (moveEntries l s).monitor = s.monitor ∧
      (moveEntries l s).capstan = s.capstan ∧ (moveEntries l s).store = s.store ∧ (moveEntries l s).link = s.link ∧
      (moveEntries l s).inReset = s.inReset ∧ (moveEntries l s).pending = s.pending := by
  simp only [moveEntries]
  split <;> simp

@[simp] theorem enterRunPunch_frame (s : State) :
    (enterRunPunch s).tracker = s.tracker ∧ (enterRunPunch s).marks = s.marks ∧
      (enterRunPunch s).motion = s.motion ∧ (enterRunPunch s).servo = s.servo ∧
      (enterRunPunch s).scanner = s.scanner ∧ (enterRunPunch s).monitor = s.monitor ∧
      (enterRunPunch s).capstan = s.capstan ∧ (enterRunPunch s).store = s.store ∧ (enterRunPunch s).link = s.link ∧
      (enterRunPunch s).inReset = s.inReset ∧ (enterRunPunch s).pending = s.pending := by
  simp [enterRunPunch]

@[simp] theorem leaveRunPunch_frame (s : State) :
    (leaveRunPunch s).tracker = s.tracker ∧ (leaveRunPunch s).marks = s.marks ∧
      (leaveRunPunch s).motion = s.motion ∧ (leaveRunPunch s).servo = s.servo ∧
      (leaveRunPunch s).scanner = s.scanner ∧ (leaveRunPunch s).monitor = s.monitor ∧
      (leaveRunPunch s).capstan = s.capstan ∧ (leaveRunPunch s).store = s.store ∧
      (leaveRunPunch s).inReset = s.inReset ∧ (leaveRunPunch s).pending = s.pending := by
  simp [leaveRunPunch]

@[simp] theorem leadCheck_frame (s : State) (n : Nat) :
    (leadCheck s n).tracker = s.tracker ∧ (leadCheck s n).marks = s.marks ∧ (leadCheck s n).motion = s.motion ∧
      (leadCheck s n).servo = s.servo ∧ (leadCheck s n).scanner = s.scanner ∧ (leadCheck s n).monitor = s.monitor ∧
      (leadCheck s n).capstan = s.capstan ∧ (leadCheck s n).store = s.store ∧ (leadCheck s n).inReset = s.inReset ∧
      (leadCheck s n).pending = s.pending := by
  unfold leadCheck
  (repeat' split) <;> simp

@[simp] theorem foldl_leadCheck_frame (l : List Nat) (s : State) :
    (l.foldl leadCheck s).tracker = s.tracker ∧ (l.foldl leadCheck s).marks = s.marks ∧
      (l.foldl leadCheck s).motion = s.motion ∧ (l.foldl leadCheck s).servo = s.servo ∧
      (l.foldl leadCheck s).scanner = s.scanner ∧ (l.foldl leadCheck s).monitor = s.monitor ∧
      (l.foldl leadCheck s).capstan = s.capstan ∧ (l.foldl leadCheck s).store = s.store ∧
      (l.foldl leadCheck s).inReset = s.inReset ∧ (l.foldl leadCheck s).pending = s.pending := by
  induction l generalizing s with
  | nil => simp
  | cons x l ih => simp [ih]

@[simp] theorem openEntry_frame (e : Entry) (b : Bool) (a : Addr) (n : Nat) (s : State) :
    (openEntry e b a n s).tracker = s.tracker ∧ (openEntry e b a n s).marks = s.marks ∧
      (openEntry e b a n s).motion = s.motion ∧ (openEntry e b a n s).servo = s.servo ∧
      (openEntry e b a n s).scanner = s.scanner ∧ (openEntry e b a n s).monitor = s.monitor ∧
      (openEntry e b a n s).capstan = s.capstan ∧ (openEntry e b a n s).store = s.store ∧
      (openEntry e b a n s).link = s.link ∧ (openEntry e b a n s).inReset = s.inReset ∧
      (openEntry e b a n s).pending = s.pending := by
  simp [openEntry]

@[simp] theorem punchIn_frame (b : Nat) (s : State) (n : Nat) :
    (punchIn b s n).tracker = s.tracker ∧ (punchIn b s n).marks = s.marks ∧ (punchIn b s n).motion = s.motion ∧
      (punchIn b s n).servo = s.servo ∧ (punchIn b s n).scanner = s.scanner ∧ (punchIn b s n).monitor = s.monitor ∧
      (punchIn b s n).capstan = s.capstan ∧ (punchIn b s n).store = s.store ∧ (punchIn b s n).inReset = s.inReset ∧
      (punchIn b s n).pending = s.pending := by
  unfold punchIn
  (repeat' split) <;> simp

@[simp] theorem foldl_punchIn_frame (b : Nat) (l : List Nat) (s : State) :
    (l.foldl (punchIn b) s).tracker = s.tracker ∧ (l.foldl (punchIn b) s).marks = s.marks ∧
      (l.foldl (punchIn b) s).motion = s.motion ∧ (l.foldl (punchIn b) s).servo = s.servo ∧
      (l.foldl (punchIn b) s).scanner = s.scanner ∧ (l.foldl (punchIn b) s).monitor = s.monitor ∧
      (l.foldl (punchIn b) s).capstan = s.capstan ∧ (l.foldl (punchIn b) s).store = s.store ∧
      (l.foldl (punchIn b) s).inReset = s.inReset ∧ (l.foldl (punchIn b) s).pending = s.pending := by
  induction l generalizing s with
  | nil => simp
  | cons x l ih => simp [ih]

@[simp] theorem missEntry_frame (f : State → Entry → Bool) (s : State) (n : Nat) :
    (missEntry f s n).tracker = s.tracker ∧ (missEntry f s n).marks = s.marks ∧
      (missEntry f s n).motion = s.motion ∧ (missEntry f s n).servo = s.servo ∧
      (missEntry f s n).scanner = s.scanner ∧ (missEntry f s n).monitor = s.monitor ∧
      (missEntry f s n).capstan = s.capstan ∧ (missEntry f s n).store = s.store ∧ (missEntry f s n).link = s.link ∧
      (missEntry f s n).inReset = s.inReset ∧ (missEntry f s n).pending = s.pending := by
  unfold missEntry
  (repeat' split) <;> simp

@[simp] theorem foldl_missEntry_frame (f : State → Entry → Bool) (l : List Nat) (s : State) :
    (l.foldl (missEntry f) s).tracker = s.tracker ∧ (l.foldl (missEntry f) s).marks = s.marks ∧
      (l.foldl (missEntry f) s).motion = s.motion ∧ (l.foldl (missEntry f) s).servo = s.servo ∧
      (l.foldl (missEntry f) s).scanner = s.scanner ∧ (l.foldl (missEntry f) s).monitor = s.monitor ∧
      (l.foldl (missEntry f) s).capstan = s.capstan ∧ (l.foldl (missEntry f) s).store = s.store ∧
      (l.foldl (missEntry f) s).link = s.link ∧ (l.foldl (missEntry f) s).inReset = s.inReset ∧
      (l.foldl (missEntry f) s).pending = s.pending := by
  induction l generalizing s with
  | nil => simp
  | cons x l ih => simp [ih]

@[simp] theorem closeEntry_frame (e : Entry) (r : PunchResult) (x y : Addr) (n : Nat) (s : State) :
    (closeEntry e r x y n s).tracker = s.tracker ∧ (closeEntry e r x y n s).marks = s.marks ∧
      (closeEntry e r x y n s).motion = s.motion ∧ (closeEntry e r x y n s).servo = s.servo ∧
      (closeEntry e r x y n s).scanner = s.scanner ∧ (closeEntry e r x y n s).monitor = s.monitor ∧
      (closeEntry e r x y n s).capstan = s.capstan ∧ (closeEntry e r x y n s).store = s.store ∧
      (closeEntry e r x y n s).inReset = s.inReset ∧ (closeEntry e r x y n s).pending = s.pending := by
  unfold closeEntry
  split <;> simp

@[simp] theorem activePosition_frame (s : State) :
    (activePosition s).tracker = s.tracker ∧ (activePosition s).marks = s.marks ∧
      (activePosition s).motion = s.motion ∧ (activePosition s).servo = s.servo ∧
      (activePosition s).scanner = s.scanner ∧ (activePosition s).monitor = s.monitor ∧
      (activePosition s).capstan = s.capstan ∧ (activePosition s).store = s.store ∧
      (activePosition s).inReset = s.inReset ∧ (activePosition s).pending = s.pending := by
  unfold activePosition
  (repeat' split) <;> simp

@[simp] theorem activeEdge_frame (b : Nat) (s : State) :
    (activeEdge b s).tracker = s.tracker ∧ (activeEdge b s).marks = s.marks ∧ (activeEdge b s).motion = s.motion ∧
      (activeEdge b s).servo = s.servo ∧ (activeEdge b s).scanner = s.scanner ∧
      (activeEdge b s).monitor = s.monitor ∧ (activeEdge b s).capstan = s.capstan ∧
      (activeEdge b s).store = s.store ∧ (activeEdge b s).inReset = s.inReset ∧
      (activeEdge b s).pending = s.pending := by
  unfold activeEdge
  (repeat' split) <;> simp

@[simp] theorem closeManual_frame (n : Nat) (s : State) :
    (closeManual n s).tracker = s.tracker ∧ (closeManual n s).marks = s.marks ∧
      (closeManual n s).motion = s.motion ∧ (closeManual n s).servo = s.servo ∧
      (closeManual n s).scanner = s.scanner ∧ (closeManual n s).monitor = s.monitor ∧
      (closeManual n s).capstan = s.capstan ∧ (closeManual n s).store = s.store ∧ (closeManual n s).link = s.link ∧
      (closeManual n s).inReset = s.inReset ∧ (closeManual n s).pending = s.pending := by
  simp [closeManual]

@[simp] theorem manualPosition_frame (s : State) :
    (manualPosition s).tracker = s.tracker ∧ (manualPosition s).marks = s.marks ∧
      (manualPosition s).motion = s.motion ∧ (manualPosition s).servo = s.servo ∧
      (manualPosition s).scanner = s.scanner ∧ (manualPosition s).monitor = s.monitor ∧
      (manualPosition s).capstan = s.capstan ∧ (manualPosition s).store = s.store ∧
      (manualPosition s).link = s.link ∧ (manualPosition s).inReset = s.inReset ∧
      (manualPosition s).pending = s.pending := by
  unfold manualPosition
  (repeat' split) <;> simp

@[simp] theorem manualEdge_frame (b : Nat) (s : State) :
    (manualEdge b s).tracker = s.tracker ∧ (manualEdge b s).marks = s.marks ∧ (manualEdge b s).motion = s.motion ∧
      (manualEdge b s).servo = s.servo ∧ (manualEdge b s).scanner = s.scanner ∧
      (manualEdge b s).monitor = s.monitor ∧ (manualEdge b s).capstan = s.capstan ∧
      (manualEdge b s).store = s.store ∧ (manualEdge b s).link = s.link ∧ (manualEdge b s).inReset = s.inReset ∧
      (manualEdge b s).pending = s.pending := by
  unfold manualEdge
  (repeat' split) <;> simp

@[simp] theorem positionTest_frame (s : State) :
    (positionTest s).tracker = s.tracker ∧ (positionTest s).marks = s.marks ∧ (positionTest s).motion = s.motion ∧
      (positionTest s).servo = s.servo ∧ (positionTest s).scanner = s.scanner ∧
      (positionTest s).monitor = s.monitor ∧ (positionTest s).capstan = s.capstan ∧
      (positionTest s).store = s.store ∧ (positionTest s).inReset = s.inReset ∧
      (positionTest s).pending = s.pending := by
  unfold positionTest
  split <;> simp

@[simp] theorem blockEdge_frame (b : Nat) (s : State) :
    (blockEdge b s).tracker = s.tracker ∧ (blockEdge b s).marks = s.marks ∧ (blockEdge b s).motion = s.motion ∧
      (blockEdge b s).servo = s.servo ∧ (blockEdge b s).scanner = s.scanner ∧ (blockEdge b s).monitor = s.monitor ∧
      (blockEdge b s).capstan = s.capstan ∧ (blockEdge b s).store = s.store ∧ (blockEdge b s).inReset = s.inReset ∧
      (blockEdge b s).pending = s.pending := by
  unfold blockEdge
  split <;> simp

@[simp] theorem clearPunch_frame (s : State) :
    (clearPunch s).tracker = s.tracker ∧ (clearPunch s).marks = s.marks ∧ (clearPunch s).motion = s.motion ∧
      (clearPunch s).servo = s.servo ∧ (clearPunch s).scanner = s.scanner ∧ (clearPunch s).monitor = s.monitor ∧
      (clearPunch s).capstan = s.capstan ∧ (clearPunch s).store = s.store ∧ (clearPunch s).link = s.link ∧
      (clearPunch s).inReset = s.inReset ∧ (clearPunch s).pending = s.pending := by
  simp [clearPunch]

/-! ## Transport -/

@[simp] theorem leaveRun_frame (s : State) :
    (leaveRun s).tracker = s.tracker ∧ (leaveRun s).marks = s.marks ∧ (leaveRun s).motion = s.motion ∧
      (leaveRun s).servo = s.servo ∧ (leaveRun s).scanner = s.scanner ∧ (leaveRun s).monitor = s.monitor ∧
      (leaveRun s).store = s.store ∧ (leaveRun s).inReset = s.inReset ∧ (leaveRun s).pending = s.pending := by
  simp [leaveRun]

@[simp] theorem enterRun_frame (s : State) :
    (enterRun s).tracker = s.tracker ∧ (enterRun s).marks = s.marks ∧ (enterRun s).motion = s.motion ∧
      (enterRun s).servo = s.servo ∧ (enterRun s).scanner = s.scanner ∧ (enterRun s).monitor = s.monitor ∧
      (enterRun s).store = s.store ∧ (enterRun s).link = s.link ∧ (enterRun s).inReset = s.inReset ∧
      (enterRun s).pending = s.pending := by
  simp [enterRun]

@[simp] theorem enterMode_frame (m : Mode) (s : State) :
    (enterMode m s).tracker = s.tracker ∧ (enterMode m s).marks = s.marks ∧ (enterMode m s).scanner = s.scanner ∧
      (enterMode m s).monitor = s.monitor ∧ (enterMode m s).store = s.store ∧ (enterMode m s).inReset = s.inReset ∧
      (enterMode m s).pending = s.pending := by
  simp only [enterMode]
  split_ifs <;> simp

@[simp] theorem enterStoppedFull_frame (s : State) :
    (enterStoppedFull s).tracker = s.tracker ∧ (enterStoppedFull s).marks = s.marks ∧
      (enterStoppedFull s).scanner = s.scanner ∧ (enterStoppedFull s).monitor = s.monitor ∧
      (enterStoppedFull s).store = s.store ∧ (enterStoppedFull s).inReset = s.inReset ∧
      (enterStoppedFull s).pending = s.pending := by
  simp [enterStoppedFull]

@[simp] theorem enterStopping_frame (k : StopKind) (s : State) :
    (enterStopping k s).tracker = s.tracker ∧ (enterStopping k s).marks = s.marks ∧
      (enterStopping k s).scanner = s.scanner ∧ (enterStopping k s).monitor = s.monitor ∧
      (enterStopping k s).store = s.store ∧ (enterStopping k s).inReset = s.inReset ∧
      (enterStopping k s).pending = s.pending := by
  simp [enterStopping]

@[simp] theorem enterReleasing_frame (s : State) :
    (enterReleasing s).tracker = s.tracker ∧ (enterReleasing s).marks = s.marks ∧
      (enterReleasing s).scanner = s.scanner ∧ (enterReleasing s).monitor = s.monitor ∧
      (enterReleasing s).store = s.store ∧ (enterReleasing s).inReset = s.inReset ∧
      (enterReleasing s).pending = s.pending := by
  simp [enterReleasing]

@[simp] theorem enterReleased_frame (s : State) :
    (enterReleased s).tracker = s.tracker ∧ (enterReleased s).marks = s.marks ∧
      (enterReleased s).scanner = s.scanner ∧ (enterReleased s).monitor = s.monitor ∧
      (enterReleased s).store = s.store ∧ (enterReleased s).inReset = s.inReset ∧
      (enterReleased s).pending = s.pending := by
  simp [enterReleased]

@[simp] theorem enterPlay_frame (s : State) :
    (enterPlay s).tracker = s.tracker ∧ (enterPlay s).marks = s.marks ∧ (enterPlay s).scanner = s.scanner ∧
      (enterPlay s).monitor = s.monitor ∧ (enterPlay s).store = s.store ∧ (enterPlay s).inReset = s.inReset ∧
      (enterPlay s).pending = s.pending := by
  simp [enterPlay]

@[simp] theorem writeResult_frame (r : LocEnd) (c : LocCtx) (s : State) :
    (writeResult r c s).tracker = s.tracker ∧ (writeResult r c s).marks = s.marks ∧
      (writeResult r c s).servo = s.servo ∧ (writeResult r c s).scanner = s.scanner ∧
      (writeResult r c s).monitor = s.monitor ∧ (writeResult r c s).capstan = s.capstan ∧
      (writeResult r c s).punch = s.punch ∧ (writeResult r c s).store = s.store ∧
      (writeResult r c s).inReset = s.inReset ∧ (writeResult r c s).pending = s.pending := by
  simp [writeResult]

@[simp] theorem endLocate_frame (r : LocEnd) (s : State) :
    (endLocate r s).tracker = s.tracker ∧ (endLocate r s).marks = s.marks ∧ (endLocate r s).servo = s.servo ∧
      (endLocate r s).scanner = s.scanner ∧ (endLocate r s).monitor = s.monitor ∧
      (endLocate r s).capstan = s.capstan ∧ (endLocate r s).punch = s.punch ∧ (endLocate r s).store = s.store ∧
      (endLocate r s).inReset = s.inReset ∧ (endLocate r s).pending = s.pending := by
  unfold endLocate
  split <;> simp

@[simp] theorem dropHeld_frame (r : LocEnd) (s : State) :
    (dropHeld r s).tracker = s.tracker ∧ (dropHeld r s).marks = s.marks ∧ (dropHeld r s).servo = s.servo ∧
      (dropHeld r s).scanner = s.scanner ∧ (dropHeld r s).monitor = s.monitor ∧ (dropHeld r s).capstan = s.capstan ∧
      (dropHeld r s).punch = s.punch ∧ (dropHeld r s).store = s.store ∧ (dropHeld r s).inReset = s.inReset ∧
      (dropHeld r s).pending = s.pending := by
  unfold dropHeld
  split <;> simp

@[simp] theorem setLoc_frame (c : LocCtx) (s : State) :
    (setLoc c s).tracker = s.tracker ∧ (setLoc c s).marks = s.marks ∧ (setLoc c s).servo = s.servo ∧
      (setLoc c s).scanner = s.scanner ∧ (setLoc c s).monitor = s.monitor ∧ (setLoc c s).capstan = s.capstan ∧
      (setLoc c s).punch = s.punch ∧ (setLoc c s).store = s.store ∧ (setLoc c s).link = s.link ∧
      (setLoc c s).inReset = s.inReset ∧ (setLoc c s).pending = s.pending := by
  simp [setLoc]

@[simp] theorem toLocateRun_frame (c : LocCtx) (s : State) :
    (toLocateRun c s).tracker = s.tracker ∧ (toLocateRun c s).marks = s.marks ∧
      (toLocateRun c s).scanner = s.scanner ∧ (toLocateRun c s).monitor = s.monitor ∧
      (toLocateRun c s).store = s.store ∧ (toLocateRun c s).inReset = s.inReset ∧
      (toLocateRun c s).pending = s.pending := by
  simp [toLocateRun]

@[simp] theorem toApproach_frame (c : LocCtx) (s : State) :
    (toApproach c s).tracker = s.tracker ∧ (toApproach c s).marks = s.marks ∧
      (toApproach c s).scanner = s.scanner ∧ (toApproach c s).monitor = s.monitor ∧
      (toApproach c s).store = s.store ∧ (toApproach c s).inReset = s.inReset ∧
      (toApproach c s).pending = s.pending := by
  simp [toApproach]

@[simp] theorem judgeTarget_frame (c : LocCtx) (s : State) :
    (judgeTarget c s).tracker = s.tracker ∧ (judgeTarget c s).marks = s.marks ∧
      (judgeTarget c s).scanner = s.scanner ∧ (judgeTarget c s).monitor = s.monitor ∧
      (judgeTarget c s).store = s.store ∧ (judgeTarget c s).inReset = s.inReset ∧
      (judgeTarget c s).pending = s.pending := by
  simp only [judgeTarget]
  (repeat' split) <;> simp

@[simp] theorem reportToLocate_frame (r : Report) (s : State) :
    (reportToLocate r s).tracker = s.tracker ∧ (reportToLocate r s).marks = s.marks ∧
      (reportToLocate r s).scanner = s.scanner ∧ (reportToLocate r s).monitor = s.monitor ∧
      (reportToLocate r s).store = s.store ∧ (reportToLocate r s).inReset = s.inReset ∧
      (reportToLocate r s).pending = s.pending := by
  unfold reportToLocate
  (repeat' split) <;> simp

@[simp] theorem reportToHeld_frame (r : Report) (s : State) :
    (reportToHeld r s).tracker = s.tracker ∧ (reportToHeld r s).marks = s.marks ∧
      (reportToHeld r s).servo = s.servo ∧ (reportToHeld r s).scanner = s.scanner ∧
      (reportToHeld r s).monitor = s.monitor ∧ (reportToHeld r s).capstan = s.capstan ∧
      (reportToHeld r s).punch = s.punch ∧ (reportToHeld r s).store = s.store ∧
      (reportToHeld r s).inReset = s.inReset ∧ (reportToHeld r s).pending = s.pending := by
  unfold reportToHeld
  (repeat' split) <;> simp

@[simp] theorem reportToMotion_frame (s : State) (r : Report) :
    (reportToMotion s r).tracker = s.tracker ∧ (reportToMotion s r).marks = s.marks ∧
      (reportToMotion s r).scanner = s.scanner ∧ (reportToMotion s r).monitor = s.monitor ∧
      (reportToMotion s r).store = s.store ∧ (reportToMotion s r).inReset = s.inReset ∧
      (reportToMotion s r).pending = s.pending := by
  simp [reportToMotion]

@[simp] theorem foldl_reportToMotion_frame (l : List Report) (s : State) :
    (l.foldl reportToMotion s).tracker = s.tracker ∧ (l.foldl reportToMotion s).marks = s.marks ∧
      (l.foldl reportToMotion s).scanner = s.scanner ∧ (l.foldl reportToMotion s).monitor = s.monitor ∧
      (l.foldl reportToMotion s).store = s.store ∧ (l.foldl reportToMotion s).inReset = s.inReset ∧
      (l.foldl reportToMotion s).pending = s.pending := by
  induction l generalizing s with
  | nil => simp
  | cons x l ih => simp [ih]

@[simp] theorem identifyTarget_frame (s : State) :
    (identifyTarget s).tracker = s.tracker ∧ (identifyTarget s).marks = s.marks ∧
      (identifyTarget s).scanner = s.scanner ∧ (identifyTarget s).monitor = s.monitor ∧
      (identifyTarget s).store = s.store ∧ (identifyTarget s).inReset = s.inReset ∧
      (identifyTarget s).pending = s.pending := by
  simp only [identifyTarget]
  (repeat' split) <;> simp

@[simp] theorem safeStop_frame (s : State) :
    (safeStop s).tracker = s.tracker ∧ (safeStop s).marks = s.marks ∧ (safeStop s).scanner = s.scanner ∧
      (safeStop s).monitor = s.monitor ∧ (safeStop s).store = s.store ∧ (safeStop s).inReset = s.inReset ∧
      (safeStop s).pending = s.pending := by
  unfold safeStop
  split <;> simp

@[simp] theorem releaseOrder_frame (s : State) :
    (releaseOrder s).tracker = s.tracker ∧ (releaseOrder s).marks = s.marks ∧
      (releaseOrder s).scanner = s.scanner ∧ (releaseOrder s).monitor = s.monitor ∧
      (releaseOrder s).store = s.store ∧ (releaseOrder s).inReset = s.inReset ∧
      (releaseOrder s).pending = s.pending := by
  unfold releaseOrder
  split <;> simp

@[simp] theorem haltOrder_frame (s : State) :
    (haltOrder s).tracker = s.tracker ∧ (haltOrder s).marks = s.marks ∧ (haltOrder s).scanner = s.scanner ∧
      (haltOrder s).monitor = s.monitor ∧ (haltOrder s).store = s.store ∧ (haltOrder s).inReset = s.inReset ∧
      (haltOrder s).pending = s.pending := by
  unfold haltOrder
  split <;> simp

/-! ## Marks -/

@[simp] theorem reportToPunch_frame (l : List Report) (s : State) :
    (reportToPunch l s).tracker = s.tracker ∧ (reportToPunch l s).marks = s.marks ∧
      (reportToPunch l s).motion = s.motion ∧ (reportToPunch l s).servo = s.servo ∧
      (reportToPunch l s).scanner = s.scanner ∧ (reportToPunch l s).monitor = s.monitor ∧
      (reportToPunch l s).capstan = s.capstan ∧ (reportToPunch l s).store = s.store ∧
      (reportToPunch l s).inReset = s.inReset ∧ (reportToPunch l s).pending = s.pending := by
  simp [reportToPunch]

@[simp] theorem deliver_frame (l : List Report) (s : State) :
    (deliver l s).tracker = s.tracker ∧ (deliver l s).marks = s.marks ∧ (deliver l s).scanner = s.scanner ∧
      (deliver l s).monitor = s.monitor ∧ (deliver l s).store = s.store ∧ (deliver l s).inReset = s.inReset ∧
      (deliver l s).pending = s.pending := by
  unfold deliver
  split <;> simp

@[simp] theorem setMark_frame (n : Nat) (m : Mark) (s : State) :
    (setMark n m s).tracker = s.tracker ∧ (setMark n m s).motion = s.motion ∧ (setMark n m s).servo = s.servo ∧
      (setMark n m s).scanner = s.scanner ∧ (setMark n m s).monitor = s.monitor ∧
      (setMark n m s).capstan = s.capstan ∧ (setMark n m s).punch = s.punch ∧ (setMark n m s).store = s.store ∧
      (setMark n m s).link = s.link ∧ (setMark n m s).inReset = s.inReset ∧ (setMark n m s).pending = s.pending := by
  simp [setMark]

@[simp] theorem clearPartner_frame (n : Nat) (s : State) :
    (clearPartner n s).tracker = s.tracker ∧ (clearPartner n s).motion = s.motion ∧
      (clearPartner n s).servo = s.servo ∧ (clearPartner n s).scanner = s.scanner ∧
      (clearPartner n s).monitor = s.monitor ∧ (clearPartner n s).capstan = s.capstan ∧
      (clearPartner n s).punch = s.punch ∧ (clearPartner n s).store = s.store ∧ (clearPartner n s).link = s.link ∧
      (clearPartner n s).inReset = s.inReset ∧ (clearPartner n s).pending = s.pending := by
  unfold clearPartner
  split <;> simp

@[simp] theorem unlink_frame (n : Nat) (s : State) :
    (unlink n s).tracker = s.tracker ∧ (unlink n s).motion = s.motion ∧ (unlink n s).servo = s.servo ∧
      (unlink n s).scanner = s.scanner ∧ (unlink n s).monitor = s.monitor ∧ (unlink n s).capstan = s.capstan ∧
      (unlink n s).punch = s.punch ∧ (unlink n s).store = s.store ∧ (unlink n s).link = s.link ∧
      (unlink n s).inReset = s.inReset ∧ (unlink n s).pending = s.pending := by
  unfold unlink
  split <;> simp

@[simp] theorem freeSlot_frame (n : Nat) (s : State) :
    (freeSlot n s).tracker = s.tracker ∧ (freeSlot n s).motion = s.motion ∧ (freeSlot n s).servo = s.servo ∧
      (freeSlot n s).scanner = s.scanner ∧ (freeSlot n s).monitor = s.monitor ∧ (freeSlot n s).capstan = s.capstan ∧
      (freeSlot n s).punch = s.punch ∧ (freeSlot n s).store = s.store ∧ (freeSlot n s).link = s.link ∧
      (freeSlot n s).inReset = s.inReset ∧ (freeSlot n s).pending = s.pending := by
  simp [freeSlot]

@[simp] theorem foldl_freeSlot_frame (l : List Nat) (s : State) :
    (l.foldl (fun s n => freeSlot n s) s).tracker = s.tracker ∧
      (l.foldl (fun s n => freeSlot n s) s).motion = s.motion ∧
      (l.foldl (fun s n => freeSlot n s) s).servo = s.servo ∧
      (l.foldl (fun s n => freeSlot n s) s).scanner = s.scanner ∧
      (l.foldl (fun s n => freeSlot n s) s).monitor = s.monitor ∧
      (l.foldl (fun s n => freeSlot n s) s).capstan = s.capstan ∧
      (l.foldl (fun s n => freeSlot n s) s).punch = s.punch ∧
      (l.foldl (fun s n => freeSlot n s) s).store = s.store ∧ (l.foldl (fun s n => freeSlot n s) s).link = s.link ∧
      (l.foldl (fun s n => freeSlot n s) s).inReset = s.inReset ∧
      (l.foldl (fun s n => freeSlot n s) s).pending = s.pending := by
  induction l generalizing s with
  | nil => simp
  | cons x l ih => simp [ih]

@[simp] theorem retireOne_frame (r : State × List Report) (n : Nat) :
    (retireOne r n).1.tracker = r.1.tracker ∧ (retireOne r n).1.motion = r.1.motion ∧
      (retireOne r n).1.servo = r.1.servo ∧ (retireOne r n).1.scanner = r.1.scanner ∧
      (retireOne r n).1.monitor = r.1.monitor ∧ (retireOne r n).1.capstan = r.1.capstan ∧
      (retireOne r n).1.punch = r.1.punch ∧ (retireOne r n).1.store = r.1.store ∧
      (retireOne r n).1.link = r.1.link ∧ (retireOne r n).1.inReset = r.1.inReset ∧
      (retireOne r n).1.pending = r.1.pending := by
  simp [retireOne]

@[simp] theorem foldl_retireOne_frame (l : List Nat) (r : State × List Report) :
    (l.foldl retireOne r).1.tracker = r.1.tracker ∧ (l.foldl retireOne r).1.motion = r.1.motion ∧
      (l.foldl retireOne r).1.servo = r.1.servo ∧ (l.foldl retireOne r).1.scanner = r.1.scanner ∧
      (l.foldl retireOne r).1.monitor = r.1.monitor ∧ (l.foldl retireOne r).1.capstan = r.1.capstan ∧
      (l.foldl retireOne r).1.punch = r.1.punch ∧ (l.foldl retireOne r).1.store = r.1.store ∧
      (l.foldl retireOne r).1.link = r.1.link ∧ (l.foldl retireOne r).1.inReset = r.1.inReset ∧
      (l.foldl retireOne r).1.pending = r.1.pending := by
  induction l generalizing r with
  | nil => simp
  | cons x l ih => simp [ih]

@[simp] theorem retireMarks_frame (ns : List Nat) (s : State) :
    (retireMarks ns s).tracker = s.tracker ∧ (retireMarks ns s).scanner = s.scanner ∧
      (retireMarks ns s).monitor = s.monitor ∧ (retireMarks ns s).store = s.store ∧
      (retireMarks ns s).inReset = s.inReset ∧ (retireMarks ns s).pending = s.pending := by
  simp [retireMarks]

@[simp] theorem breakPair_frame (r : State × List Report) (n : Nat) :
    (breakPair r n).1.tracker = r.1.tracker ∧ (breakPair r n).1.motion = r.1.motion ∧
      (breakPair r n).1.servo = r.1.servo ∧ (breakPair r n).1.scanner = r.1.scanner ∧
      (breakPair r n).1.monitor = r.1.monitor ∧ (breakPair r n).1.capstan = r.1.capstan ∧
      (breakPair r n).1.punch = r.1.punch ∧ (breakPair r n).1.store = r.1.store ∧
      (breakPair r n).1.link = r.1.link ∧ (breakPair r n).1.inReset = r.1.inReset ∧
      (breakPair r n).1.pending = r.1.pending := by
  unfold breakPair
  (repeat' split) <;> simp

@[simp] theorem foldl_breakPair_frame (l : List Nat) (r : State × List Report) :
    (l.foldl breakPair r).1.tracker = r.1.tracker ∧ (l.foldl breakPair r).1.motion = r.1.motion ∧
      (l.foldl breakPair r).1.servo = r.1.servo ∧ (l.foldl breakPair r).1.scanner = r.1.scanner ∧
      (l.foldl breakPair r).1.monitor = r.1.monitor ∧ (l.foldl breakPair r).1.capstan = r.1.capstan ∧
      (l.foldl breakPair r).1.punch = r.1.punch ∧ (l.foldl breakPair r).1.store = r.1.store ∧
      (l.foldl breakPair r).1.link = r.1.link ∧ (l.foldl breakPair r).1.inReset = r.1.inReset ∧
      (l.foldl breakPair r).1.pending = r.1.pending := by
  induction l generalizing r with
  | nil => simp
  | cons x l ih => simp [ih]

@[simp] theorem settlePairs_frame (l : List Nat) (r : List Report) (s : State) :
    (settlePairs l r s).tracker = s.tracker ∧ (settlePairs l r s).scanner = s.scanner ∧
      (settlePairs l r s).monitor = s.monitor ∧ (settlePairs l r s).store = s.store ∧
      (settlePairs l r s).inReset = s.inReset ∧ (settlePairs l r s).pending = s.pending := by
  simp [settlePairs]

@[simp] theorem captureReturn_frame (s : State) :
    (captureReturn s).tracker = s.tracker ∧ (captureReturn s).scanner = s.scanner ∧
      (captureReturn s).monitor = s.monitor ∧ (captureReturn s).store = s.store ∧
      (captureReturn s).inReset = s.inReset ∧ (captureReturn s).pending = s.pending := by
  unfold captureReturn
  split <;> simp

@[simp] theorem writeMark_frame (n : Nat) (m : Mark) (s : State) :
    (writeMark n m s).tracker = s.tracker ∧ (writeMark n m s).scanner = s.scanner ∧
      (writeMark n m s).monitor = s.monitor ∧ (writeMark n m s).store = s.store ∧
      (writeMark n m s).inReset = s.inReset ∧ (writeMark n m s).pending = s.pending := by
  unfold writeMark
  split <;> simp

@[simp] theorem linkMarks_frame (a b : Nat) (x y : Mark) (s : State) :
    (linkMarks a b x y s).tracker = s.tracker ∧ (linkMarks a b x y s).scanner = s.scanner ∧
      (linkMarks a b x y s).monitor = s.monitor ∧ (linkMarks a b x y s).store = s.store ∧
      (linkMarks a b x y s).inReset = s.inReset ∧ (linkMarks a b x y s).pending = s.pending := by
  simp [linkMarks]

@[simp] theorem reevaluate_frame (s : State) :
    (reevaluate s).tracker = s.tracker ∧ (reevaluate s).scanner = s.scanner ∧ (reevaluate s).monitor = s.monitor ∧
      (reevaluate s).store = s.store ∧ (reevaluate s).inReset = s.inReset ∧ (reevaluate s).pending = s.pending := by
  simp [reevaluate]

@[simp] theorem claim_frame (t : Nat) (s : State) :
    (claim t s).tracker = s.tracker ∧ (claim t s).scanner = s.scanner ∧ (claim t s).monitor = s.monitor ∧
      (claim t s).store = s.store ∧ (claim t s).inReset = s.inReset ∧ (claim t s).pending = s.pending := by
  simp [claim]

@[simp] theorem unthreadMarks_frame (s : State) :
    (unthreadMarks s).tracker = s.tracker ∧ (unthreadMarks s).motion = s.motion ∧
      (unthreadMarks s).servo = s.servo ∧ (unthreadMarks s).scanner = s.scanner ∧
      (unthreadMarks s).monitor = s.monitor ∧ (unthreadMarks s).capstan = s.capstan ∧
      (unthreadMarks s).punch = s.punch ∧ (unthreadMarks s).store = s.store ∧
      (unthreadMarks s).inReset = s.inReset ∧ (unthreadMarks s).pending = s.pending := by
  simp [unthreadMarks]

/-! ## Faults -/

@[simp] theorem recordFault_frame (c : Cause) (s : State) :
    (recordFault c s).tracker = s.tracker ∧ (recordFault c s).marks = s.marks ∧
      (recordFault c s).motion = s.motion ∧ (recordFault c s).servo = s.servo ∧
      (recordFault c s).scanner = s.scanner ∧ (recordFault c s).capstan = s.capstan ∧
      (recordFault c s).punch = s.punch ∧ (recordFault c s).store = s.store ∧
      (recordFault c s).inReset = s.inReset ∧ (recordFault c s).pending = s.pending := by
  unfold recordFault
  split <;> simp

@[simp] theorem giveOrder_frame (c : FaultClass) (s : State) :
    (giveOrder c s).tracker = s.tracker ∧ (giveOrder c s).marks = s.marks ∧ (giveOrder c s).scanner = s.scanner ∧
      (giveOrder c s).monitor = s.monitor ∧ (giveOrder c s).store = s.store ∧ (giveOrder c s).inReset = s.inReset ∧
      (giveOrder c s).pending = s.pending := by
  unfold giveOrder
  split <;> simp

@[simp] theorem faultReport_frame (c : Cause) (s : State) :
    (faultReport c s).tracker = s.tracker ∧ (faultReport c s).marks = s.marks ∧
      (faultReport c s).scanner = s.scanner ∧ (faultReport c s).store = s.store ∧
      (faultReport c s).inReset = s.inReset ∧ (faultReport c s).pending = s.pending := by
  simp [faultReport]

@[simp] theorem reportIf_frame (b : Bool) (c : Cause) (s : State) :
    (reportIf b c s).tracker = s.tracker ∧ (reportIf b c s).marks = s.marks ∧
      (reportIf b c s).scanner = s.scanner ∧ (reportIf b c s).store = s.store ∧
      (reportIf b c s).inReset = s.inReset ∧ (reportIf b c s).pending = s.pending := by
  unfold reportIf
  split <;> simp

/-! ## Servo -/

@[simp] theorem servoRoller_frame (d : Dir) (s : State) :
    (servoRoller d s).tracker = s.tracker ∧ (servoRoller d s).marks = s.marks ∧
      (servoRoller d s).motion = s.motion ∧ (servoRoller d s).scanner = s.scanner ∧
      (servoRoller d s).monitor = s.monitor ∧ (servoRoller d s).capstan = s.capstan ∧
      (servoRoller d s).punch = s.punch ∧ (servoRoller d s).store = s.store ∧ (servoRoller d s).link = s.link ∧
      (servoRoller d s).inReset = s.inReset ∧ (servoRoller d s).pending = s.pending := by
  simp [servoRoller]

@[simp] theorem tachometer_frame (r : Reel) (d : Dir) (s : State) :
    (tachometer r d s).tracker = s.tracker ∧ (tachometer r d s).marks = s.marks ∧
      (tachometer r d s).motion = s.motion ∧ (tachometer r d s).scanner = s.scanner ∧
      (tachometer r d s).monitor = s.monitor ∧ (tachometer r d s).capstan = s.capstan ∧
      (tachometer r d s).punch = s.punch ∧ (tachometer r d s).store = s.store ∧ (tachometer r d s).link = s.link ∧
      (tachometer r d s).inReset = s.inReset ∧ (tachometer r d s).pending = s.pending := by
  simp [tachometer]

@[simp] theorem measureSpeed_frame (s : State) :
    (measureSpeed s).tracker = s.tracker ∧ (measureSpeed s).marks = s.marks ∧ (measureSpeed s).motion = s.motion ∧
      (measureSpeed s).scanner = s.scanner ∧ (measureSpeed s).monitor = s.monitor ∧
      (measureSpeed s).capstan = s.capstan ∧ (measureSpeed s).punch = s.punch ∧ (measureSpeed s).store = s.store ∧
      (measureSpeed s).link = s.link ∧ (measureSpeed s).inReset = s.inReset ∧ (measureSpeed s).pending = s.pending := by
  simp [measureSpeed]

@[simp] theorem restartWindow_frame (s : State) :
    (restartWindow s).tracker = s.tracker ∧ (restartWindow s).marks = s.marks ∧
      (restartWindow s).motion = s.motion ∧ (restartWindow s).scanner = s.scanner ∧
      (restartWindow s).monitor = s.monitor ∧ (restartWindow s).capstan = s.capstan ∧
      (restartWindow s).punch = s.punch ∧ (restartWindow s).store = s.store ∧ (restartWindow s).link = s.link ∧
      (restartWindow s).inReset = s.inReset ∧ (restartWindow s).pending = s.pending := by
  simp [restartWindow]

@[simp] theorem midpointRadii_frame (p : Profile) (s : State) :
    (midpointRadii p s).tracker = s.tracker ∧ (midpointRadii p s).marks = s.marks ∧
      (midpointRadii p s).motion = s.motion ∧ (midpointRadii p s).scanner = s.scanner ∧
      (midpointRadii p s).monitor = s.monitor ∧ (midpointRadii p s).capstan = s.capstan ∧
      (midpointRadii p s).punch = s.punch ∧ (midpointRadii p s).store = s.store ∧
      (midpointRadii p s).link = s.link ∧ (midpointRadii p s).inReset = s.inReset ∧
      (midpointRadii p s).pending = s.pending := by
  simp [midpointRadii]

@[simp] theorem formRadii_frame (s : State) :
    (formRadii s).tracker = s.tracker ∧ (formRadii s).marks = s.marks ∧ (formRadii s).motion = s.motion ∧
      (formRadii s).scanner = s.scanner ∧ (formRadii s).monitor = s.monitor ∧ (formRadii s).capstan = s.capstan ∧
      (formRadii s).punch = s.punch ∧ (formRadii s).store = s.store ∧ (formRadii s).link = s.link ∧
      (formRadii s).inReset = s.inReset ∧ (formRadii s).pending = s.pending := by
  simp [formRadii]

@[simp] theorem radiusStep_frame (s : State) :
    (radiusStep s).tracker = s.tracker ∧ (radiusStep s).marks = s.marks ∧ (radiusStep s).motion = s.motion ∧
      (radiusStep s).scanner = s.scanner ∧ (radiusStep s).monitor = s.monitor ∧ (radiusStep s).capstan = s.capstan ∧
      (radiusStep s).punch = s.punch ∧ (radiusStep s).store = s.store ∧ (radiusStep s).link = s.link ∧
      (radiusStep s).inReset = s.inReset ∧ (radiusStep s).pending = s.pending := by
  unfold radiusStep
  split <;> simp

@[simp] theorem tensionStep_frame (s : State) :
    (tensionStep s).tracker = s.tracker ∧ (tensionStep s).marks = s.marks ∧ (tensionStep s).motion = s.motion ∧
      (tensionStep s).scanner = s.scanner ∧ (tensionStep s).monitor = s.monitor ∧
      (tensionStep s).capstan = s.capstan ∧ (tensionStep s).punch = s.punch ∧ (tensionStep s).store = s.store ∧
      (tensionStep s).link = s.link ∧ (tensionStep s).inReset = s.inReset ∧ (tensionStep s).pending = s.pending := by
  simp [tensionStep]

@[simp] theorem torqueStep_frame (s : State) :
    (torqueStep s).tracker = s.tracker ∧ (torqueStep s).marks = s.marks ∧ (torqueStep s).motion = s.motion ∧
      (torqueStep s).scanner = s.scanner ∧ (torqueStep s).monitor = s.monitor ∧ (torqueStep s).capstan = s.capstan ∧
      (torqueStep s).punch = s.punch ∧ (torqueStep s).store = s.store ∧ (torqueStep s).link = s.link ∧
      (torqueStep s).inReset = s.inReset ∧ (torqueStep s).pending = s.pending := by
  simp [torqueStep]

@[simp] theorem judged_frame (s : State) :
    (judged s).tracker = s.tracker ∧ (judged s).marks = s.marks ∧ (judged s).motion = s.motion ∧
      (judged s).scanner = s.scanner ∧ (judged s).monitor = s.monitor ∧ (judged s).capstan = s.capstan ∧
      (judged s).punch = s.punch ∧ (judged s).store = s.store ∧ (judged s).link = s.link ∧
      (judged s).inReset = s.inReset ∧ (judged s).pending = s.pending := by
  simp [judged]

@[simp] theorem unjudged_frame (s : State) :
    (unjudged s).tracker = s.tracker ∧ (unjudged s).marks = s.marks ∧ (unjudged s).motion = s.motion ∧
      (unjudged s).scanner = s.scanner ∧ (unjudged s).monitor = s.monitor ∧ (unjudged s).capstan = s.capstan ∧
      (unjudged s).punch = s.punch ∧ (unjudged s).store = s.store ∧ (unjudged s).link = s.link ∧
      (unjudged s).inReset = s.inReset ∧ (unjudged s).pending = s.pending := by
  simp [unjudged]

@[simp] theorem findStops_frame (s : State) :
    (findStops s).tracker = s.tracker ∧ (findStops s).marks = s.marks ∧ (findStops s).motion = s.motion ∧
      (findStops s).scanner = s.scanner ∧ (findStops s).monitor = s.monitor ∧ (findStops s).capstan = s.capstan ∧
      (findStops s).punch = s.punch ∧ (findStops s).store = s.store ∧ (findStops s).link = s.link ∧
      (findStops s).inReset = s.inReset ∧ (findStops s).pending = s.pending := by
  simp [findStops]

@[simp] theorem servoFigures_frame (s : State) :
    (servoFigures s).tracker = s.tracker ∧ (servoFigures s).marks = s.marks ∧ (servoFigures s).motion = s.motion ∧
      (servoFigures s).scanner = s.scanner ∧ (servoFigures s).monitor = s.monitor ∧
      (servoFigures s).capstan = s.capstan ∧ (servoFigures s).punch = s.punch ∧ (servoFigures s).store = s.store ∧
      (servoFigures s).link = s.link ∧ (servoFigures s).inReset = s.inReset ∧ (servoFigures s).pending = s.pending := by
  simp [servoFigures]

@[simp] theorem readyStep_frame (s : State) :
    (readyStep s).tracker = s.tracker ∧ (readyStep s).marks = s.marks ∧ (readyStep s).scanner = s.scanner ∧
      (readyStep s).monitor = s.monitor ∧ (readyStep s).store = s.store ∧ (readyStep s).inReset = s.inReset ∧
      (readyStep s).pending = s.pending := by
  unfold readyStep
  split_ifs <;> simp

@[simp] theorem judgeStep_frame (m : Mode) (s : State) :
    (judgeStep m s).tracker = s.tracker ∧ (judgeStep m s).marks = s.marks ∧ (judgeStep m s).scanner = s.scanner ∧
      (judgeStep m s).store = s.store ∧ (judgeStep m s).inReset = s.inReset ∧ (judgeStep m s).pending = s.pending := by
  unfold judgeStep
  split <;> simp

@[simp] theorem compute_frame (s : State) :
    (compute s).tracker = s.tracker ∧ (compute s).marks = s.marks ∧
      (compute s).scanner = s.scanner ∧ (compute s).store = s.store ∧
      (compute s).inReset = s.inReset ∧ (compute s).pending = s.pending := by
  simp [compute]

/-! ## Scanner -/

@[simp] theorem scanStart_frame (s : State) :
    (scanStart s).tracker = s.tracker ∧ (scanStart s).marks = s.marks ∧ (scanStart s).motion = s.motion ∧
      (scanStart s).servo = s.servo ∧ (scanStart s).monitor = s.monitor ∧ (scanStart s).capstan = s.capstan ∧
      (scanStart s).punch = s.punch ∧ (scanStart s).store = s.store ∧ (scanStart s).link = s.link ∧
      (scanStart s).inReset = s.inReset ∧ (scanStart s).pending = s.pending := by
  simp [scanStart]

@[simp] theorem judgeReel2_frame (v : Int) (s : State) :
    (judgeReel2 v s).tracker = s.tracker ∧ (judgeReel2 v s).marks = s.marks ∧
      (judgeReel2 v s).scanner = s.scanner ∧ (judgeReel2 v s).store = s.store ∧
      (judgeReel2 v s).inReset = s.inReset ∧ (judgeReel2 v s).pending = s.pending := by
  simp [judgeReel2]

@[simp] theorem judgeReel3_frame (v : Int) (s : State) :
    (judgeReel3 v s).tracker = s.tracker ∧ (judgeReel3 v s).marks = s.marks ∧
      (judgeReel3 v s).scanner = s.scanner ∧ (judgeReel3 v s).store = s.store ∧
      (judgeReel3 v s).inReset = s.inReset ∧ (judgeReel3 v s).pending = s.pending := by
  simp [judgeReel3]

@[simp] theorem judgeCapstan_frame (v : Int) (s : State) :
    (judgeCapstan v s).tracker = s.tracker ∧ (judgeCapstan v s).marks = s.marks ∧
      (judgeCapstan v s).scanner = s.scanner ∧ (judgeCapstan v s).store = s.store ∧
      (judgeCapstan v s).inReset = s.inReset ∧ (judgeCapstan v s).pending = s.pending := by
  simp [judgeCapstan]

@[simp] theorem judgeSupply_frame (v : Int) (s : State) :
    (judgeSupply v s).tracker = s.tracker ∧ (judgeSupply v s).marks = s.marks ∧
      (judgeSupply v s).scanner = s.scanner ∧ (judgeSupply v s).store = s.store ∧
      (judgeSupply v s).inReset = s.inReset ∧ (judgeSupply v s).pending = s.pending := by
  simp [judgeSupply]

@[simp] theorem judgeChannel_frame (p c : Nat) (s : State) :
    (judgeChannel p c s).tracker = s.tracker ∧ (judgeChannel p c s).marks = s.marks ∧
      (judgeChannel p c s).scanner = s.scanner ∧ (judgeChannel p c s).store = s.store ∧
      (judgeChannel p c s).inReset = s.inReset ∧ (judgeChannel p c s).pending = s.pending := by
  unfold judgeChannel
  split_ifs <;> simp

@[simp] theorem judgeDue_frame (s : State) :
    (judgeDue s).tracker = s.tracker ∧ (judgeDue s).marks = s.marks ∧ (judgeDue s).scanner = s.scanner ∧
      (judgeDue s).store = s.store ∧ (judgeDue s).inReset = s.inReset ∧ (judgeDue s).pending = s.pending := by
  unfold judgeDue
  split <;> simp

@[simp] theorem writeScan_frame (c : ScanCodes) (s : State) :
    (writeScan c s).tracker = s.tracker ∧ (writeScan c s).marks = s.marks ∧ (writeScan c s).motion = s.motion ∧
      (writeScan c s).servo = s.servo ∧ (writeScan c s).monitor = s.monitor ∧ (writeScan c s).capstan = s.capstan ∧
      (writeScan c s).punch = s.punch ∧ (writeScan c s).store = s.store ∧ (writeScan c s).link = s.link ∧
      (writeScan c s).inReset = s.inReset ∧ (writeScan c s).pending = s.pending := by
  simp [writeScan]

@[simp] theorem scanCompletion_frame (c : ScanCodes) (s : State) :
    (scanCompletion c s).tracker = s.tracker ∧ (scanCompletion c s).marks = s.marks ∧
      (scanCompletion c s).store = s.store ∧ (scanCompletion c s).inReset = s.inReset ∧
      (scanCompletion c s).pending = s.pending := by
  simp only [scanCompletion]
  split <;> simp

@[simp] theorem judgedCompletion_frame (c : ScanCodes) (s : State) :
    (judgedCompletion c s).tracker = s.tracker ∧ (judgedCompletion c s).marks = s.marks ∧
      (judgedCompletion c s).store = s.store ∧ (judgedCompletion c s).inReset = s.inReset ∧
      (judgedCompletion c s).pending = s.pending := by
  simp [judgedCompletion]

@[simp] theorem servoComputation_frame (s : State) :
    (servoComputation s).tracker = s.tracker ∧ (servoComputation s).marks = s.marks ∧
      (servoComputation s).scanner = s.scanner ∧ (servoComputation s).store = s.store ∧
      (servoComputation s).inReset = s.inReset ∧ (servoComputation s).pending = s.pending := by
  simp [servoComputation]

/-! ## Motion -/

@[simp] theorem beginPlay_frame (s : State) :
    (beginPlay s).tracker = s.tracker ∧ (beginPlay s).marks = s.marks ∧ (beginPlay s).scanner = s.scanner ∧
      (beginPlay s).monitor = s.monitor ∧ (beginPlay s).store = s.store ∧ (beginPlay s).inReset = s.inReset ∧
      (beginPlay s).pending = s.pending := by
  simp [beginPlay]

@[simp] theorem beginCue_frame (w : Int) (s : State) :
    (beginCue w s).tracker = s.tracker ∧ (beginCue w s).marks = s.marks ∧ (beginCue w s).scanner = s.scanner ∧
      (beginCue w s).monitor = s.monitor ∧ (beginCue w s).store = s.store ∧ (beginCue w s).inReset = s.inReset ∧
      (beginCue w s).pending = s.pending := by
  simp [beginCue]

@[simp] theorem beginWind_frame (w : Int) (s : State) :
    (beginWind w s).tracker = s.tracker ∧ (beginWind w s).marks = s.marks ∧ (beginWind w s).scanner = s.scanner ∧
      (beginWind w s).monitor = s.monitor ∧ (beginWind w s).store = s.store ∧ (beginWind w s).inReset = s.inReset ∧
      (beginWind w s).pending = s.pending := by
  simp [beginWind]

@[simp] theorem beginLocate_frame (c : LocCtx) (s : State) :
    (beginLocate c s).tracker = s.tracker ∧ (beginLocate c s).marks = s.marks ∧
      (beginLocate c s).scanner = s.scanner ∧ (beginLocate c s).monitor = s.monitor ∧
      (beginLocate c s).store = s.store ∧ (beginLocate c s).inReset = s.inReset ∧
      (beginLocate c s).pending = s.pending := by
  simp [beginLocate]

@[simp] theorem beginHeld_frame (h : Held) (s : State) :
    (beginHeld h s).tracker = s.tracker ∧ (beginHeld h s).marks = s.marks ∧ (beginHeld h s).scanner = s.scanner ∧
      (beginHeld h s).monitor = s.monitor ∧ (beginHeld h s).store = s.store ∧ (beginHeld h s).inReset = s.inReset ∧
      (beginHeld h s).pending = s.pending := by
  unfold beginHeld
  split <;> simp

@[simp] theorem holdRequest_frame (h : Held) (s : State) :
    (holdRequest h s).tracker = s.tracker ∧ (holdRequest h s).marks = s.marks ∧
      (holdRequest h s).scanner = s.scanner ∧ (holdRequest h s).monitor = s.monitor ∧
      (holdRequest h s).store = s.store ∧ (holdRequest h s).inReset = s.inReset ∧
      (holdRequest h s).pending = s.pending := by
  simp only [holdRequest]
  split <;> simp

@[simp] theorem beginEngage_frame (n : Nat) (s : State) :
    (beginEngage n s).tracker = s.tracker ∧ (beginEngage n s).marks = s.marks ∧
      (beginEngage n s).scanner = s.scanner ∧ (beginEngage n s).monitor = s.monitor ∧
      (beginEngage n s).inReset = s.inReset ∧ (beginEngage n s).pending = s.pending := by
  simp [beginEngage]

@[simp] theorem stopEffect_frame (s : State) :
    (stopEffect s).tracker = s.tracker ∧ (stopEffect s).marks = s.marks ∧ (stopEffect s).scanner = s.scanner ∧
      (stopEffect s).monitor = s.monitor ∧ (stopEffect s).store = s.store ∧ (stopEffect s).inReset = s.inReset ∧
      (stopEffect s).pending = s.pending := by
  unfold stopEffect
  split <;> simp

@[simp] theorem startEdge_frame (s : State) :
    (startEdge s).tracker = s.tracker ∧ (startEdge s).scanner = s.scanner ∧ (startEdge s).monitor = s.monitor ∧
      (startEdge s).store = s.store ∧ (startEdge s).inReset = s.inReset ∧ (startEdge s).pending = s.pending := by
  unfold startEdge
  (repeat' split) <;> simp

/-! ## Reference -/

@[simp] theorem restartDivider_frame (s : State) :
    (restartDivider s).tracker = s.tracker ∧ (restartDivider s).marks = s.marks ∧
      (restartDivider s).motion = s.motion ∧ (restartDivider s).servo = s.servo ∧
      (restartDivider s).scanner = s.scanner ∧ (restartDivider s).monitor = s.monitor ∧
      (restartDivider s).punch = s.punch ∧ (restartDivider s).store = s.store ∧ (restartDivider s).link = s.link ∧
      (restartDivider s).inReset = s.inReset ∧ (restartDivider s).pending = s.pending := by
  simp [restartDivider]

@[simp] theorem restartQualification_frame (s : State) :
    (restartQualification s).tracker = s.tracker ∧ (restartQualification s).marks = s.marks ∧
      (restartQualification s).motion = s.motion ∧ (restartQualification s).servo = s.servo ∧
      (restartQualification s).scanner = s.scanner ∧ (restartQualification s).monitor = s.monitor ∧
      (restartQualification s).punch = s.punch ∧ (restartQualification s).store = s.store ∧
      (restartQualification s).link = s.link ∧ (restartQualification s).inReset = s.inReset ∧
      (restartQualification s).pending = s.pending := by
  simp [restartQualification]

@[simp] theorem referenceTurned_frame (s : State) :
    (referenceTurned s).tracker = s.tracker ∧ (referenceTurned s).marks = s.marks ∧
      (referenceTurned s).motion = s.motion ∧ (referenceTurned s).servo = s.servo ∧
      (referenceTurned s).scanner = s.scanner ∧ (referenceTurned s).monitor = s.monitor ∧
      (referenceTurned s).store = s.store ∧ (referenceTurned s).inReset = s.inReset ∧
      (referenceTurned s).pending = s.pending := by
  simp [referenceTurned]

@[simp] theorem moveRefState_frame (r : RefState) (s : State) :
    (moveRefState r s).tracker = s.tracker ∧ (moveRefState r s).marks = s.marks ∧
      (moveRefState r s).motion = s.motion ∧ (moveRefState r s).servo = s.servo ∧
      (moveRefState r s).scanner = s.scanner ∧ (moveRefState r s).monitor = s.monitor ∧
      (moveRefState r s).store = s.store ∧ (moveRefState r s).inReset = s.inReset ∧
      (moveRefState r s).pending = s.pending := by
  unfold moveRefState
  split_ifs <;> simp

@[simp] theorem enterExternal_frame (p : Nat) (t : Count32) (s : State) :
    (enterExternal p t s).tracker = s.tracker ∧ (enterExternal p t s).marks = s.marks ∧
      (enterExternal p t s).motion = s.motion ∧ (enterExternal p t s).servo = s.servo ∧
      (enterExternal p t s).scanner = s.scanner ∧ (enterExternal p t s).monitor = s.monitor ∧
      (enterExternal p t s).store = s.store ∧ (enterExternal p t s).inReset = s.inReset ∧
      (enterExternal p t s).pending = s.pending := by
  simp [enterExternal]

@[simp] theorem referenceEdge_frame (s : State) :
    (referenceEdge s).tracker = s.tracker ∧ (referenceEdge s).marks = s.marks ∧
      (referenceEdge s).motion = s.motion ∧ (referenceEdge s).servo = s.servo ∧
      (referenceEdge s).scanner = s.scanner ∧ (referenceEdge s).monitor = s.monitor ∧
      (referenceEdge s).store = s.store ∧ (referenceEdge s).inReset = s.inReset ∧
      (referenceEdge s).pending = s.pending := by
  unfold referenceEdge
  split_ifs <;> simp

@[simp] theorem internalEdge_frame (s : State) :
    (internalEdge s).tracker = s.tracker ∧ (internalEdge s).marks = s.marks ∧ (internalEdge s).motion = s.motion ∧
      (internalEdge s).servo = s.servo ∧ (internalEdge s).scanner = s.scanner ∧
      (internalEdge s).monitor = s.monitor ∧ (internalEdge s).store = s.store ∧
      (internalEdge s).inReset = s.inReset ∧ (internalEdge s).pending = s.pending := by
  simp only [internalEdge]
  split <;> simp

@[simp] theorem derivedPeriod_frame (p : Nat) (t : Count32) (s : State) :
    (derivedPeriod p t s).tracker = s.tracker ∧ (derivedPeriod p t s).marks = s.marks ∧
      (derivedPeriod p t s).motion = s.motion ∧ (derivedPeriod p t s).servo = s.servo ∧
      (derivedPeriod p t s).scanner = s.scanner ∧ (derivedPeriod p t s).monitor = s.monitor ∧
      (derivedPeriod p t s).store = s.store ∧ (derivedPeriod p t s).inReset = s.inReset ∧
      (derivedPeriod p t s).pending = s.pending := by
  simp only [derivedPeriod]
  split_ifs <;> simp

@[simp] theorem derivedEdge_frame (t : Count32) (s : State) :
    (derivedEdge t s).tracker = s.tracker ∧ (derivedEdge t s).marks = s.marks ∧
      (derivedEdge t s).motion = s.motion ∧ (derivedEdge t s).servo = s.servo ∧
      (derivedEdge t s).scanner = s.scanner ∧ (derivedEdge t s).monitor = s.monitor ∧
      (derivedEdge t s).store = s.store ∧ (derivedEdge t s).inReset = s.inReset ∧
      (derivedEdge t s).pending = s.pending := by
  unfold derivedEdge
  split <;> simp

@[simp] theorem wordClockEdge_frame (t : Count32) (s : State) :
    (wordClockEdge t s).tracker = s.tracker ∧ (wordClockEdge t s).marks = s.marks ∧
      (wordClockEdge t s).motion = s.motion ∧ (wordClockEdge t s).servo = s.servo ∧
      (wordClockEdge t s).scanner = s.scanner ∧ (wordClockEdge t s).monitor = s.monitor ∧
      (wordClockEdge t s).store = s.store ∧ (wordClockEdge t s).inReset = s.inReset ∧
      (wordClockEdge t s).pending = s.pending := by
  simp only [wordClockEdge]
  split_ifs <;> simp

@[simp] theorem silenceTimeout_frame (s : State) :
    (silenceTimeout s).tracker = s.tracker ∧ (silenceTimeout s).marks = s.marks ∧
      (silenceTimeout s).motion = s.motion ∧ (silenceTimeout s).servo = s.servo ∧
      (silenceTimeout s).scanner = s.scanner ∧ (silenceTimeout s).monitor = s.monitor ∧
      (silenceTimeout s).store = s.store ∧ (silenceTimeout s).inReset = s.inReset ∧
      (silenceTimeout s).pending = s.pending := by
  unfold silenceTimeout
  split_ifs <;> simp

@[simp] theorem spbChanged_frame (s : State) :
    (spbChanged s).tracker = s.tracker ∧ (spbChanged s).marks = s.marks ∧ (spbChanged s).motion = s.motion ∧
      (spbChanged s).servo = s.servo ∧ (spbChanged s).scanner = s.scanner ∧ (spbChanged s).monitor = s.monitor ∧
      (spbChanged s).store = s.store ∧ (spbChanged s).inReset = s.inReset ∧ (spbChanged s).pending = s.pending := by
  unfold spbChanged
  split <;> simp

@[simp] theorem phaseEvent_frame (t : Count32) (s : State) :
    (phaseEvent t s).tracker = s.tracker ∧ (phaseEvent t s).marks = s.marks ∧ (phaseEvent t s).motion = s.motion ∧
      (phaseEvent t s).servo = s.servo ∧ (phaseEvent t s).scanner = s.scanner ∧
      (phaseEvent t s).monitor = s.monitor ∧ (phaseEvent t s).store = s.store ∧
      (phaseEvent t s).inReset = s.inReset ∧ (phaseEvent t s).pending = s.pending := by
  simp only [phaseEvent]
  split <;> simp

@[simp] theorem startSample_frame (b : Bool) (s : State) :
    (startSample b s).tracker = s.tracker ∧ (startSample b s).scanner = s.scanner ∧
      (startSample b s).monitor = s.monitor ∧ (startSample b s).store = s.store ∧
      (startSample b s).inReset = s.inReset ∧ (startSample b s).pending = s.pending := by
  unfold startSample
  split_ifs <;> simp

@[simp] theorem selectInternal_frame (s : State) :
    (selectInternal s).tracker = s.tracker ∧ (selectInternal s).marks = s.marks ∧
      (selectInternal s).motion = s.motion ∧ (selectInternal s).servo = s.servo ∧
      (selectInternal s).scanner = s.scanner ∧ (selectInternal s).monitor = s.monitor ∧
      (selectInternal s).store = s.store ∧ (selectInternal s).inReset = s.inReset ∧
      (selectInternal s).pending = s.pending := by
  simp only [selectInternal]
  split <;> simp

@[simp] theorem selectWordClock_frame (s : State) :
    (selectWordClock s).tracker = s.tracker ∧ (selectWordClock s).marks = s.marks ∧
      (selectWordClock s).motion = s.motion ∧ (selectWordClock s).servo = s.servo ∧
      (selectWordClock s).scanner = s.scanner ∧ (selectWordClock s).monitor = s.monitor ∧
      (selectWordClock s).store = s.store ∧ (selectWordClock s).inReset = s.inReset ∧
      (selectWordClock s).pending = s.pending := by
  simp [selectWordClock]

/-! ## Tracker -/

@[simp] theorem rollerCount_frame (d : Dir) (s : State) :
    (rollerCount d s).marks = s.marks ∧ (rollerCount d s).motion = s.motion ∧
      (rollerCount d s).scanner = s.scanner ∧ (rollerCount d s).monitor = s.monitor ∧
      (rollerCount d s).capstan = s.capstan ∧ (rollerCount d s).store = s.store ∧
      (rollerCount d s).inReset = s.inReset ∧ (rollerCount d s).pending = s.pending := by
  simp [rollerCount]

@[simp] theorem rejectRead_frame (s : State) :
    (rejectRead s).marks = s.marks ∧ (rejectRead s).motion = s.motion ∧ (rejectRead s).servo = s.servo ∧
      (rejectRead s).scanner = s.scanner ∧ (rejectRead s).monitor = s.monitor ∧ (rejectRead s).capstan = s.capstan ∧
      (rejectRead s).punch = s.punch ∧ (rejectRead s).store = s.store ∧ (rejectRead s).inReset = s.inReset ∧
      (rejectRead s).pending = s.pending := by
  unfold rejectRead
  split <;> simp

@[simp] theorem handOn_frame (r : TapeRead) (s : State) :
    (handOn r s).tracker = s.tracker ∧ (handOn r s).scanner = s.scanner ∧ (handOn r s).monitor = s.monitor ∧
      (handOn r s).store = s.store ∧ (handOn r s).inReset = s.inReset ∧ (handOn r s).pending = s.pending := by
  simp [handOn]

@[simp] theorem freshRead_frame (r : TapeRead) (s : State) :
    (freshRead r s).scanner = s.scanner ∧ (freshRead r s).monitor = s.monitor ∧ (freshRead r s).store = s.store ∧
      (freshRead r s).inReset = s.inReset ∧ (freshRead r s).pending = s.pending := by
  unfold freshRead
  split <;> simp

@[simp] theorem rebase_frame (r : TapeRead) (s : State) :
    (rebase r s).scanner = s.scanner ∧ (rebase r s).monitor = s.monitor ∧ (rebase r s).store = s.store ∧
      (rebase r s).inReset = s.inReset ∧ (rebase r s).pending = s.pending := by
  simp [rebase]

@[simp] theorem acceptRead_frame (r : TapeRead) (s : State) :
    (acceptRead r s).scanner = s.scanner ∧ (acceptRead r s).monitor = s.monitor ∧
      (acceptRead r s).store = s.store ∧ (acceptRead r s).inReset = s.inReset ∧
      (acceptRead r s).pending = s.pending := by
  simp only [acceptRead]
  (repeat' split) <;> simp

@[simp] theorem adoptReel_frame (i : ReelId) (s : State) :
    (adoptReel i s).scanner = s.scanner ∧ (adoptReel i s).monitor = s.monitor ∧ (adoptReel i s).store = s.store ∧
      (adoptReel i s).inReset = s.inReset ∧ (adoptReel i s).pending = s.pending := by
  simp only [adoptReel]
  split <;> simp

@[simp] theorem identifyRead_frame (r : TapeRead) (s : State) :
    (identifyRead r s).scanner = s.scanner ∧ (identifyRead r s).monitor = s.monitor ∧
      (identifyRead r s).store = s.store ∧ (identifyRead r s).inReset = s.inReset ∧
      (identifyRead r s).pending = s.pending := by
  unfold identifyRead
  split <;> simp

@[simp] theorem addressRead_frame (r : TapeRead) (s : State) :
    (addressRead r s).scanner = s.scanner ∧ (addressRead r s).monitor = s.monitor ∧
      (addressRead r s).store = s.store ∧ (addressRead r s).inReset = s.inReset ∧
      (addressRead r s).pending = s.pending := by
  simp only [addressRead]
  (repeat' split) <;> simp

@[simp] theorem clearTracker_frame (s : State) :
    (clearTracker s).marks = s.marks ∧ (clearTracker s).motion = s.motion ∧ (clearTracker s).servo = s.servo ∧
      (clearTracker s).scanner = s.scanner ∧ (clearTracker s).monitor = s.monitor ∧
      (clearTracker s).store = s.store ∧ (clearTracker s).inReset = s.inReset ∧
      (clearTracker s).pending = s.pending := by
  simp only [clearTracker]
  split <;> simp

/-! ## Store -/

@[simp] theorem writeProfile_frame (n : Nat) (p : Profile) (s : State) :
    (writeProfile n p s).tracker = s.tracker ∧ (writeProfile n p s).marks = s.marks ∧
      (writeProfile n p s).motion = s.motion ∧ (writeProfile n p s).scanner = s.scanner ∧
      (writeProfile n p s).monitor = s.monitor ∧ (writeProfile n p s).capstan = s.capstan ∧
      (writeProfile n p s).punch = s.punch ∧ (writeProfile n p s).link = s.link ∧
      (writeProfile n p s).inReset = s.inReset ∧ (writeProfile n p s).pending = s.pending := by
  simp only [writeProfile]
  split <;> simp

@[simp] theorem saveEnd_frame (b : Bool) (i : Image) (s : State) :
    (saveEnd b i s).tracker = s.tracker ∧ (saveEnd b i s).marks = s.marks ∧ (saveEnd b i s).motion = s.motion ∧
      (saveEnd b i s).servo = s.servo ∧ (saveEnd b i s).scanner = s.scanner ∧ (saveEnd b i s).monitor = s.monitor ∧
      (saveEnd b i s).capstan = s.capstan ∧ (saveEnd b i s).punch = s.punch ∧ (saveEnd b i s).inReset = s.inReset ∧
      (saveEnd b i s).pending = s.pending := by
  simp [saveEnd]

@[simp] theorem saveStageEnd_frame (b : Bool) (s : State) :
    (saveStageEnd b s).tracker = s.tracker ∧ (saveStageEnd b s).marks = s.marks ∧
      (saveStageEnd b s).motion = s.motion ∧ (saveStageEnd b s).servo = s.servo ∧
      (saveStageEnd b s).scanner = s.scanner ∧ (saveStageEnd b s).monitor = s.monitor ∧
      (saveStageEnd b s).capstan = s.capstan ∧ (saveStageEnd b s).punch = s.punch ∧
      (saveStageEnd b s).inReset = s.inReset ∧ (saveStageEnd b s).pending = s.pending := by
  unfold saveStageEnd
  (repeat' split) <;> simp

/-! ## Reset -/

@[simp] theorem linkSilenceEnd_frame (s : State) :
    (linkSilenceEnd s).tracker = s.tracker ∧ (linkSilenceEnd s).marks = s.marks ∧
      (linkSilenceEnd s).motion = s.motion ∧ (linkSilenceEnd s).servo = s.servo ∧
      (linkSilenceEnd s).scanner = s.scanner ∧ (linkSilenceEnd s).monitor = s.monitor ∧
      (linkSilenceEnd s).capstan = s.capstan ∧ (linkSilenceEnd s).punch = s.punch ∧
      (linkSilenceEnd s).store = s.store ∧ (linkSilenceEnd s).inReset = s.inReset ∧
      (linkSilenceEnd s).pending = s.pending := by
  unfold linkSilenceEnd
  split <;> simp

@[simp] theorem warmMotion_frame (s : State) :
    (warmMotion s).tracker = s.tracker ∧ (warmMotion s).marks = s.marks ∧ (warmMotion s).servo = s.servo ∧
      (warmMotion s).scanner = s.scanner ∧ (warmMotion s).monitor = s.monitor ∧ (warmMotion s).capstan = s.capstan ∧
      (warmMotion s).punch = s.punch ∧ (warmMotion s).store = s.store ∧ (warmMotion s).link = s.link ∧
      (warmMotion s).inReset = s.inReset ∧ (warmMotion s).pending = s.pending := by
  simp [warmMotion]

@[simp] theorem warmServo_frame (s : State) :
    (warmServo s).tracker = s.tracker ∧ (warmServo s).marks = s.marks ∧ (warmServo s).motion = s.motion ∧
      (warmServo s).scanner = s.scanner ∧ (warmServo s).monitor = s.monitor ∧ (warmServo s).capstan = s.capstan ∧
      (warmServo s).punch = s.punch ∧ (warmServo s).store = s.store ∧ (warmServo s).link = s.link ∧
      (warmServo s).inReset = s.inReset ∧ (warmServo s).pending = s.pending := by
  simp [warmServo]

@[simp] theorem warmCapstan_frame (s : State) :
    (warmCapstan s).tracker = s.tracker ∧ (warmCapstan s).marks = s.marks ∧ (warmCapstan s).motion = s.motion ∧
      (warmCapstan s).servo = s.servo ∧ (warmCapstan s).scanner = s.scanner ∧ (warmCapstan s).monitor = s.monitor ∧
      (warmCapstan s).store = s.store ∧ (warmCapstan s).inReset = s.inReset ∧ (warmCapstan s).pending = s.pending := by
  unfold warmCapstan
  split <;> simp

@[simp] theorem warmMonitor_frame (s : State) :
    (warmMonitor s).tracker = s.tracker ∧ (warmMonitor s).marks = s.marks ∧ (warmMonitor s).motion = s.motion ∧
      (warmMonitor s).servo = s.servo ∧ (warmMonitor s).scanner = s.scanner ∧ (warmMonitor s).capstan = s.capstan ∧
      (warmMonitor s).punch = s.punch ∧ (warmMonitor s).store = s.store ∧ (warmMonitor s).link = s.link ∧
      (warmMonitor s).inReset = s.inReset ∧ (warmMonitor s).pending = s.pending := by
  simp [warmMonitor]

@[simp] theorem warmPunch_frame (s : State) :
    (warmPunch s).tracker = s.tracker ∧ (warmPunch s).marks = s.marks ∧ (warmPunch s).motion = s.motion ∧
      (warmPunch s).servo = s.servo ∧ (warmPunch s).scanner = s.scanner ∧ (warmPunch s).monitor = s.monitor ∧
      (warmPunch s).capstan = s.capstan ∧ (warmPunch s).store = s.store ∧ (warmPunch s).link = s.link ∧
      (warmPunch s).inReset = s.inReset ∧ (warmPunch s).pending = s.pending := by
  simp [warmPunch]

@[simp] theorem warmLink_frame (s : State) :
    (warmLink s).tracker = s.tracker ∧ (warmLink s).marks = s.marks ∧ (warmLink s).motion = s.motion ∧
      (warmLink s).servo = s.servo ∧ (warmLink s).scanner = s.scanner ∧ (warmLink s).monitor = s.monitor ∧
      (warmLink s).capstan = s.capstan ∧ (warmLink s).punch = s.punch ∧ (warmLink s).store = s.store ∧
      (warmLink s).inReset = s.inReset ∧ (warmLink s).pending = s.pending := by
  simp [warmLink]

@[simp] theorem warmReset_frame (s : State) :
    (warmReset s).scanner = s.scanner ∧ (warmReset s).store = s.store ∧ (warmReset s).inReset = s.inReset ∧
      (warmReset s).pending = s.pending := by
  simp [warmReset]

/-! ## Update -/

@[simp] theorem settle_frame (c : LocCtx) (s : State) :
    (settle c s).tracker = s.tracker ∧ (settle c s).marks = s.marks ∧ (settle c s).servo = s.servo ∧
      (settle c s).scanner = s.scanner ∧ (settle c s).monitor = s.monitor ∧ (settle c s).capstan = s.capstan ∧
      (settle c s).punch = s.punch ∧ (settle c s).store = s.store ∧ (settle c s).link = s.link ∧
      (settle c s).inReset = s.inReset ∧ (settle c s).pending = s.pending := by
  unfold settle
  split <;> simp

@[simp] theorem closeIn_frame (c : LocCtx) (s : State) :
    (closeIn c s).tracker = s.tracker ∧ (closeIn c s).marks = s.marks ∧ (closeIn c s).scanner = s.scanner ∧
      (closeIn c s).monitor = s.monitor ∧ (closeIn c s).store = s.store ∧ (closeIn c s).inReset = s.inReset ∧
      (closeIn c s).pending = s.pending := by
  simp only [closeIn]
  split <;> simp

@[simp] theorem searchPhase_frame (c : LocCtx) (s : State) :
    (searchPhase c s).tracker = s.tracker ∧ (searchPhase c s).marks = s.marks ∧
      (searchPhase c s).scanner = s.scanner ∧ (searchPhase c s).monitor = s.monitor ∧
      (searchPhase c s).store = s.store ∧ (searchPhase c s).inReset = s.inReset ∧
      (searchPhase c s).pending = s.pending := by
  unfold searchPhase
  (repeat' split) <;> simp

@[simp] theorem runPhase_frame (c : LocCtx) (s : State) :
    (runPhase c s).tracker = s.tracker ∧ (runPhase c s).marks = s.marks ∧ (runPhase c s).scanner = s.scanner ∧
      (runPhase c s).monitor = s.monitor ∧ (runPhase c s).store = s.store ∧ (runPhase c s).inReset = s.inReset ∧
      (runPhase c s).pending = s.pending := by
  unfold runPhase
  split <;> simp

@[simp] theorem approachPhase_frame (c : LocCtx) (s : State) :
    (approachPhase c s).tracker = s.tracker ∧ (approachPhase c s).marks = s.marks ∧
      (approachPhase c s).scanner = s.scanner ∧ (approachPhase c s).monitor = s.monitor ∧
      (approachPhase c s).store = s.store ∧ (approachPhase c s).inReset = s.inReset ∧
      (approachPhase c s).pending = s.pending := by
  unfold approachPhase
  split <;> simp

@[simp] theorem creepPhase_frame (c : LocCtx) (s : State) :
    (creepPhase c s).tracker = s.tracker ∧ (creepPhase c s).marks = s.marks ∧
      (creepPhase c s).scanner = s.scanner ∧ (creepPhase c s).monitor = s.monitor ∧
      (creepPhase c s).store = s.store ∧ (creepPhase c s).inReset = s.inReset ∧
      (creepPhase c s).pending = s.pending := by
  unfold creepPhase
  (repeat' split) <;> simp

@[simp] theorem holdPhase_frame (c : LocCtx) (s : State) :
    (holdPhase c s).tracker = s.tracker ∧ (holdPhase c s).marks = s.marks ∧ (holdPhase c s).scanner = s.scanner ∧
      (holdPhase c s).monitor = s.monitor ∧ (holdPhase c s).store = s.store ∧ (holdPhase c s).inReset = s.inReset ∧
      (holdPhase c s).pending = s.pending := by
  unfold holdPhase
  split_ifs <;> simp

@[simp] theorem phaseTests_frame (s : State) :
    (phaseTests s).tracker = s.tracker ∧ (phaseTests s).marks = s.marks ∧ (phaseTests s).scanner = s.scanner ∧
      (phaseTests s).monitor = s.monitor ∧ (phaseTests s).store = s.store ∧ (phaseTests s).inReset = s.inReset ∧
      (phaseTests s).pending = s.pending := by
  unfold phaseTests
  split <;> simp

@[simp] theorem noteDirection_frame (s : State) :
    (noteDirection s).tracker = s.tracker ∧ (noteDirection s).marks = s.marks ∧
      (noteDirection s).servo = s.servo ∧ (noteDirection s).scanner = s.scanner ∧
      (noteDirection s).monitor = s.monitor ∧ (noteDirection s).capstan = s.capstan ∧
      (noteDirection s).punch = s.punch ∧ (noteDirection s).store = s.store ∧ (noteDirection s).link = s.link ∧
      (noteDirection s).inReset = s.inReset ∧ (noteDirection s).pending = s.pending := by
  unfold noteDirection
  (repeat' split) <;> simp

@[simp] theorem formSpeed_frame (s : State) :
    (formSpeed s).tracker = s.tracker ∧ (formSpeed s).marks = s.marks ∧ (formSpeed s).servo = s.servo ∧
      (formSpeed s).scanner = s.scanner ∧ (formSpeed s).monitor = s.monitor ∧ (formSpeed s).capstan = s.capstan ∧
      (formSpeed s).punch = s.punch ∧ (formSpeed s).store = s.store ∧ (formSpeed s).link = s.link ∧
      (formSpeed s).inReset = s.inReset ∧ (formSpeed s).pending = s.pending := by
  simp [formSpeed]

@[simp] theorem noteEnd_frame (d : Dir) (s : State) :
    (noteEnd d s).tracker = s.tracker ∧ (noteEnd d s).marks = s.marks ∧ (noteEnd d s).servo = s.servo ∧
      (noteEnd d s).scanner = s.scanner ∧ (noteEnd d s).monitor = s.monitor ∧ (noteEnd d s).capstan = s.capstan ∧
      (noteEnd d s).punch = s.punch ∧ (noteEnd d s).store = s.store ∧ (noteEnd d s).inReset = s.inReset ∧
      (noteEnd d s).pending = s.pending := by
  simp [noteEnd]

@[simp] theorem tapeEnd_frame (s : State) :
    (tapeEnd s).tracker = s.tracker ∧ (tapeEnd s).marks = s.marks ∧ (tapeEnd s).scanner = s.scanner ∧
      (tapeEnd s).monitor = s.monitor ∧ (tapeEnd s).store = s.store ∧ (tapeEnd s).inReset = s.inReset ∧
      (tapeEnd s).pending = s.pending := by
  unfold tapeEnd
  (repeat' split) <;> simp

@[simp] theorem threadTape_frame (s : State) :
    (threadTape s).marks = s.marks ∧ (threadTape s).scanner = s.scanner ∧ (threadTape s).monitor = s.monitor ∧
      (threadTape s).store = s.store ∧ (threadTape s).inReset = s.inReset ∧ (threadTape s).pending = s.pending := by
  simp [threadTape]

@[simp] theorem unthreadTape_frame (s : State) :
    (unthreadTape s).scanner = s.scanner ∧ (unthreadTape s).monitor = s.monitor ∧
      (unthreadTape s).store = s.store ∧ (unthreadTape s).inReset = s.inReset ∧
      (unthreadTape s).pending = s.pending := by
  simp [unthreadTape]

@[simp] theorem emptyUpdate_frame (s : State) :
    (emptyUpdate s).marks = s.marks ∧ (emptyUpdate s).scanner = s.scanner ∧ (emptyUpdate s).monitor = s.monitor ∧
      (emptyUpdate s).store = s.store ∧ (emptyUpdate s).inReset = s.inReset ∧ (emptyUpdate s).pending = s.pending := by
  simp only [emptyUpdate]
  split <;> simp

@[simp] theorem releasedUpdate_frame (s : State) :
    (releasedUpdate s).scanner = s.scanner ∧ (releasedUpdate s).monitor = s.monitor ∧
      (releasedUpdate s).store = s.store ∧ (releasedUpdate s).inReset = s.inReset ∧
      (releasedUpdate s).pending = s.pending := by
  simp only [releasedUpdate]
  split <;> simp

@[simp] theorem engagingUpdate_frame (s : State) :
    (engagingUpdate s).tracker = s.tracker ∧ (engagingUpdate s).marks = s.marks ∧
      (engagingUpdate s).scanner = s.scanner ∧ (engagingUpdate s).store = s.store ∧
      (engagingUpdate s).inReset = s.inReset ∧ (engagingUpdate s).pending = s.pending := by
  simp only [engagingUpdate]
  split_ifs <;> simp

@[simp] theorem easeLevel_frame (s : State) :
    (easeLevel s).tracker = s.tracker ∧ (easeLevel s).marks = s.marks ∧ (easeLevel s).scanner = s.scanner ∧
      (easeLevel s).monitor = s.monitor ∧ (easeLevel s).store = s.store ∧ (easeLevel s).inReset = s.inReset ∧
      (easeLevel s).pending = s.pending := by
  simp [easeLevel]

@[simp] theorem stoppedUpdate_frame (s : State) :
    (stoppedUpdate s).tracker = s.tracker ∧ (stoppedUpdate s).marks = s.marks ∧
      (stoppedUpdate s).scanner = s.scanner ∧ (stoppedUpdate s).monitor = s.monitor ∧
      (stoppedUpdate s).store = s.store ∧ (stoppedUpdate s).inReset = s.inReset ∧
      (stoppedUpdate s).pending = s.pending := by
  simp only [stoppedUpdate]
  split_ifs <;> simp

@[simp] theorem restoreEnd_frame (s : State) :
    (restoreEnd s).tracker = s.tracker ∧ (restoreEnd s).marks = s.marks ∧ (restoreEnd s).scanner = s.scanner ∧
      (restoreEnd s).monitor = s.monitor ∧ (restoreEnd s).store = s.store ∧ (restoreEnd s).inReset = s.inReset ∧
      (restoreEnd s).pending = s.pending := by
  simp only [restoreEnd]
  split <;> simp

@[simp] theorem restoreUpdate_frame (s : State) :
    (restoreUpdate s).tracker = s.tracker ∧ (restoreUpdate s).marks = s.marks ∧
      (restoreUpdate s).scanner = s.scanner ∧ (restoreUpdate s).monitor = s.monitor ∧
      (restoreUpdate s).store = s.store ∧ (restoreUpdate s).inReset = s.inReset ∧
      (restoreUpdate s).pending = s.pending := by
  simp only [restoreUpdate]
  split <;> simp

@[simp] theorem entryUpdate_frame (s : State) :
    (entryUpdate s).tracker = s.tracker ∧ (entryUpdate s).marks = s.marks ∧ (entryUpdate s).scanner = s.scanner ∧
      (entryUpdate s).monitor = s.monitor ∧ (entryUpdate s).store = s.store ∧ (entryUpdate s).inReset = s.inReset ∧
      (entryUpdate s).pending = s.pending := by
  unfold entryUpdate
  split_ifs <;> simp

@[simp] theorem stoppingUpdate_frame (k : StopKind) (s : State) :
    (stoppingUpdate k s).tracker = s.tracker ∧ (stoppingUpdate k s).marks = s.marks ∧
      (stoppingUpdate k s).scanner = s.scanner ∧ (stoppingUpdate k s).monitor = s.monitor ∧
      (stoppingUpdate k s).store = s.store ∧ (stoppingUpdate k s).inReset = s.inReset ∧
      (stoppingUpdate k s).pending = s.pending := by
  unfold stoppingUpdate
  (repeat' split) <;> simp

@[simp] theorem creepRun_frame (c : LocCtx) (s : State) :
    (creepRun c s).tracker = s.tracker ∧ (creepRun c s).marks = s.marks ∧ (creepRun c s).scanner = s.scanner ∧
      (creepRun c s).monitor = s.monitor ∧ (creepRun c s).store = s.store ∧ (creepRun c s).inReset = s.inReset ∧
      (creepRun c s).pending = s.pending := by
  simp only [creepRun]
  split <;> simp

@[simp] theorem arrive_frame (c : LocCtx) (s : State) :
    (arrive c s).tracker = s.tracker ∧ (arrive c s).scanner = s.scanner ∧ (arrive c s).monitor = s.monitor ∧
      (arrive c s).store = s.store ∧ (arrive c s).inReset = s.inReset ∧ (arrive c s).pending = s.pending := by
  unfold arrive
  split <;> simp

@[simp] theorem arrivalTest_frame (c : LocCtx) (s : State) :
    (arrivalTest c s).tracker = s.tracker ∧ (arrivalTest c s).scanner = s.scanner ∧
      (arrivalTest c s).monitor = s.monitor ∧ (arrivalTest c s).store = s.store ∧
      (arrivalTest c s).inReset = s.inReset ∧ (arrivalTest c s).pending = s.pending := by
  simp only [arrivalTest]
  split <;> simp

@[simp] theorem settledUpdate_frame (s : State) :
    (settledUpdate s).tracker = s.tracker ∧ (settledUpdate s).scanner = s.scanner ∧
      (settledUpdate s).monitor = s.monitor ∧ (settledUpdate s).store = s.store ∧
      (settledUpdate s).inReset = s.inReset ∧ (settledUpdate s).pending = s.pending := by
  unfold settledUpdate
  (repeat' split) <;> simp

@[simp] theorem releasingUpdate_frame (s : State) :
    (releasingUpdate s).tracker = s.tracker ∧ (releasingUpdate s).marks = s.marks ∧
      (releasingUpdate s).scanner = s.scanner ∧ (releasingUpdate s).monitor = s.monitor ∧
      (releasingUpdate s).store = s.store ∧ (releasingUpdate s).inReset = s.inReset ∧
      (releasingUpdate s).pending = s.pending := by
  simp only [releasingUpdate]
  split <;> simp

@[simp] theorem haltingUpdate_frame (s : State) :
    (haltingUpdate s).tracker = s.tracker ∧ (haltingUpdate s).marks = s.marks ∧
      (haltingUpdate s).scanner = s.scanner ∧ (haltingUpdate s).monitor = s.monitor ∧
      (haltingUpdate s).store = s.store ∧ (haltingUpdate s).inReset = s.inReset ∧
      (haltingUpdate s).pending = s.pending := by
  simp only [haltingUpdate]
  split_ifs <;> simp

@[simp] theorem modeTests_frame (s : State) :
    (modeTests s).scanner = s.scanner ∧ (modeTests s).store = s.store ∧ (modeTests s).inReset = s.inReset ∧
      (modeTests s).pending = s.pending := by
  unfold modeTests
  split <;> simp

@[simp] theorem speedPart_frame (s : State) :
    (speedPart s).tracker = s.tracker ∧ (speedPart s).marks = s.marks ∧ (speedPart s).scanner = s.scanner ∧
      (speedPart s).monitor = s.monitor ∧ (speedPart s).store = s.store ∧ (speedPart s).inReset = s.inReset ∧
      (speedPart s).pending = s.pending := by
  simp [speedPart]

@[simp] theorem profileUpdate_frame (s : State) :
    (profileUpdate s).scanner = s.scanner ∧ (profileUpdate s).store = s.store ∧
      (profileUpdate s).inReset = s.inReset ∧ (profileUpdate s).pending = s.pending := by
  simp only [profileUpdate]
  split <;> simp

/-! ## Link -/

@[simp] theorem endSending_frame (s : State) :
    (endSending s).scanner = s.scanner ∧ (endSending s).store = s.store ∧ (endSending s).inReset = s.inReset ∧
      (endSending s).pending = s.pending := by
  unfold endSending
  (repeat' split) <;> simp

@[simp] theorem frameBegins_frame (s : State) :
    (frameBegins s).scanner = s.scanner ∧ (frameBegins s).store = s.store ∧ (frameBegins s).inReset = s.inReset ∧
      (frameBegins s).pending = s.pending := by
  unfold frameBegins
  (repeat' split) <;> simp

@[simp] theorem oweReply_frame (f : List Byte) (b : Bool) (s : State) :
    (oweReply f b s).tracker = s.tracker ∧ (oweReply f b s).marks = s.marks ∧ (oweReply f b s).motion = s.motion ∧
      (oweReply f b s).servo = s.servo ∧ (oweReply f b s).scanner = s.scanner ∧
      (oweReply f b s).monitor = s.monitor ∧ (oweReply f b s).capstan = s.capstan ∧
      (oweReply f b s).punch = s.punch ∧ (oweReply f b s).store = s.store ∧ (oweReply f b s).inReset = s.inReset ∧
      (oweReply f b s).pending = s.pending := by
  simp [oweReply]

@[simp] theorem lineIdle_frame (s : State) :
    (lineIdle s).scanner = s.scanner ∧ (lineIdle s).store = s.store ∧ (lineIdle s).inReset = s.inReset ∧
      (lineIdle s).pending = s.pending := by
  unfold lineIdle
  split <;> simp

@[simp] theorem reply_frame (s : State) :
    (reply s).tracker = s.tracker ∧ (reply s).marks = s.marks ∧ (reply s).motion = s.motion ∧
      (reply s).servo = s.servo ∧ (reply s).scanner = s.scanner ∧ (reply s).monitor = s.monitor ∧
      (reply s).capstan = s.capstan ∧ (reply s).punch = s.punch ∧ (reply s).store = s.store ∧
      (reply s).inReset = s.inReset ∧ (reply s).pending = s.pending := by
  unfold reply
  split <;> simp

@[simp] theorem slotAnswer_frame (s : State) :
    (slotAnswer s).tracker = s.tracker ∧ (slotAnswer s).marks = s.marks ∧ (slotAnswer s).motion = s.motion ∧
      (slotAnswer s).servo = s.servo ∧ (slotAnswer s).scanner = s.scanner ∧ (slotAnswer s).monitor = s.monitor ∧
      (slotAnswer s).capstan = s.capstan ∧ (slotAnswer s).punch = s.punch ∧ (slotAnswer s).store = s.store ∧
      (slotAnswer s).inReset = s.inReset ∧ (slotAnswer s).pending = s.pending := by
  unfold slotAnswer
  split <;> simp

@[simp] theorem replyGone_frame (s : State) :
    (replyGone s).scanner = s.scanner ∧ (replyGone s).store = s.store ∧ (replyGone s).inReset = s.inReset ∧
      (replyGone s).pending = s.pending := by
  unfold replyGone
  split <;> simp

end Sys2Proof.Machine
end

