-- ==== Sys2Proof/Laws/Tables.lean ====
section
/-!
SUPPORT. Laws/Tables: the numbered records of the mark table and the retry table stay in their canonical form under every
operation, and what a read gives after each; bounds of the clamps.
-/

namespace Sys2Proof.Machine

variable {α : Type}

theorem slotPut_mem {k : Nat} {a : α} {l : List (Nat × α)} {p : Nat × α} (h : p ∈ slotPut k a l) :
    p = (k, a) ∨ p ∈ l := by
  induction l with
  | nil => simpa [slotPut] using h
  | cons q r ih =>
    obtain ⟨n, b⟩ := q
    simp only [slotPut] at h
    split at h
    · simpa using h
    · split at h
      · rcases List.mem_cons.mp h with h | h
        · exact .inl h
        · exact .inr (List.mem_cons_of_mem _ h)
      · rcases List.mem_cons.mp h with h | h
        · exact .inr (by simp [h])
        · exact (ih h).imp id (List.mem_cons_of_mem _)

theorem rising_cons {n : Nat} {a : α} {r : List (Nat × α)} :
    Rising ((n, a) :: r) ↔ (∀ p ∈ r, n < p.1) ∧ Rising r := by
  simp [Rising, List.pairwise_cons]

/-- Placing a record keeps the numbers rising. -/
theorem slotPut_rising {k : Nat} {a : α} {l : List (Nat × α)} (h : Rising l) : Rising (slotPut k a l) := by
  induction l with
  | nil => simp [slotPut, Rising]
  | cons q r ih =>
    obtain ⟨n, b⟩ := q
    obtain ⟨h1, h2⟩ := rising_cons.mp h
    simp only [slotPut]
    split
    · rename_i hk
      refine rising_cons.mpr ⟨?_, h⟩
      intro p hp
      rcases List.mem_cons.mp hp with rfl | hp
      · exact hk
      · exact lt_trans hk (h1 p hp)
    · split
      · rename_i hk
        subst hk
        exact rising_cons.mpr ⟨h1, h2⟩
      · rename_i hk hne
        refine rising_cons.mpr ⟨fun p hp => ?_, ih h2⟩
        rcases slotPut_mem hp with rfl | hp
        · exact lt_of_le_of_ne (Nat.le_of_not_lt hk) (Ne.symm hne)
        · exact h1 p hp

/-- Removing a record keeps the numbers rising. -/
theorem slotDrop_rising {k : Nat} {l : List (Nat × α)} (h : Rising l) : Rising (slotDrop k l) :=
  List.Pairwise.sublist (List.Sublist.map _ List.filter_sublist) h

/-- Working on the records keeps the numbers. -/
theorem slotMap_rising {f : Nat → α → α} {l : List (Nat × α)} (h : Rising l) : Rising (slotMap f l) := by
  have e : (slotMap f l).map Prod.fst = l.map Prod.fst := by simp [slotMap, List.map_map, Function.comp_def]
  unfold Rising
  rw [e]
  exact h

/-- Leaving records out keeps the numbers rising. -/
theorem filter_rising {q : Nat × α → Bool} {l : List (Nat × α)} (h : Rising l) : Rising (l.filter q) :=
  List.Pairwise.sublist (List.Sublist.map _ List.filter_sublist) h

/-- A record placed is the one read back. -/
@[simp] theorem slotGet_slotPut_same (k : Nat) (a : α) (l : List (Nat × α)) : slotGet k (slotPut k a l) = some a := by
  induction l with
  | nil => simp [slotPut, slotGet]
  | cons q r ih =>
    obtain ⟨n, b⟩ := q
    simp only [slotPut]
    split
    · simp [slotGet]
    · split
      · simp [slotGet]
      · rename_i hne
        simp [slotGet, Ne.symm hne, ih]

/-- Placing a record leaves every other number as it was. -/
theorem slotGet_slotPut_other {j k : Nat} (h : j ≠ k) (a : α) (l : List (Nat × α)) :
    slotGet j (slotPut k a l) = slotGet j l := by
  induction l with
  | nil => simp [slotPut, slotGet, Ne.symm h]
  | cons q r ih =>
    obtain ⟨n, b⟩ := q
    simp only [slotPut]
    split
    · simp [slotGet, Ne.symm h]
    · split
      · rename_i hk
        subst hk
        simp [slotGet, Ne.symm h]
      · simp [slotGet, ih]

/-- A record removed is gone, and the others stay. -/
theorem slotGet_slotDrop (j k : Nat) (l : List (Nat × α)) :
    slotGet j (slotDrop k l) = if j = k then none else slotGet j l := by
  induction l with
  | nil => simp [slotDrop, slotGet]
  | cons q r ih =>
    obtain ⟨n, b⟩ := q
    have hd : slotDrop k ((n, b) :: r) = if n = k then slotDrop k r else (n, b) :: slotDrop k r := by
      by_cases h : n = k <;> simp [slotDrop, h]
    rw [hd]
    by_cases hn : n = k
    · subst hn
      rw [if_pos rfl, ih]
      by_cases hj : j = n
      · simp [hj]
      · simp [hj, slotGet, Ne.symm hj]
    · rw [if_neg hn]
      by_cases hj : n = j
      · subst hj
        simp [slotGet, hn]
      · simp [slotGet, hj, ih]

/-- A clamp stays within its bounds (R2). -/
theorem clampInt_bounds {lo hi : Int} (h : lo ≤ hi) (x : Int) : lo ≤ clampInt lo hi x ∧ clampInt lo hi x ≤ hi := by
  unfold clampInt
  omega

/-- A clamp leaves a value within its bounds alone (R2). -/
theorem clampInt_inside {lo hi x : Int} (h1 : lo ≤ x) (h2 : x ≤ hi) : clampInt lo hi x = x := by
  unfold clampInt
  omega

/-- A ramp's result lies between its start and its target (R58, R110). -/
theorem moveToward_bounds {prev target step : Int} (h : 0 ≤ step) :
    min prev target ≤ moveToward prev target step ∧ moveToward prev target step ≤ max prev target := by
  unfold moveToward clampInt
  omega

/-- A magnitude is a bound on both sides. -/
theorem mag_le_iff {x c : Int} : mag x ≤ c ↔ -c ≤ x ∧ x ≤ c := by
  unfold mag
  split <;> omega

/-! ## The integer square root (R2) -/

theorem isqrtBits_bounds (k n r : Nat) (h : r * r ≤ n) (h' : n < (r + 2 ^ k) * (r + 2 ^ k)) :
    isqrtBits k n r * isqrtBits k n r ≤ n ∧ n < (isqrtBits k n r + 1) * (isqrtBits k n r + 1) := by
  induction k generalizing r with
  | zero => simpa [isqrtBits] using ⟨h, h'⟩
  | succ k ih =>
    simp only [isqrtBits]
    split
    · exact ih _ (by assumption) (by rw [add_assoc, ← two_mul, ← pow_succ']; exact h')
    · exact ih _ h (Nat.lt_of_not_le (by assumption))

/-- `isqrt` is the largest integer whose square does not exceed its operand (R2). -/
theorem isqrt_bounds (n : Nat) : isqrt n * isqrt n ≤ n ∧ n < (isqrt n + 1) * (isqrt n + 1) := by
  refine isqrtBits_bounds _ n 0 (by simp) ?_
  have h : n.log2 + 1 ≤ (n.log2 / 2 + 1) + (n.log2 / 2 + 1) := by omega
  calc n < 2 ^ (n.log2 + 1) := Nat.lt_log2_self
    _ ≤ 2 ^ ((n.log2 / 2 + 1) + (n.log2 / 2 + 1)) := Nat.pow_le_pow_right (by norm_num) h
    _ = _ := by rw [pow_add, Nat.zero_add]

end Sys2Proof.Machine
end

