-- ==== Sys2Proof/Tests/Slice0.lean ====
section
/-!
SUPPORT. Tests: ill-formed commands refused, values the spec works out by hand, and for every obligation with hypotheses a
concrete state and operands that meet them, clause by clause.
-/

namespace Sys2Proof.Tests

open Sys2Proof Sys2Proof.Machine Sys2Proof.Safety

set_option maxRecDepth 100000
set_option synthInstance.maxSize 100000
set_option synthInstance.maxHeartbeats 2000000

/-! ## States the tests start from -/

/-- The card after its 250 ms of silence. -/
def card : State := { State.reset with link := { State.reset.link with silent := false } }

/-- A request's header from station 1, and a broadcast's. -/
def h : Hdr where
  dest := 1
  station := 1
  seq := 1
def all : Hdr where
  dest := 31
  station := 1
  seq := 0

def inMode (m : Mode) (s : State) : State := { s with motion := { s.motion with mode := m } }

/-- Opaque tape at the optical sensor. -/
def taped (s : State) : State := { s with scanner := { s.scanner with optical := .opaqueTape } }

/-- A reel loaded, one live anchor at the counter: LOCKED at tick 100,000. -/
def reel (s : State) : State :=
  { s with
    tracker := { s.tracker with
      counter := 1000, map := [{ count := 1000, ticks := 100000, live := true }]
      loaded := some { tag := 4117, rate := .r48000 } } }

/-- The heads down at play speed. -/
def playing (s : State) : State :=
  { s with
    motion := { s.motion with liftersUp := false, brakesOn := false }
    servo := { s.servo with vMeas := 10000 } }

/-- PLAY RUN, locked, with the permit present and both tracks UNSAFE. -/
def run (s : State) : State :=
  let s := playing (inMode (.play .run) s)
  { s with
    motion := { s.motion with pinchIn := true, vCmd := 10000 }
    capstan := { s.capstan with lock := true, enable := true, command := 10000 }
    punch := { s.punch with permit := true, permitPin := true, safeA := false, safeB := false } }

/-- A FIRM mark of the loaded reel. -/
def mark (k : MarkKind) (block : Nat) (partner : Option Nat) : Mark where
  kind := k
  addr := { block := block, sample := 5 }
  tag := some 4117
  standing := .firm
  spread := none
  partner := partner
  label := [0x41#8]
  owner := 1
  locked := false

/-- The pair of marks 1 and 2, punch-in at `a` and punch-out at `b`. -/
def paired (a b : Nat) (s : State) : State :=
  { s with marks := [(1, mark .punchIn a (some 2)), (2, mark .punchOut b (some 1))] }

def entry (rehearse : Bool) (e : EntryState) : Entry where
  inMark := 1
  outMark := 2
  tracks := .a
  rehearse := rehearse
  state := e

def armedWith (e : Entry) (s : State) : State := { s with punch := { s.punch with entries := [e] } }

/-- Gate A on. -/
def recording (s : State) : State := { s with punch := { s.punch with gateA := true } }

/-- A good read of block `b` at the present count. -/
def readOf (b : Nat) (latched : Int) : TapeRead where
  block := b
  tag := 4117
  rate := .r48000
  good := true
  latched := latched
  time := 300#32

/-- A locate to tick `t`, settled. -/
def going (t : Int) (s : State) : LocCtx where
  target := .address { block := 1000, sample := 0 }
  preroll := 0
  followOn := .stop
  holdLimit := 0
  targetTick := t
  approach := 30000
  searchStart := s.tracker.counter
  latch := true
  reversals := 0
  lastDir := none
  creep := none
  judgement := none
  holdTimer := 0

def after (o : Result) : State :=
  match o with
  | .next t => t
  | .fault _ => card
  | .refused _ => card

/-! ## Ill-formed commands are refused -/

theorem test_illFormed_header : ¬ WellFormed (.play { dest := 256, station := 1, seq := 0 }) := by
  simp [WellFormed]

theorem test_illFormed_switch : ¬ WellFormed (.internalResetEnd 32) := by simp [WellFormed]

theorem test_illFormed_code : ¬ WellFormed (.scanCompletion { supplyArm := 4096, takeUpArm := 0, rotating := 0 }) := by
  simp [WellFormed]

theorem test_illFormed_read : ¬ WellFormed (.addressRead { readOf 0 0 with block := 16777216 }) := by
  simp [WellFormed]

theorem test_illFormed_unit : ¬ WellFormed (.statusPoll h 4) := by simp [WellFormed]

theorem test_illFormed_speed : ¬ WellFormed (.cue h 32768) := by simp [WellFormed]

theorem test_illFormed_payload : ¬ WellFormed (.stop h (List.replicate 49 0#8)) := by simp [WellFormed]

theorem test_illFormed_label : ¬ WellFormed (.markName h 1 (List.replicate 47 0x41#8)) := by simp [WellFormed, h]

theorem test_illFormed_address : ¬ WellFormed (.markMove h 1 { block := 0, sample := 65536 }) := by simp [WellFormed]

theorem test_illFormed_profile : ¬ WellFormed (.profileWrite h 0 { Config.factoryProfile with hub := 65536 }) := by
  simp [WellFormed]

theorem test_illFormed_frame : ¬ WellFormed (.unknownCommand { hdr := h, unit := 256, cmd := 0, payload := [] }) := by
  simp [WellFormed]

/-! ## Values the spec works out -/

/-- R181: the CRC of "123456789". -/
theorem test_crc : crc [0x31#8, 0x32#8, 0x33#8, 0x34#8, 0x35#8, 0x36#8, 0x37#8, 0x38#8, 0x39#8] = 0x29B1#16 := by decide

/-- Section 4.7: the wanted speeds of the approach at 18,000 and 17,820 ticks. -/
theorem test_approach : approachCurve 18000 = 37947 ∧ approachCurve 17820 = 37757 ∧ approachCurve 0 = 0 := by decide

/-- Section 5.10: radius, demand, tension torque, and the two commands. -/
theorem test_servo :
    windowRadius Config.factoryProfile 1000 102 0 = 12176 ∧ tensionOf defaultCal 2048 = 200 ∧
    demand Config.factoryProfile 220 200 = 260 ∧ tensionTorque 260 12176 = 316 ∧
    torqueCommand Config.factoryProfile 500 527 = 527 ∧ torqueCommand Config.factoryProfile 160 105 = 120 := by decide

/-- Section 1.9: estimate, cleanup of both sides, and the estimate below the first anchor. -/
theorem test_map :
    let map := [{ count := 10000, ticks := 500000, live := false }, { count := 110000, ticks := 600500, live := false },
      { count := 160000, ticks := 651000, live := true }]
    let new := placeAnchor { count := 70000, ticks := 564000, live := true } map
    estimateAt map 60000 = 550250 ∧ addrOf 550250 480 = { block := 5502, sample := 240 } ∧
    new = [{ count := 70000, ticks := 564000, live := true }, { count := 160000, ticks := 651000, live := false }] ∧
    estimateAt new 60000 = 554334 ∧ addrOf 554334 480 = { block := 5543, sample := 163 } := by decide

/-- R123: the ends of the channels' ranges. -/
theorem test_channels :
    channelValue 2 0 = -12000 ∧ channelValue 3 4095 = 11994 ∧ channelValue 4 0 = -4000 ∧ channelValue 4 4095 = 3998 ∧
    channelValue 5 2048 = 30000 ∧ channelValue 5 4095 = 59985 := by decide

/-- Section 7.10, reads 1 and 3: the correction of a phase error. -/
theorem test_correction :
    clampInt (-500) 500 (Int.tdiv 2800 4) = 500 ∧ clampInt (-500) 500 (Int.tdiv 1850 4) = 462 := by decide

/-! ## Witnesses: queue and laws -/

theorem witness_StepTakesFront :
    ({ card with pending := [.play h] } : State).pending = .play h :: [] ∧ card.pending = [] := by decide

/-- Both sides: the five-hundredth update with tape in EMPTY is THREAD, and the one before it is not. -/
theorem witness_LimitRowsAreTheirEvents :
    let t := fun n => (taped { card with motion := { card.motion with tapeTimer := n } } : State)
    card.inReset = false ∧
    (∀ n ∈ [498, 499], (t n).inReset = false ∧ exec .profileUpdate (t n) = .next (after (exec .profileUpdate (t n)))) ∧
    exec .thread (t 499) = .next (after (exec .profileUpdate (t 499))) ∧ exec .thread (t 498) = .next (t 498) := by
  refine ⟨rfl, ?_, rfl, rfl⟩
  intro n hn
  fin_cases hn <;> exact ⟨rfl, rfl⟩

/-- A card at work: recording, with an armed pair, a retry entry and a latched event. -/
def busy : State :=
  let s := recording (armedWith (entry false (.active false none { block := 1000, sample := 5 }))
    (run (reel (paired 1000 1020 card))))
  { s with
    link := { s.link with
      summary := Event.fault.bit, mask := Event.fault.bit
      retry := [(1, { unit := 0, seq := 1, cmd := 0, payload := [], reply := [] })] } }

/-- A card with a recorded fault, parked. -/
def faulted : State :=
  let s := taped (inMode .released card)
  { s with
    monitor := { s.monitor with
      faults := [{ cause := .tensionLoss, count := 255, mode := .cue, estimate := 0, quality := .unknown }] } }

theorem witness_laws :
    FaultLaw faulted ∧ ContextLaw faulted ∧ FaultSetForm faulted ∧ faulted.monitor.faults ≠ [] ∧
    TorqueLaw busy ∧ SpeedLaw busy ∧ SolenoidLaw busy ∧ CapstanLaw busy ∧ GateLaw busy ∧ MonitorLaw busy ∧ MapLaw busy ∧
    TableForm busy ∧ SummaryLaw busy ∧ CounterLaw busy ∧ GateOn busy := by decide

theorem witness_MarkAndArmedLawsKept : MarkLaw busy ∧ ArmedLaw busy ∧ busy.punch.entries.length = 1 := by
  refine ⟨by decide, ⟨by decide, by decide, by decide, ?_⟩, rfl⟩
  intro e he
  obtain rfl : e = entry false (.active false none { block := 1000, sample := 5 }) := List.mem_singleton.mp he
  exact ⟨by decide, by decide, fun late d ain h => by simp [entry] at h⟩

theorem witness_laws_step :
    (∃ t, step { busy with pending := [.rollerCount .forward] } = .next t) ∧
    ∃ t, step { faulted with pending := [.profileUpdate] } = .next t := ⟨⟨_, rfl⟩, ⟨_, rfl⟩⟩

/-! ## Witnesses: the link -/

theorem witness_RequestsReadBack :
    requestWire (.cue h (-400)) = some ⟨h, 0, 5, [0xFE#8, 0x70#8]⟩ ∧ WellFormed (.cue h (-400)) := by
  constructor
  · decide
  · simp [WellFormed, h]

theorem witness_FramesAreRequests :
    let f : Frame := { hdr := h, unit := 0, cmd := 4, payload := [] }
    let s : State := { card with link := { card.link with rx := .idle } }
    f.WellFormed ∧ s.inReset = false ∧ s.link.silent = false ∧ s.link.tx = .quiet ∧ s.link.rx = .idle := by decide

theorem witness_FramesRefused :
    let f : Frame := { hdr := h, unit := 0, cmd := 4, payload := [] }
    let e : Retry := { unit := 0, seq := 1, cmd := 4, payload := [], reply := [] }
    let s : State := { card with link := { card.link with retry := [(1, e)] } }
    card.inReset = false ∧ card.link.silent = false ∧ card.link.tx = .quiet ∧ s.inReset = false ∧ s.link.silent = false ∧
    s.link.tx = .quiet ∧
    ((5 : Nat) ≠ 31 ∧ ¬ Addressed { h with dest := 5 } card) ∧ (all.dest = 31 ∧ ¬ StationOk ({ all with station := 16 } : Hdr).station) ∧
    (Addressed { h with station := 0 } card ∧ ¬ StationOk ({ h with station := 0 } : Hdr).station) ∧
    (Addressed f.hdr s ∧ StationOk f.hdr.station ∧ slotGet f.hdr.station s.link.retry = some e ∧ f.hdr.seq ≠ 0 ∧
      e.unit = f.unit ∧ e.seq = f.hdr.seq ∧ e.cmd = f.cmd ∧ e.payload = f.payload) := by decide

theorem witness_FramesRefused_unknown :
    Takes { hdr := h, unit := 4, cmd := 0x77, payload := [] } card ∧ 3 < 4 ∧ readerOf h 0 0x77 = none ∧
    Takes { hdr := h, unit := 0, cmd := 4, payload := [1#8] } card ∧
    ∃ r, readerOf h 0 4 = some r ∧ r [1#8] = none := ⟨by decide, by decide, rfl, by decide, _, rfl, rfl⟩

/-- PLAY in EMPTY is refused, NO_TAPE. -/
theorem witness_RefusedChangesNothing :
    requestWire (.play h) = some ⟨h, 0, 4, []⟩ ∧ Takes ⟨h, 0, 4, []⟩ card ∧ Code.noTape ≠ .ok ∧ Code.noTape ≠ .clamped ∧
    (after (exec (.play h) card)).link.tx = .replyDue (replyTo ⟨h, 0, 4, []⟩ .noTape [] card) false := by decide

theorem witness_CharacterJudged :
    let rx := fun r : Rx => ({ card with link := { card.link with rx := r } } : State)
    (∀ r ∈ [Rx.idle, .collecting (List.replicate 4 1#8), .collecting (List.replicate 5 1#8), .collecting (List.replicate 6 1#8)],
      (rx r).inReset = false ∧ (rx r).link.silent = false ∧ (rx r).link.tx = .quiet ∧ (rx r).link.rx = r) ∧
    (∀ x ∈ [Tx.quiet, .replyDue [] false, .replyDue [] true, .slotDue 1#8],
      let s : State := { card with link := { card.link with rx := .idle, tx := x } }
      s.inReset = false ∧ s.link.silent = false ∧ s.link.rx = .idle ∧ s.link.tx = x ∧ ∀ b, s.link.tx ≠ .sending b) ∧
    (rx .disregard).link.rx = .disregard ∧
    ({ card with link := { card.link with tx := .sending true } } : State).link.tx = .sending true ∧
    (List.replicate 4 1#8).length < 5 ∧ (List.replicate 5 1#8).length = 5 ∧ 6 ≤ (List.replicate 6 1#8).length ∧
    (List.replicate 6 1#8).length < ((List.replicate 6 1#8).getD 5 0).toNat + 7 ∧
    let cs := requestChars h 0 0x10 [] |>.dropLast
    (rx (.collecting cs)).inReset = false ∧ (rx (.collecting cs)).link.rx = .collecting cs ∧
    (∀ b, (rx (.collecting cs)).link.tx ≠ .sending b) ∧ cs.length = (cs.getD 5 0).toNat + 7 ∧
    ∀ c ∈ [0#8, sync], crcField ((cs ++ [c]).take ((cs.getD 5 0).toNat + 6)) ≠ (cs ++ [c]).drop ((cs.getD 5 0).toNat + 6) := by
  decide

theorem witness_LineTimes :
    let tx := fun x : Tx => ({ card with link := { card.link with tx := x } } : State)
    State.reset.inReset = false ∧ State.reset.link.silent = true ∧ card.inReset = false ∧ card.link.silent = false ∧
    (∀ b, card.link.tx ≠ .sending b) ∧ card.link.tx = .quiet ∧ (tx (.sending false)).link.tx = .sending false ∧
    (∀ b, (tx (.sending b)).inReset = false ∧ (tx (.sending b)).link.silent = false ∧ (tx (.sending b)).link.tx = .sending b) ∧
    (tx (.replyDue [] true)).inReset = false ∧ (tx (.replyDue [] true)).link.tx = .replyDue [] true ∧
    (tx (.slotDue 1#8)).inReset = false ∧ (tx (.slotDue 1#8)).link.tx = .slotDue 1#8 := by decide

/-! ## Witnesses: resets -/

theorem witness_InternalResetEndValues :
    let img : Image := { profiles := factoryProfiles, marks := [(5, mark .cue 7 none)], selection := .wordClock }
    let full : State := { card with
      inReset := true
      store := { card.store with
        user := { image := img, count := 1, marker := true, checkOk := true }
        factory := { supply := defaultCal, takeUp := defaultCal, serial := 1, revision := 0, checkOk := true } } }
    let bare : State := { card with inReset := true }
    full.inReset = true ∧ full.store.user.valid = true ∧ Rising full.store.user.image.marks ∧ full.store.factory.valid = true ∧
    bare.inReset = true ∧ bare.store.user.valid = false ∧ bare.store.factory.valid = false := by decide

/-- A reel on a parked deck: mark 5 of the reel, unclaimed mark 6. -/
def parked : State :=
  let s := inMode .released (reel card)
  { s with marks := [(5, mark .cue 7 none), (6, { mark .cue 7 none with tag := none })] }

theorem witness_WarmResetValues :
    let s : State := { parked with link := { parked.link with tx := .sending true } }
    s.inReset = false ∧ s.link.tx = .sending true ∧ Parked s ∧ GateLaw s ∧ MonitorLaw s ∧ TableForm s ∧ MarkLaw s ∧
    ({ s with capstan := { s.capstan with selection := .wordClock, refState := .external } } : State).capstan.refState =
      .external ∧ (markAt (after (exec .warmReset s)) 5).isSome = true ∧ (5 : Nat) ≠ 0 ∧ markAt s 5 = some (mark .cue 7 none) ∧
    (mark .cue 7 none).tag ≠ none := by decide

/-! ## Witnesses: the profile update -/

theorem witness_RestUpdates :
    let m := fun x => inMode x card
    (∀ x ∈ [Mode.stopped .eased, .stopped .full, .empty, .released, .engaging, .stopped .restoring, .releasing],
      (m x).inReset = false ∧ (m x).motion.mode = x) ∧
    ((activeProfile card).easeTime ≠ 0 ∧ card.motion.idle + 1 < (activeProfile card).easeTime * 1000) ∧
    card.motion.tapeTimer < 499 ∧ (card.motion.rampK < 199 ∧ card.motion.engageTimer < 2999) ∧ card.motion.restoreK < 249 ∧
    card.motion.releaseK < 499 := by decide

/-- Cueing at 40,000 ticks/s in the middle of a reel. -/
def cueing : State :=
  let s := taped (playing (inMode .cue card))
  { s with motion := { s.motion with vCmd := 40000, want := -40000 } }

theorem witness_SpeedsFormed :
    cueing.inReset = false ∧ cueing.motion.mode = .cue ∧ cueing.scanner.optical = .opaqueTape ∧
    inEndZone cueing .forward = false ∧ inEndZone cueing .reverse = false ∧ 0 ≤ decelLimit cueing ∧
    mag cueing.motion.vCmd ≤ ((activeProfile cueing).windMax : Int) * 100 ∧
    mag cueing.motion.want ≤ ((activeProfile cueing).windMax : Int) * 100 ∧
    (cueing.motion.liftersUp = false → mag cueing.motion.vCmd ≤ 40000 ∧ mag cueing.motion.want ≤ 40000) := by decide

/-- At tick 100,000 on tape, in a mode, with the locate of a target. -/
def travelling (m : Mode) (c : LocCtx) : State :=
  let s := taped (playing (inMode m (reel card)))
  { s with motion := { s.motion with loc := some c } }

/-- A locate of tick `t` that has not settled. -/
def unsettled (t : Int) : LocCtx := { going t card with latch := false }

theorem witness_SpeedsFormed_modes :
    ∀ m ∈ [Mode.play .entry, .play .run, .cue, .wind, .stopping .normal, .stopping .safe, .locate .search, .locate .run,
        .locate .approach, .locate .creep, .locate .hold],
      let s := { (travelling m (unsettled 130001)) with motion := { (travelling m (unsettled 130001)).motion with loc := none } }
      s.inReset = false ∧ s.motion.mode = m ∧ s.scanner.optical = .opaqueTape ∧ s.motion.entryCount < 19 ∧ s.motion.still < 19 ∧
      (after (exec .profileUpdate s)).motion.mode = m := by decide

theorem witness_SpeedsFormed_locate :
    let lost : State := taped (inMode (.locate .search) card)
    let fast : State :=
      let s := travelling (.locate .run) (unsettled 130000)
      { s with servo := { s.servo with vMeas := 40001 } }
    (let s : State := { lost with motion := { lost.motion with loc := some (unsettled 0) } }
     s.inReset = false ∧ s.motion.mode = .locate .search ∧ s.motion.loc = some (unsettled 0) ∧ quality s = .unknown ∧
     mag (s.tracker.counter - (unsettled 0).searchStart) < 300000) ∧
    (let c := { unsettled 0 with searchStart := 300000 }
     let s : State := { lost with motion := { lost.motion with loc := some c } }
     s.inReset = false ∧ s.motion.mode = .locate .search ∧ s.motion.loc = some c ∧ quality s = .unknown ∧
     300000 ≤ mag (s.tracker.counter - c.searchStart)) ∧
    (let c := { unsettled 130000 with holdLimit := 7, holdTimer := 6 }
     let s := travelling (.locate .hold) c
     s.inReset = false ∧ s.motion.mode = .locate .hold ∧ s.motion.loc = some c ∧
     mag (c.targetTick - estimate s) ≤ c.approach ∧ c.holdLimit ≠ 0 ∧ c.holdLimit ≤ c.holdTimer + 1) ∧
    (fast.inReset = false ∧ fast.motion.mode = .locate .run ∧ fast.motion.loc = some (unsettled 130000) ∧
      ¬ mag fast.servo.vMeas ≤ 40000 ∧ mag ((unsettled 130000).targetTick - estimate fast) ≤ (unsettled 130000).approach) ∧
    (∀ x ∈ [LocPhase.search, .run, .approach, .creep, .hold], ∀ c ∈ [unsettled 130001, unsettled 69999],
      let s := travelling (.locate x) c
      s.inReset = false ∧ s.motion.mode = .locate x ∧ s.motion.loc = some c ∧ s.scanner.optical = .opaqueTape ∧
      quality s ≠ .unknown ∧ c.approach < mag (c.targetTick - estimate s)) ∧
    (∀ x ∈ [LocPhase.search, .run, .approach, .creep, .hold],
      ∀ c ∈ [unsettled 130000, unsettled 70000, unsettled 100100, unsettled 99899, { unsettled 100101 with latch := true },
          { unsettled 100001 with creep := some .forward }, { unsettled 99999 with creep := some .reverse },
          { unsettled 100000 with holdLimit := 7, holdTimer := 5 }],
      let s := travelling (.locate x) c
      s.inReset = false ∧ s.motion.mode = .locate x ∧ s.motion.loc = some c ∧ s.scanner.optical = .opaqueTape ∧
      quality s ≠ .unknown ∧ mag (c.targetTick - estimate s) ≤ c.approach ∧ mag s.servo.vMeas ≤ 40000 ∧
      (c.holdLimit = 0 ∨ c.holdTimer + 1 < c.holdLimit)) := by decide

theorem witness_TapeEnds :
    let z : State := { cueing with servo := { cueing.servo with rSupply := 5299 } }
    let s : State := { cueing with scanner := { cueing.scanner with optical := .clear } }
    (z.inReset = false ∧ z.motion.mode = .cue ∧ signDir (after (exec .profileUpdate z)).motion.vCmd = some .forward ∧
      inEndZone z .forward = true) ∧
    (s.inReset = false ∧ s.motion.mode = .cue ∧ s.motion.loc = none ∧ s.scanner.optical = .clear ∧
      travel { s with motion := { s.motion with vCmd := nextSpeed s } } = some .forward ∧ s.motion.leader = none) := by decide

theorem witness_ThreadsAndEngages :
    let s := taped card
    let t : State := { s with motion := { s.motion with tapeTimer := 499 } }
    let e := inMode .engaging s
    let a : State := { e with motion := { e.motion with rampK := 199, engageTimer := 2998 } }
    let b : State := { e with motion := { e.motion with rampK := 200, engageTimer := 2999 } }
    (t.inReset = false ∧ t.motion.mode = .empty ∧ t.motion.tapeTimer = 499 ∧ t.scanner.optical = .opaqueTape) ∧
    (a.inReset = false ∧ a.motion.mode = .engaging ∧ a.motion.rampK = 199 ∧ a.motion.engageTimer < 2999) ∧
    (b.inReset = false ∧ b.motion.mode = .engaging ∧ b.motion.rampK = 200 ∧ b.motion.engageTimer = 2999 ∧
      ¬ HasRecord b .engageTimeout) := by decide

theorem witness_Unthreads :
    let s : State := { parked with motion := { parked.motion with tapeTimer := 499 } }
    let x : State := { s with
      tracker := { s.tracker with loaded := some { tag := 4117, rate := .r44100 } }
      capstan := { s.capstan with selection := .wordClock, refState := .external } }
    (s.inReset = false ∧ s.motion.mode = .released ∧ s.motion.tapeTimer = 499 ∧ s.scanner.optical = .clear ∧ GateLaw s ∧
      MonitorLaw s ∧ TableForm s ∧ MarkLaw s ∧ (markAt (after (exec .unthread s)) 5).isSome = true ∧
      markAt s 5 = some (mark .cue 7 none) ∧ (mark .cue 7 none).tag ≠ none ∧ s.capstan.refState = .internal) ∧
    (x.inReset = false ∧ x.motion.mode = .released ∧ x.motion.tapeTimer = 499 ∧ x.scanner.optical = .clear ∧ GateLaw x ∧
      MonitorLaw x ∧ TableForm x ∧ x.capstan.refState ≠ .internal ∧ spb x ≠ 480) := by decide

theorem witness_ModesReached :
    let e := inMode .engaging card
    let r : State := { e with
      motion := { e.motion with setpoint := 180 }
      servo := { e.servo with rampDone := true, ready := 49 }
      scanner := { e.scanner with table := List.replicate 7 { blankChannel with code := 1968 } } }
    let s := taped (playing (inMode (.play .entry) card))
    let p : State := { s with motion := { s.motion with entryCount := 19 } }
    (r.inReset = false ∧ r.motion.mode = .engaging ∧ r.servo.rampDone = true ∧ r.servo.ready = 49 ∧
      InReadyWindow (servoFigures r).servo ∧ r.monitor.due = none) ∧
    (p.inReset = false ∧ p.motion.mode = .play .entry ∧ p.motion.entryCount = 19 ∧ p.motion.liftersUp = false ∧
      mag (p.servo.vMeas - p.capstan.vRef) ≤ 500 ∧ p.scanner.optical = .opaqueTape) := by decide

theorem witness_EaseAndRestore :
    let f := inMode (.stopped .full) card
    let a : State := { f with motion := { f.motion with idle := 59999 } }
    let r := inMode (.stopped .restoring) card
    let b := fun x => ({ r with motion := { r.motion with restoreK := 249, held := x } } : State)
    (a.inReset = false ∧ a.motion.mode = .stopped .full ∧ (activeProfile a).easeTime ≠ 0 ∧
      a.motion.idle + 1 = (activeProfile a).easeTime * 1000) ∧
    ∀ x ∈ [none, some (Held.wind 5), some (.cue 5), some .play],
      (b x).inReset = false ∧ (b x).motion.mode = .stopped .restoring ∧ (b x).motion.restoreK = 249 ∧ (b x).motion.loc = none ∧
      mag (b x).servo.vMeas ≤ 40000 ∧ (b x).motion.held = x := by decide

theorem witness_StopsEnd :
    let c := taped card
    let m := fun x => ({ inMode x c with
      motion := { c.motion with mode := x, releaseK := 499, still := 19, haltStill := 99, haltTimer := 4999 } } : State)
    ∀ x ∈ [Mode.releasing, .stopping .normal, .stopping .safe, .halting],
      (m x).inReset = false ∧ (m x).motion.mode = x ∧ (m x).motion.releaseK = 499 ∧ (m x).motion.still = 19 ∧
      (m x).motion.vCmd = 0 ∧ mag (m x).servo.vMeas < 200 ∧ 0 ≤ decelLimit (m x) ∧ (m x).scanner.optical = .opaqueTape ∧
      (m x).motion.haltStill = 99 ∧ mag (m x).servo.vMeas < 100 ∧ (m x).motion.haltTimer = 4999 := by decide

theorem witness_LocatesEnd :
    let s := taped (reel card)
    let m := fun (x : Mode) (c : LocCtx) (s : State) =>
      ({ s with motion := { s.motion with mode := x, loc := some c, still := 19 } } : State)
    let e : State := taped { card with tracker := { card.tracker with counter := 300000 } }
    let c0 := { going 0 s with searchStart := 0 }
    let at100 := going 100100 s
    let far := going 100101 s
    let back := fun n => { going 99899 s with lastDir := some .forward, reversals := n }
    let hold := { going 130000 s with holdLimit := 7, holdTimer := 6 }
    (let x := m (.locate .search) c0 e
     x.inReset = false ∧ x.motion.loc = some c0 ∧ x.scanner.optical = .opaqueTape ∧ 0 ≤ decelLimit x ∧
     x.motion.mode = .locate .search ∧ quality x = .unknown ∧ 300000 ≤ mag (x.tracker.counter - c0.searchStart)) ∧
    (∀ p ∈ [LocPhase.approach, .creep],
      ∀ c ∈ [at100, { at100 with followOn := .play }, { at100 with followOn := .playOnTrigger }, far, back 0, back 3],
        let x := m (.locate p) c s
        x.inReset = false ∧ x.motion.loc = some c ∧ x.scanner.optical = .opaqueTape ∧ 0 ≤ decelLimit x ∧
        x.motion.mode = .locate p ∧ c.latch = true ∧ c.creep = none ∧ x.motion.still = 19 ∧ x.motion.vCmd = 0 ∧
        mag x.servo.vMeas < 200 ∧ mag (c.targetTick - estimate x) ≤ c.approach) ∧
    (mag (estimate s - at100.targetTick) ≤ 100 ∧ at100.followOn = .stop) ∧
    (100 < mag (estimate s - far.targetTick) ∧ ¬ far.targetTick < estimate s ∧ far.lastDir = none ∧ far.reversals < 4) ∧
    (100 < mag (estimate s - (back 0).targetTick) ∧ (back 0).targetTick < estimate s ∧ (back 0).lastDir = some .forward ∧
      (back 0).reversals + 1 < 4 ∧ (back 3).reversals + 1 = 4) ∧
    (let x := m (.locate .hold) hold s
     x.inReset = false ∧ x.motion.loc = some hold ∧ x.scanner.optical = .opaqueTape ∧ 0 ≤ decelLimit x ∧
     x.motion.mode = .locate .hold ∧ hold.holdLimit ≠ 0 ∧ hold.holdLimit = hold.holdTimer + 1 ∧ x.motion.vCmd = 0 ∧
     mag x.servo.vMeas ≤ 40000 ∧ mag (hold.targetTick - estimate x) ≤ hold.approach) := by decide

/-! ## Witnesses: scans and computations -/

/-- The rotating channel of the latest scan is `p`. -/
def scanned (p : Nat) (s : State) : State := { s with scanner := { s.scanner with pointer := p } }

theorem witness_ChannelValues :
    ∀ p ∈ [2, 3, 4, 5, 6],
      (scanned p card).inReset = false ∧ (scanned p card).scanner.table.length = 7 ∧ (scanned p card).scanner.pointer = p := by
  decide

theorem witness_ScansTaken :
    (∀ p ∈ [2, 6], (scanned p card).inReset = false ∧ (scanned p card).scanner.table.length = 7 ∧ 2 ≤ p ∧
      (scanned p card).scanner.pointer = p ∧ ∀ n ∈ [0, 1, p], n < 7) ∧
    ((5 : Nat) ≠ 0 ∧ (5 : Nat) ≠ 1 ∧ 5 ≠ (scanned 6 card).scanner.pointer ∧ 5 < 7 ∧ (scanned 2 card).scanner.pointer ≠ 6) ∧
    (scanned 6 card).monitor.due = none := by
  decide

theorem witness_ConversionFaults :
    let s := fun p => ({ scanned p cueing with
      monitor := { cueing.monitor with reel2 := 9, reel3 := 9, overload := 199, lowCount := 1 } } : State)
    (∀ p ∈ [2, 3, 4, 5],
      (s p).inReset = false ∧ (s p).motion.mode = .cue ∧ (s p).motion.loc = none ∧ (s p).motion.held = none ∧
      (s p).monitor.faults = [] ∧ (s p).monitor.due = none ∧ (s p).scanner.pointer = p ∧ (s p).monitor.reel2 = 9 ∧ (s p).monitor.reel3 = 9 ∧
      (s p).monitor.overload = 199 ∧ (s p).monitor.supplyLow = false ∧ (s p).monitor.lowCount = 1) ∧
    10000 < mag ((((4095 : Nat) : Int) - 2048) * 12000 |>.tdiv 2048) ∧
    3500 < mag ((((0 : Nat) : Int) - 2048) * 4000 |>.tdiv 2048) ∧ ((0 : Nat) : Int) * 60000 / 4096 < 38000 ∧
    (let d : State := { s 2 with monitor := { (s 2).monitor with due := some { channel := 2, code := 4095 } } }
     d.inReset = false ∧ d.motion.mode = .cue ∧ d.monitor.reel2 = 9 ∧
     d.monitor.due = some { channel := 2, code := 4095 }) := by decide

/-- R121: the reel-current conversion left due by its scan: the halt comes with the next computation, which still works in CUE. -/
theorem test_servo_first :
    let s : State := { scanned 2 cueing with monitor := { cueing.monitor with reel2 := 9 } }
    let t := after (exec (.scanCompletion { supplyArm := 2048, takeUpArm := 2048, rotating := 4095 }) s)
    t.motion.mode = .cue ∧ (after (exec .servoComputation t)).motion.mode = .halting ∧
      (after (exec .servoComputation t)).servo.tSet = 180 := by decide

theorem witness_TensionSetpoint :
    ∀ m ∈ [Mode.play .entry, .play .run, .cue, .locate .search, .locate .approach, .locate .creep, .locate .hold, .locate .run,
        .wind, .stopping .normal, .stopping .safe, .stopped .full, .stopped .eased, .stopped .restoring, .engaging, .releasing,
        .halting, .empty, .released],
      (inMode m card).inReset = false ∧ (inMode m card).motion.mode = m := by decide

theorem witness_ServoFiguresFormed :
    let f := inMode (.stopped .full) card
    let s : State := { f with scanner := { f.scanner with table := List.replicate 7 { blankChannel with code := 1968 } } }
    s.inReset = false ∧ (after (exec .servoComputation s)).motion.mode = s.motion.mode ∧ s.motion.mode.forcedZero = false := by
  decide

theorem witness_ServoLimits :
    let c : State := { cueing with
      scanner := { cueing.scanner with table := List.replicate 7 { blankChannel with code := 100 } } }
    let w : State := { c with servo := { c.servo with winCount := 15 } }
    let l : State := { c with servo := { c.servo with loss := 19 } }
    let r : State := { c with servo := { c.servo with runaway := 9, accRoller := 2401#32 } }
    let ends : List Channel := List.replicate 7 { blankChannel with code := 2048 } |>.set 0 { blankChannel with code := 63 }
    let rest : State := { inMode .released card with scanner := { card.scanner with table := ends } }
    let new : State := { c with scanner := { c.scanner with table := ends } }
    let kept : State := { new with servo := { new.servo with stopSupply := true } }
    let atEnd := fun x : State => channelCode x 0 ≤ 63 ∨ 4032 ≤ channelCode x 0
    (w.inReset = false ∧ w.servo.winCount = 15) ∧
    (l.inReset = false ∧ l.motion.mode = .cue ∧ l.motion.loc = none ∧ l.monitor.faults = [] ∧ l.monitor.due = none ∧
      atStop (channelCode l 0) = false ∧ atStop (channelCode l 1) = false ∧ l.servo.loss = 19 ∧ l.servo.runaway < 9 ∧
      OutOfWindow (servoFigures l).servo.tSet (servoFigures l).servo.tSupply) ∧
    (r.inReset = false ∧ r.motion.mode = .cue ∧ r.motion.loc = none ∧ r.monitor.faults = [] ∧ r.monitor.due = none ∧
      atStop (channelCode r 0) = false ∧ atStop (channelCode r 1) = false ∧ r.servo.runaway = 9 ∧ r.servo.loss < 19 ∧
      ((activeProfile r).windMax : Int) * 125 < mag (servoFigures r).servo.vMeas) ∧
    (rest.inReset = false ∧ rest.monitor.due = none ∧ rest.motion.mode.engaged = false ∧ atEnd rest) ∧
    (∀ x ∈ [new, kept, c],
      x.inReset = false ∧ x.monitor.due = none ∧ x.motion.mode.engaged = true ∧ x.motion.mode = .cue ∧ x.servo.loss < 19 ∧
      x.servo.runaway < 9 ∧ x.motion.loc = none ∧ x.motion.held = none ∧ x.monitor.faults = []) ∧
    (atEnd new ∧ new.servo.stopSupply = false) ∧ (atEnd kept ∧ kept.servo.stopSupply = true ∧ ¬ channelCode kept 1 ≤ 63) ∧
    ¬ atEnd c := by decide

/-- Section 5.11: released with an arm at its stop, the figure shows it and the kept flag does not. -/
theorem test_arm_released :
    let ends : List Channel := List.replicate 7 { blankChannel with code := 40 }
    let s : State := { inMode .released card with scanner := { card.scanner with table := ends } }
    let t := after (exec .servoComputation s)
    t.servo.foundSupply = true ∧ t.servo.stopSupply = false := by decide

/-! ## Witnesses: counts and reads -/

theorem witness_CountsTaken :
    (card.inReset = false ∧ ¬ InRun card) ∧
    ((run card).inReset = false ∧ InRun (run card) ∧ (run card).punch.entries = [] ∧ NoRecording (run card)) := by decide

theorem witness_PositionTests :
    let e := entry false (.active false (some 100001) { block := 1000, sample := 5 })
    let s := recording (armedWith e (run (reel (paired 999 1020 card))))
    let w := entry true (.armed .waiting false)
    let c := armedWith w (run (reel (paired 1002 1020 card)))
    let u : State := { c with capstan := { c.capstan with lock := false } }
    let f := entry false (.armed .waiting false)
    let v := armedWith f (run (reel (paired 1002 1020 card)))
    let n : State := { v with punch := { v.punch with permit := false } }
    (s.inReset = false ∧ InRun s ∧ s.punch.entries = [e] ∧ e.rehearse = false ∧ s.punch.manual = .off ∧ ¬ MonitorOn s ∧ GateOn s ∧
      100001 ≤ estimate (after (exec (.rollerCount .forward) s))) ∧
    (c.inReset = false ∧ InRun c ∧ c.punch.entries = [w] ∧ w.state = .armed .waiting false ∧ w.rehearse = true ∧ NoRecording c ∧
      leadPoint c w ≤ estimate (after (exec (.rollerCount .forward) c)) ∧ c.punch.zones = [] ∧
      quality (after (exec (.rollerCount .forward) c)) = .locked ∧ c.capstan.lock = true ∧
      estimate (after (exec (.rollerCount .forward) c)) < ((markBlock c w.inMark : Int) + 3) * 100) ∧
    (∀ y ∈ [v, n],
      y.inReset = false ∧ InRun y ∧ y.punch.entries = [f] ∧ f.state = .armed .waiting false ∧ f.rehearse = false ∧
      NoRecording y ∧ leadPoint y f ≤ estimate (after (exec (.rollerCount .forward) y)) ∧ y.punch.zones = [] ∧
      quality (after (exec (.rollerCount .forward) y)) = .locked ∧ y.capstan.lock = true ∧
      estimate (after (exec (.rollerCount .forward) y)) < ((markBlock y f.inMark : Int) + 3) * 100) ∧
    (v.punch.permit = true ∧ TrackFree v f.tracks) ∧ n.punch.permit = false ∧
    (u.inReset = false ∧ InRun u ∧ u.punch.entries = [w] ∧ NoRecording u ∧
      leadPoint u w ≤ estimate (after (exec (.rollerCount .forward) u)) ∧ u.punch.zones = [] ∧
      quality (after (exec (.rollerCount .forward) u)) = .locked ∧ u.capstan.lock = false) := by decide

theorem witness_ReadsJudged :
    let bad := { readOf 1000 1000 with good := false }
    let p := playing (reel card)
    let p15 : State := { p with tracker := { p.tracker with rejects := 15 } }
    let n := playing card
    let k : State := { n with tracker := { n.tracker with candidate := some { tag := 4117, rate := .r48000 } } }
    (card.inReset = false ∧ ¬ GoodFormat bad card ∧ ¬ InReadWindow card) ∧
    (p.inReset = false ∧ ¬ GoodFormat bad p ∧ InReadWindow p ∧ p.tracker.rejects ≠ 15) ∧
    (p.tracker.loaded ≠ none ∧ p.tracker.loaded ≠ some { tag := 5, rate := .r48000 }) ∧
    (p15.inReset = false ∧ ¬ GoodFormat bad p15 ∧ InReadWindow p15 ∧ p15.tracker.rejects = 15) ∧
    (n.inReset = false ∧ GoodFormat (readOf 1048575 0) n ∧ n.tracker.loaded = none ∧ TableForm n ∧
      n.tracker.candidate ≠ some { tag := 4117, rate := .r48000 } ∧ n.tracker.rejects < 15) ∧
    (k.inReset = false ∧ GoodFormat (readOf 1000 0) k ∧ k.tracker.loaded = none ∧ TableForm k ∧
      k.tracker.candidate = some { tag := 4117, rate := .r48000 }) := by decide

theorem witness_ReadsPlaced :
    let l : Anchor := { count := 1000, ticks := 100000, live := true }
    let s := playing (reel card)
    let n := playing card
    let e : State := { n with tracker := { n.tracker with candidate := some { tag := 4117, rate := .r48000 } } }
    let j : State := { s with tracker := { s.tracker with jump := some { count := 900, block := 5000 } } }
    (∀ x ∈ [s, j],
      x.inReset = false ∧ (∀ r ∈ [readOf 1000 1000, readOf 1100 11000, readOf 1051 1000, readOf 5001 1000], GoodFormat r x) ∧
      x.tracker.loaded = some { tag := 4117, rate := .r48000 } ∧ x.marks = [] ∧ x.punch.zones = [] ∧ NothingPlanned x ∧ ¬ InRun x) ∧
    (e.inReset = false ∧ GoodFormat (readOf 1000 1000) e ∧ e.tracker.loaded = none ∧
      e.tracker.candidate = some { tag := 4117, rate := .r48000 } ∧ e.tracker.map = [] ∧ e.tracker.jump = none ∧ e.marks = [] ∧
      e.punch.zones = [] ∧ NothingPlanned e ∧ ¬ InRun e) ∧
    (s.tracker.map = [l] ∧ l.live = true ∧ s.tracker.jump = none) ∧
    (mag (1000 * 100 - estimateAt [l] 1000) ≤ 5000 ∧ mag (1000 - l.count) < 10000) ∧
    (mag (1100 * 100 - estimateAt [l] 11000) ≤ 5000 ∧ 10000 ≤ 11000 - l.count ∧
      19 * (11000 - l.count) ≤ 20 * (1100 * 100 - l.ticks) ∧ 20 * (1100 * 100 - l.ticks) ≤ 21 * (11000 - l.count)) ∧
    5000 < mag (1051 * 100 - estimateAt s.tracker.map 1000) ∧
    (j.tracker.jump = some { count := 900, block := 5000 } ∧ mag (((5001 : Nat) - 5000 : Int) * 100 - (1000 - 900)) ≤ 200) := by
  decide

/-- The phase events: a map of one live anchor, as the read before has left it. -/
theorem witness_PunchesMade_phase :
    let r := readOf 1000 1000
    let late := { r with time := 1251#32 }
    let p := run (reel card)
    let s := fun n => ({ p with capstan := { p.capstan with lock := false, lockCount := n } } : State)
    (∀ n ∈ [14, 15],
      (s n).inReset = false ∧ GoodFormat r (s n) ∧ GoodFormat late (s n) ∧ InRun (s n) ∧
      (s n).tracker.loaded = some { tag := r.tag, rate := r.rate } ∧ (s n).marks = [] ∧ NothingPlanned (s n) ∧
      MapLaw (s n) ∧ (s n).tracker.map ≠ [] ∧ (s n).tracker.jump = none ∧
      mag ((r.block : Int) * 100 - estimateAt (s n).tracker.map r.latched) ≤ 5000 ∧
      (s n).punch.zones = [] ∧ (s n).capstan.lock = false ∧ (s n).capstan.lockCount = n ∧
      phaseError (s n).capstan r.time = 300 ∧ phaseError (s n).capstan late.time = 1251) := by decide

theorem witness_PunchesMade :
    let r := readOf 1000 1000
    let m := mark .punchIn 1000 (some 2)
    let o := mark .punchOut 1020 (some 1)
    let base := fun (a b : Nat) (e : EntryState) => armedWith (entry false e) (run (reel (paired a b card)))
    let i := base 1000 1020 (.armed .cleared false)
    let q := recording (base 980 1000 (.active false none { block := 980, sample := 5 }))
    (∀ s ∈ [i, q],
      s.inReset = false ∧ GoodFormat r s ∧ InRun s ∧ s.tracker.loaded = some { tag := r.tag, rate := r.rate } ∧
      MapLaw s ∧ s.tracker.map ≠ [] ∧ s.tracker.jump = none ∧
      mag ((r.block : Int) * 100 - estimateAt s.tracker.map r.latched) ≤ 5000 ∧ GateLaw s ∧
      s.punch.manual = .off ∧ s.punch.zones = [] ∧ ¬ MonitorOn s ∧
      s.capstan.lock = true ∧ (∀ x ∈ s.marks, x.2.standing = .firm) ∧ mag (phaseError s.capstan r.time) ≤ 2500 ∧
      s.punch.permit = true ∧ r.latched = s.tracker.counter) ∧
    (markAt i 1 = some m ∧ markAt i 2 = some o ∧ ¬ GateOn i ∧ i.punch.entries = [entry false (.armed .cleared false)] ∧
      TrackFree i .a ∧ r.block = m.addr.block) ∧
    (markAt q 1 = some (mark .punchIn 980 (some 2)) ∧ markAt q 2 = some (mark .punchOut 1000 (some 1)) ∧ GateOn q ∧
      q.punch.entries = [entry false (.active false none { block := 980, sample := 5 })] ∧ 980 ≤ r.block) := by decide

/-- A recording short of its drop point at tick 100,195, and the read of block `b` at tick 100,192 of the old map. -/
def beforeDrop (b : Nat) : State :=
  let s := recording (armedWith (entry false (.active false (some 100195) { block := 1000, sample := 5 }))
    (run (reel (paired 1000 1030 card))))
  let g := { mark .guardStart 1001 none with addr := { block := 1001, sample := 456 } }
  let s : State := { s with marks := s.marks ++ [(5, g)], tracker := { s.tracker with counter := 1192 } }
  after (exec (.addressRead (readOf b 1192)) { s with punch := { s.punch with zones := zonesOf s } })

/-- R158, R159: the read beyond the drop block puts the estimate into the zone and ends UNCLEAN_OUT, not ABORTED. -/
theorem test_read_beyond_drop :
    let t := beforeDrop 1002
    InGuard t (estimate t) ∧ ¬ GateOn t ∧ t.punch.last.map Completion.result = some .uncleanOut ∧
      t.punch.last.map Completion.actualOut = some (some { block := 1002, sample := 0 }) := by decide

/-- R158: the read of the drop block short of the drop point closes with its sample, GUARDED. -/
theorem test_read_of_drop :
    let t := beforeDrop 1001
    ¬ GateOn t ∧ t.punch.offset = 456 ∧ t.punch.last.map Completion.result = some .guarded := by decide

/-- Entry 1 recording with its drop point at tick 100,105 of a zone to 100,125, entry 3 CLEARED with its in block 1001 too. -/
def beforeSecond : State :=
  let a := { entry false (.active false (some 100105) { block := 999, sample := 0 }) with inMark := 1, outMark := 2 }
  let b := { entry false (.armed .cleared false) with inMark := 3, outMark := 4 }
  let at' := fun (k : MarkKind) (n s p : Nat) => { mark k n (some p) with addr := { block := n, sample := s } }
  let s := recording (run (reel card))
  let s : State := { s with
    marks := [(1, at' .punchIn 980 0 2), (2, at' .punchOut 1000 96 1), (3, at' .punchIn 1001 144 4), (4, at' .punchOut 1030 0 3),
      (5, at' .guardStart 1001 24 6), (6, at' .guardEnd 1001 120 5)]
    tracker := { s.tracker with counter := 1130, map := [{ count := 1000, ticks := 99900, live := true }] }
    punch := { s.punch with entries := [a, b] } }
  { s with punch := { s.punch with zones := zonesOf s } }

/-- R152: a read that carries the estimate past the whole zone opens no second entry; the count after it ends the first
UNCLEAN_OUT, and the next block's read opens the second late. -/
theorem test_one_active :
    let states := fun s : State => s.punch.entries.map Entry.isActive
    let t := after (exec (.addressRead (readOf 1001 1100)) beforeSecond)
    let u := after (exec (.rollerCount .forward) t)
    let v := after (exec (.addressRead (readOf 1002 1200)) { u with tracker := { u.tracker with counter := 1200 } })
    estimate t = 100130 ∧ states t = [true, false] ∧ states u = [false, false] ∧
      u.punch.last.map Completion.result = some .uncleanOut ∧ states v = [false, true] ∧ GateOn v := by decide

/-- Log entry 37: the read of the in block that ends a manual record (offset 0, R165) and opens an entry leaves the in-mark's
sample as the offset; without the entry it leaves 0. -/
theorem test_offset_of_opening :
    let s := recording (run (reel (paired 1000 1030 card)))
    let m : State := { s with punch := { s.punch with offset := 9, manual := .pendingOff .a none } }
    let t := after (exec (.addressRead (readOf 1000 1000)) (armedWith (entry false (.armed .cleared false)) m))
    let u := after (exec (.addressRead (readOf 1000 1000)) m)
    t.punch.manual = .off ∧ GateOn t ∧ t.punch.offset = 5 ∧ u.punch.manual = .off ∧ ¬ GateOn u ∧ u.punch.offset = 0 := by decide

/-! ## Witnesses: reference, inputs, medium -/

theorem witness_EdgesTaken :
    let p := run card
    let k := fun (r : RefState) (d : Nat) => ({ card with capstan := { card.capstan with refState := r, divider := d } } : State)
    let three : State := { p with capstan := { p.capstan with missed := 3 } }
    (card.inReset = false ∧ card.capstan.refState ≠ .external ∧ ¬ InRun card) ∧
    (p.inReset = false ∧ p.capstan.refState ≠ .external ∧ InRun p ∧ p.capstan.missed ≠ 3) ∧
    ((k .external 0).inReset = false ∧ (k .external 0).capstan.refState = .external) ∧
    (three.inReset = false ∧ three.capstan.refState ≠ .external ∧ InRun three ∧ three.capstan.missed = 3 ∧ NoRecording three) ∧
    card.capstan.refState = .internal ∧
    ((k .qualifying 478).inReset = false ∧ (k .qualifying 478).capstan.refState ≠ .internal ∧
      (k .qualifying 478).capstan.divider + 1 < spb (k .qualifying 478)) ∧
    ((k .external 479).inReset = false ∧ (k .external 479).capstan.refState ≠ .internal ∧
      (k .external 479).capstan.divider + 1 = spb (k .external 479) ∧ (k .external 479).capstan.openAt = none) := by decide

theorem witness_ReferenceTurns :
    let s := fun r => ({ card with
      capstan := { card.capstan with refState := r, divider := 479, openAt := some 7#32, qual := 63, silence := some 7#32 } } : State)
    (∀ r ∈ [RefState.qualifying, .fallback, .external],
      (s r).inReset = false ∧ NoRecording (s r) ∧ (s r).capstan.refState = r ∧ (s r).capstan.divider + 1 = spb (s r) ∧
      (s r).capstan.openAt = some 7#32 ∧ (s r).capstan.qual = 63 ∧ (s r).capstan.silence ≠ none) ∧
    ¬ InRun (s .external) ∧
    (∀ k ∈ [2, 3, 4],
      let x : State := { (run card) with capstan := { (s .external).capstan with missed := k } }
      x.inReset = false ∧ NoRecording x ∧ InRun x ∧ x.capstan.refState = .external ∧ x.capstan.divider + 1 = spb x ∧
      x.capstan.openAt = some 7#32 ∧ x.capstan.missed = k) ∧
    8929 ≤ (8936#32 - 7#32).toNat ∧ (11370#32 - 7#32).toNat ≤ 11363 ∧ (8935#32 - 7#32).toNat < 8929 ∧
    11363 < (11371#32 - 7#32).toNat := by decide

theorem witness_InputsAndMedium :
    let c := fun j => { going 100000 card with judgement := some j }
    let a : State := { card with capstan := { card.capstan with startArmed := true } }
    let hd := inMode (.locate .hold) a
    let b := fun j => (reel { hd with motion := { hd.motion with loc := some (c j) } } : State)
    let e := fun (late : Bool) (drop : Option Int) => entry false (.active late drop { block := 1000, sample := 5 })
    let g := fun late drop => recording (armedWith (e late drop) (run (reel (paired 1000 1020 card))))
    let w := fun n : Nat => ({ stage := n, snapshot := snapshot card } : Save)
    let v := fun n => ({ card with store := { card.store with save := some (w n) } } : State)
    (card.inReset = false ∧ card.capstan.startArmed = false) ∧
    (a.inReset = false ∧ a.capstan.startArmed = true ∧ a.capstan.startHigh = true ∧ a.motion.mode ≠ .locate .hold) ∧
    (∀ j ∈ [Judgement.arrived, .reckoned],
      (b j).inReset = false ∧ (b j).capstan.startArmed = true ∧ (b j).capstan.startHigh = true ∧
      (b j).motion.mode = .locate .hold ∧ (b j).motion.loc = some (c j) ∧ (b j).motion.held = none ∧
      (c j).judgement = some j ∧ (b j).punch.entries = [] ∧ NoRecording (b j) ∧ quality (b j) ≠ .unknown) ∧ NoRecording card ∧
    (∀ late ∈ [false, true], ∀ drop ∈ [none, some 99000, some 102000],
      let x := g late drop
      x.inReset = false ∧ GateLaw x ∧ MonitorLaw x ∧ x.punch.manual = .off ∧ GateOn x ∧ ¬ MonitorOn x ∧
      x.punch.entries = [e late drop] ∧ (e late drop).state = .active late drop { block := 1000, sample := 5 } ∧
      (e late drop).rehearse = false) ∧
    (card.inReset = false ∧ card.store.save = none) ∧
    (∀ n ∈ [1, 2, 3, 4], (v n).inReset = false ∧ (v n).store.save = some (w n) ∧ (w n).stage = n) := by decide

/-! ## Witnesses: requests -/

theorem witness_TransportRequests :
    let r := taped (inMode .released card)
    let cl := inMode .released card
    let st := fun l => inMode (.stopped l) card
    (Hears (.engage h 7) r ∧ r.motion.mode = .released ∧ r.scanner.optical = .opaqueTape ∧ r.monitor.faults = [] ∧ 7 ≤ 7) ∧
    (Hears (.engage h 7) cl ∧ cl.motion.mode = .released ∧ cl.scanner.optical = .clear) ∧
    (Hears (.engage h 7) faulted ∧ faulted.motion.mode = .released ∧ faulted.scanner.optical = .opaqueTape ∧
      faulted.monitor.faults ≠ []) ∧
    (∀ l ∈ [Level.full, .eased, .restoring],
      Hears (.release h) (st l) ∧ (st l).motion.mode = .stopped l ∧ (st l).motion.held = none) ∧
    (Hears (.stop h [9#8]) cueing ∧ cueing.motion.mode = .cue) ∧
    (Hears (.stop h []) (st .full) ∧ (st .full).motion.mode = .stopped .full) := by decide

theorem witness_MotionRequests :
    let f := inMode (.stopped .full) card
    let e := inMode (.stopped .eased) card
    let k := inMode (.stopped .full) (reel card)
    (f.motion.loc = none ∧ f.motion.mode = .stopped .full ∧ Hears (.play h) f ∧ quality f = .unknown ∧ Hears (.cue h 401) f ∧
      Hears (.wind h 0 1) f ∧ Hears (.wind h 1 1200) f) ∧
    (e.motion.loc = none ∧ e.motion.mode = .stopped .eased ∧ e.motion.held = none ∧ Hears (.play h) e ∧ quality e = .unknown ∧
      Hears (.wind h 0 1200) e) ∧
    (Hears (.play h) k ∧ k.motion.mode = .stopped .full ∧ NothingPlanned k ∧ quality k ≠ .unknown) := by decide

theorem witness_LocateBegins :
    let s := inMode (.stopped .full) (reel card)
    let a : Addr := { block := 1048575, sample := 479 }
    let m := mark .cue 1001 none
    let b := mark .cue 998 none
    let k : State := { s with marks := [(0, m), (99, b)] }
    (∀ x ∈ [s, k], x.motion.mode = .stopped .full ∧ x.motion.loc = none) ∧ followOnOf 1 = some .play ∧
    (Hears (.locate h (.address a) 3000 1 60000) s ∧ a.block ≤ 1048575 ∧ a.sample < spb s) ∧
    (TableForm k ∧ quality k ≠ .unknown ∧ markAt k 0 = some m ∧ m.tag = loadedTag k ∧ markAt k 99 = some b ∧
      b.tag = loadedTag k ∧ Hears (.locate h (.mark 99) 0 1 0) k ∧ Hears (.locate h .next 0 1 0) k ∧
      Hears (.locate h .previous 0 1 0) k) ∧
    (estimate k + 100 ≤ tickValue k m ∧ ∀ p ∈ k.marks, p.2.tag = loadedTag k → estimate k + 100 ≤ tickValue k p.2 →
      tickValue k m < tickValue k p.2 ∨ (tickValue k m = tickValue k p.2 ∧ 0 ≤ p.1)) ∧
    (tickValue k b ≤ estimate k - 100 ∧ ∀ p ∈ k.marks, p.2.tag = loadedTag k → tickValue k p.2 ≤ estimate k - 100 →
      tickValue k p.2 < tickValue k b ∨ (tickValue k b = tickValue k p.2 ∧ p.1 ≤ 99)) := by decide

theorem witness_BlockReads :
    (∀ i ∈ [Instr.positionRead h, .tensionRead h, .senseRead h, .referenceRead h, .locateRead h, .punchRead h, .storeRead h,
      .faultRead h], Hears i card) ∧ card.store.save = none ∧
    let v := { card with store := { card.store with save := some { stage := 2, snapshot := snapshot card } } }
    Hears (.storeRead h) v := by decide

theorem witness_AnchorRead :
    let s := reel card
    (Hears (.anchorRead h 0) s ∧ MapLaw s ∧ s.tracker.map[0]? = some { count := 1000, ticks := 100000, live := true }) ∧
    (Hears (.anchorRead h 1) s ∧ s.tracker.map.length ≤ 1) := by decide

theorem witness_ProfileRead :
    (Hears (.profileRead h 8) card ∧ 7 < 8) ∧
    (Hears (.profileRead h 7) card ∧ 7 ≤ 7 ∧ card.store.profiles[7]? = some Config.factoryProfile) := by decide

theorem witness_Identify : Hears (.identify h) card := by decide

theorem witness_PortRequests :
    let s : State := { card with link := { card.link with slot := some 7 } }
    (Hears (.statusPoll h 3) card ∧ Hears (.serviceMask h 0x07FF) card ∧ Hears (.pollConfigure h 255 4 1) card ∧
      Hears (.pollConfigure h 7 0 0) card) ∧
    (Hears (.groupPoll h) s ∧ s.link.slot ≠ none) ∧
    (s.inReset = false ∧ s.link.silent = false ∧ s.link.tx = .quiet ∧ all.dest = 31 ∧ StationOk all.station) ∧
    (card.inReset = false ∧ card.link.silent = false ∧ card.link.tx = .quiet ∧ card.link.slot = none) := by decide

theorem witness_CardRequests :
    let p := { Config.factoryProfile with hub := 2500 }
    let x : State := { card with capstan := { card.capstan with refState := .external } }
    (Hears (.faultClear h) faulted ∧ Parked faulted) ∧
    (Hears (.profileWrite h 0 p) card ∧ 0 ≤ 7 ∧ NameOk p.name ∧ ProfileRanges p ∧ Parked card) ∧
    (Hears (.storeSave h) card ∧ card.store.save = none) ∧ (Hears (.reset h) card ∧ Parked card) ∧
    (card.inReset = false ∧ card.link.silent = false ∧ card.link.tx = .quiet ∧ all.dest = 31 ∧ StationOk all.station) ∧
    (NoRecording card ∧ Hears (.referenceSelect h 1) card ∧ Hears (.referenceSelect h 0) card ∧
      card.capstan.refState = .internal) ∧
    (NoRecording x ∧ Hears (.referenceSelect h 0) x ∧ x.capstan.refState = .external) := by decide

theorem witness_MarksSet :
    let l := reel card
    let r : State := { l with tracker := { l.tracker with counter := 1301 } }
    let lb : Label := List.replicate 13 0x7E#8
    let o : Mark := { mark .cue 7 none with locked := true }
    let w : State := { l with marks := [(99, o)] }
    (∀ s ∈ [card, l, r], NothingPlanned s ∧ markAt s 99 = none ∧ firstFree s = some 1 ∧ markAt s 1 = none) ∧
    (NothingPlanned w ∧ markAt w 99 = some o ∧ o.partner = none ∧ o.locked = true ∧ o.owner = h.station ∧
      Hears (.markSet h 99 4 { block := 0, sample := 0 } lb) w ∧ Hears (.markHere h 99 4 lb) w ∧ quality w = .locked) ∧
    kindOf 4 = some .guardEnd ∧ PlainLabel lb ∧
    (Hears (.markSet h 99 4 { block := 1048575, sample := 479 } lb) l ∧ 479 < spb l) ∧
    (Hears (.markHere h 255 4 lb) l ∧ quality l = .locked) ∧ (Hears (.markHere h 255 4 lb) r ∧ quality r = .reckoned) ∧
    (Hears (.markHere h 99 4 lb) card ∧ quality card = .unknown) := by decide

theorem witness_MarksChanged :
    let m := mark .cue 7 none
    let s : State := { reel card with marks := [(99, m)] }
    let o : State := { reel card with marks := [(99, { m with owner := 2 })] }
    (1 ≤ 99 ∧ 99 ≤ 99 ∧ markAt s 99 = some m ∧ m.locked = false ∧ NothingPlanned s ∧ m.tag = loadedTag s ∧ m.partner = none) ∧
    (Hears (.markMove h 99 { block := 0, sample := 479 }) s ∧ 479 < spb s) ∧ (Hears (.markTrim h 99 (-48000)) s ∧ m.standing = .firm) ∧
    (let q := paired 1000 1020 (reel card)
     let i := mark .punchIn 1000 (some 2)
     NothingPlanned q ∧ markAt q 1 = some i ∧ Hears (.markMove h 1 { block := 1010, sample := 5 }) q ∧
     Hears (.markTrim h 1 4800) q ∧
     ∀ p ∈ i.partner, ∀ o ∈ markAt q p, OrderHolds i.kind (tickOf { block := 1010, sample := 5 } (spb q)) o.kind (tickValue q o)) ∧
    (Hears (.markName h 99 []) s ∧ PlainLabel []) ∧
    (Hears (.markLock h 99) s ∧ Hears (.markUnlock h 99) s ∧ m.owner = h.station) ∧
    (markAt o 99 = some { m with owner := 2 } ∧ Hears (.markLock h 99) o ∧ 2 ≠ h.station) := by decide

theorem witness_MarksLinked :
    let a := mark .punchIn 100 none
    let b := mark .punchOut 110 none
    let u : State := { reel card with marks := [(1, a), (99, b)] }
    let p : State := { reel card with marks := [(1, { a with partner := some 99 }), (99, { b with partner := some 1 })] }
    (NothingPlanned u ∧ markAt u 1 = some a ∧ markAt u 99 = some b ∧ a.locked = false ∧ b.locked = false ∧
      Hears (.markPair h 1 99) u ∧ a.tag = loadedTag u ∧ b.tag = loadedTag u ∧ a.partner = none ∧ b.partner = none ∧
      a.kind = .punchIn ∧ b.kind = .punchOut ∧ tickValue u a + 1000 ≤ tickValue u b ∧ Hears (.markRetire h 1) u ∧
      Hears (.markPair h 99 1) u ∧ Hears (.markUnpair h 1) u) ∧
    (let x := mark .guardStart 100 none
     let y := mark .guardEnd 100 none
     let g : State := { reel card with marks := [(1, x), (99, y)] }
     NothingPlanned g ∧ Hears (.markPair h 1 99) g ∧ Hears (.markPair h 99 1) g ∧ tickValue g x ≤ tickValue g y) ∧
    (NothingPlanned p ∧ markAt p 1 = some { a with partner := some 99 } ∧ markAt p 99 = some { b with partner := some 1 } ∧
      Hears (.markUnpair h 1) p ∧ TableForm p) := by decide

theorem witness_RetiredMarksGone :
    let s := armedWith (entry false (.armed .idle false)) (reel (paired 1000 1020 card))
    TableForm s ∧ Hears (.markRetire h 1) s ∧ markAt s 1 = some (mark .punchIn 1000 (some 2)) ∧
    (mark .punchIn 1000 (some 2)).locked = false ∧ Hears (.markRetireReel h 4117) s ∧
    let c := { going 100000 s with target := .mark 1 }
    let r := inMode (.stopped .restoring) s
    let g : State := { r with motion := { r.motion with held := some (.locate c) } }
    TableForm g ∧ Hears (.markRetire h 1) g ∧ markAt g 1 = some (mark .punchIn 1000 (some 2)) ∧
    g.motion.held = some (.locate c) ∧ c.target = .mark 1 ∧ ContextLaw g := by decide

theorem witness_MarksFound :
    let m := mark .cue 1001 none
    let p := mark .cue 998 none
    let s : State := { reel card with marks := [(5, m), (6, m), (7, p), (8, p)] }
    TableForm s ∧ (Hears (.markRead h 99) s ∧ markAt s 99 = none) ∧ Hears (.markRead h 5) s ∧
    (markAt s 5 = some m ∧ m.tag = loadedTag s ∧ Hears (.markFindNext h) s ∧ quality s ≠ .unknown ∧
      estimate s + 100 ≤ tickValue s m ∧
      ∀ q ∈ s.marks, q.2.tag = loadedTag s → estimate s + 100 ≤ tickValue s q.2 →
        tickValue s m < tickValue s q.2 ∨ (tickValue s m = tickValue s q.2 ∧ 5 ≤ q.1)) ∧
    (markAt s 8 = some p ∧ Hears (.markFindPrevious h) s ∧ tickValue s p ≤ estimate s - 100 ∧
      ∀ q ∈ s.marks, q.2.tag = loadedTag s → tickValue s q.2 ≤ estimate s - 100 →
        tickValue s q.2 < tickValue s p ∨ (tickValue s p = tickValue s q.2 ∧ q.1 ≤ 8)) ∧
    (Hears (.markFindNearest h { block := 1048575, sample := 0 }) s ∧
      ∀ q ∈ s.marks, q.2.tag = loadedTag s →
        mag (tickValue s m - 104857500) < mag (tickValue s q.2 - 104857500) ∨
        (mag (tickValue s m - 104857500) = mag (tickValue s q.2 - 104857500) ∧ 5 ≤ q.1)) ∧
    (Hears (.markFindLabel h [0x41#8]) s ∧ m.label = [0x41#8] ∧ PlainLabel [0x41#8] ∧
      ∀ q ∈ s.marks, q.2.tag = loadedTag s → q.2.label = [0x41#8] → 5 ≤ q.1) := by decide

/-- R33: a label with a character outside 0x20 to 0x7E is refused RANGE. -/
theorem test_find_label_range :
    (after (exec (.markFindLabel h [0x41#8, 0x1F#8]) card)).link.tx =
      .replyDue (replyTo ⟨h, 1, 17, [0x41#8, 0x1F#8]⟩ .range [] card) false := by decide

/-- A locate to mark 3 of the reel, in phase `p`. -/
def seeking (p : LocPhase) : State :=
  let s := taped (reel card)
  let c := { going 100000 s with target := .mark 3 }
  { s with marks := [(3, mark .cue 1000 none)], motion := { s.motion with mode := .locate p, loc := some c } }

theorem witness_MarkChangesFollowed_locate :
    (∀ p ∈ [LocPhase.search, .run, .approach, .creep, .hold],
      let s := seeking p
      s.motion.loc = some { going 100000 s with target := .mark 3 } ∧ s.motion.mode = .locate p ∧
      (∀ b ∈ [1000, 1002, 1400], Hears (.markMove h 3 { block := b, sample := 5 }) s) ∧ s.motion.held = none ∧
      s.punch.entries = [] ∧ NoRecording s ∧ markAt s 3 = some (mark .cue 1000 none) ∧ (5 : Nat) < spb s ∧
      (mark .cue 1000 none).tag = loadedTag s ∧ Hears (.markRetire h 3) s ∧ ContextLaw s ∧ TableForm s ∧
      mag (100001 - estimate s) ≤ 100 ∧ 100 < mag (100201 - estimate s) ∧ mag (100201 - estimate s) ≤ 30000 ∧
      30000 < mag (140001 - estimate s)) ∧
    (∀ p ∈ [LocPhase.approach, .creep, .hold],
      let s := seeking p
      let x : State := { s with motion := { s.motion with loc := some (going 130001 s) } }
      x.inReset = false ∧ x.motion.loc = some (going 130001 s) ∧ x.motion.mode = .locate p ∧
      30000 < mag (130001 - estimate x) ∧ x.scanner.optical = .opaqueTape) := by decide

theorem witness_MarkChangesFollowed_reel :
    let r := { readOf 1000 1000 with rate := .r44100 }
    let n := playing card
    let c := { going 0 n with target := .address { block := 500, sample := 479 } }
    let s : State := { n with
      tracker := { n.tracker with candidate := some { tag := 4117, rate := .r44100 } }
      motion := { n.motion with mode := .locate .search, loc := some c } }
    s.inReset = false ∧ GoodFormat r s ∧ s.tracker.loaded = none ∧
    s.tracker.candidate = some { tag := r.tag, rate := r.rate } ∧ r.rate = .r44100 ∧ s.capstan.refState = .internal ∧
    s.tracker.map = [] ∧ s.tracker.jump = none ∧ s.marks = [] ∧ s.punch.zones = [] ∧ s.punch.entries = [] ∧ NoRecording s ∧
    s.motion.held = none ∧ s.motion.mode = .locate .search ∧ s.motion.loc = some c ∧
    c.target = .address { block := 500, sample := 479 } := by decide

theorem witness_MarkChangesFollowed_guard :
    let m := fun b k => Instr.markSet h 7 k { block := b, sample := 0 } []
    let w := entry false (.armed .waiting false)
    let x := entry false (.active false none { block := 1000, sample := 5 })
    let a := armedWith w (run (reel (paired 1010 1030 card)))
    let q := recording (armedWith x (run (reel (paired 1000 1030 card))))
    (∀ b ∈ [1000, 1015, 2000], ∀ k ∈ [3, 4], Hears (m b k) a ∧ Hears (m b k) q) ∧
    (∀ s ∈ [a, q],
      markAt s 7 = none ∧ (0 : Nat) < spb s ∧ s.motion.loc = none ∧ s.motion.held = none ∧ s.punch.manual = .off ∧ GateLaw s ∧
      ¬ MonitorOn s) ∧
    (a.punch.entries = [w] ∧ w.state = .armed .waiting false ∧ ¬ GateOn a ∧
      OverlapsGuard (after (exec (m 1015 3) a)) (entryIn a w) (entryOut a w + 100) ∧
      ¬ OverlapsGuard (after (exec (m 2000 3) a)) (entryIn a w) (entryOut a w + 100)) ∧
    (q.punch.entries = [x] ∧ x.state = .active false none { block := 1000, sample := 5 } ∧ x.rehearse = false ∧ GateOn q ∧
      InGuard (after (exec (m 1000 3) q)) (estimate q) ∧ ¬ InGuard (after (exec (m 1015 3) q)) (estimate q) ∧
      (formDrop (after (exec (m 1015 3) q)) x).isSome = true ∧ formDrop (after (exec (m 2000 3) q)) x = none) := by decide

/-- Entries 1 and 3 on the pairs of marks 1, 2 and 3, 4, in the given order of the list. -/
def twoArmed (a b c d : Nat) (l : List Nat) : State :=
  let e := entry false (.armed .idle false)
  { reel card with
    marks := [(1, mark .punchIn a (some 2)), (2, mark .punchOut b (some 1)), (3, mark .punchIn c (some 4)),
      (4, mark .punchOut d (some 3))]
    punch := { card.punch with entries := l.map fun n => { e with inMark := n, outMark := n + 1 } } }

/-- Entry 1 after entry 3 and before it: the move of mark 1 to 1010 makes the ranges overlap, the others do not. -/
theorem witness_MarkChangesFollowed_entries :
    let e := entry false (.armed .idle false)
    let f : Entry := { e with inMark := 3, outMark := 4 }
    let order := fun (b : Nat) (s : State) => ∀ p ∈ (mark .punchIn 1030 (some 2)).partner, ∀ o ∈ markAt s p,
      OrderHolds .punchIn (tickOf { block := b, sample := 0 } (spb s)) o.kind (tickValue s o)
    let s := twoArmed 1030 1060 1000 1015 [3, 1]
    let u := twoArmed 1030 1060 1070 1090 [1, 3]
    (∀ x ∈ [s, u],
      MarkLaw x ∧ (∀ b ∈ [1010, 1040], Hears (.markMove h 1 { block := b, sample := 0 }) x ∧ order b x) ∧
      markAt x 1 = some (mark .punchIn 1030 (some 2)) ∧ (mark .punchIn 1030 (some 2)).tag = loadedTag x ∧
      (0 : Nat) < spb x ∧ x.motion.loc = none ∧ x.motion.held = none ∧ NoRecording x ∧ x.punch.zones = [] ∧
      ∀ q ∈ x.marks, q.2.kind ≠ .guardStart ∧ q.2.kind ≠ .guardEnd) ∧
    s.punch.entries = [f, e] ∧ u.punch.entries = [e, f] ∧ e.isActive = false ∧ f.isActive = false ∧ e.inMark = 1 ∧
    f.inMark ≠ 1 ∧ f.outMark ≠ 1 := by decide

theorem witness_MarkChangesFollowed_armed :
    ArmedLaw (twoArmed 1030 1060 1000 1015 [3, 1]) ∧ ArmedLaw (twoArmed 1030 1060 1070 1090 [1, 3]) := by
  constructor <;>
  · refine ⟨by decide, by decide, by decide, fun e he => ?_⟩
    simp only [twoArmed, List.map_cons, List.map_nil, List.mem_cons, List.not_mem_nil, or_false] at he
    rcases he with rfl | rfl <;> exact ⟨by decide, by decide, fun late d ain h => by simp [entry] at h⟩

/-- R48: both marks of a guard pair freed before the report: nothing is left, and the recording goes on. -/
theorem test_retire_reel :
    let x := entry false (.active false none { block := 1000, sample := 5 })
    let q := recording (armedWith x (run (reel (paired 1000 1030 card))))
    let g := fun k b p => ({ mark k b (some p) with tag := none } : Mark)
    let s : State := { q with marks := q.marks ++ [(8, g .guardStart 900 9), (9, g .guardEnd 910 8)] }
    let t := after (exec (.markRetireReel h 0) s)
    t.marks = q.marks ∧ t.punch.entries = [x] ∧ GateOn t := by decide

theorem witness_ArmAndDisarm :
    let s := run (reel (paired 1020 1040 card))
    let a := armedWith (entry false (.armed .idle false)) s
    let x := entry false (.active true none { block := 1000, sample := 0 })
    let g := recording (armedWith x s)
    (Hears (.arm h 1 0 0) s ∧ tracksOf 0 = some .a ∧ yesNoOf 0 = some false ∧ markAt s 1 = some (mark .punchIn 1020 (some 2)) ∧
      markAt s 2 = some (mark .punchOut 1040 (some 1)) ∧ (mark .punchIn 1020 (some 2)).tag = loadedTag s ∧ s.punch.entries = [] ∧
      s.punch.zones = [] ∧ s.punch.permit = true ∧ TrackFree s .a) ∧
    (Hears (.disarm h 1) a ∧ (∃ e ∈ a.punch.entries, e.inMark = 1) ∧ (∀ e ∈ a.punch.entries, e.isActive = false) ∧
      Hears (.disarm h 255) a) ∧
    (Hears (.disarm h 1) g ∧ GateOn g ∧ ¬ MonitorOn g ∧ g.punch.manual = .off ∧ g.punch.entries = [x]) := by decide

theorem witness_TrackRequests :
    let s := run (reel card)
    let m := fun x : Manual => ({ s with punch := { s.punch with manual := x } } : State)
    (Hears (.safe h 2 1) s ∧ tracksOf 2 = some .both ∧ NoRecording s) ∧
    (Hears (.recordOn h 2) s ∧ InRun s ∧ (∀ e ∈ s.punch.entries, e.isActive = false) ∧ s.punch.manual = .off ∧
      s.capstan.lock = true ∧ quality s = .locked ∧ s.punch.permit = true ∧ TrackFree s .both ∧ ¬ InGuard s (estimate s)) ∧
    (∀ x ∈ [Manual.off, .pendingOff .a none, .pendingOn .a, .on .a none], Hears (.recordOff h) (m x) ∧ (m x).punch.manual = x) := by
  decide

end Sys2Proof.Tests
end

section
/-!
Scanner: what a scan completion writes to the sensor table, entry by entry (R120, R122, R123).
-/

namespace Sys2Proof.Machine

/-! ## The value formed from a code (R122, R123) -/

theorem channelValue_of_code_channel {n : Nat} (h : n < 2 ∨ 5 < n) (code : Nat) : channelValue n code = code := by
  have reels : ¬ (n = 2 ∨ n = 3) := by omega
  have capstan : n ≠ 4 := by omega
  have supply : n ≠ 5 := by omega
  simp only [channelValue, reels, capstan, supply, if_false]

theorem channelValue_of_reel {n : Nat} (h : n = 2 ∨ n = 3) (code : Nat) :
    channelValue n code = (((code : Int) - 2048) * 12000).tdiv 2048 := if_pos h

theorem channelValue_capstan (code : Nat) : channelValue 4 code = (((code : Int) - 2048) * 4000).tdiv 2048 := rfl

theorem channelValue_supply (code : Nat) : channelValue 5 code = (code : Int) * 60000 / 4096 := rfl

/-! ## The table after a completion (R120) -/

section
variable {p n : Nat} {t : List Channel} (codes : ScanCodes)

theorem scanTable_getD (hn : n < t.length) :
    (scanTable p codes t).getD n blankChannel =
      if n = 0 then converted 0 codes.supplyArm
      else if n = 1 then converted 1 codes.takeUpArm
      else if n = p then converted n codes.rotating
      else aged (t.getD n blankChannel) := by
  simp [scanTable, List.getD_eq_getElem?_getD, hn]

theorem scanTable_getD_supplyArm (ht : t.length = 7) :
    (scanTable p codes t).getD 0 blankChannel = converted 0 codes.supplyArm := by
  rw [scanTable_getD codes (by omega), if_pos rfl]

theorem scanTable_getD_takeUpArm (ht : t.length = 7) :
    (scanTable p codes t).getD 1 blankChannel = converted 1 codes.takeUpArm := by
  rw [scanTable_getD codes (by omega), if_neg one_ne_zero, if_pos rfl]

theorem scanTable_getD_rotating (ht : t.length = 7) (h2 : 2 ≤ p) (h6 : p ≤ 6) :
    (scanTable p codes t).getD p blankChannel = converted p codes.rotating := by
  rw [scanTable_getD codes (by omega), if_neg (by omega), if_neg (by omega), if_pos rfl]

end

/-! ## The completion as a command -/

/-- Neither a judgement left due nor the one on this conversion touches the scanner, so the table is the one written. -/
theorem scanCompletion_scanner (c : ScanCodes) (s : State) : (scanCompletion c s).scanner = (writeScan c s).scanner := by
  have written : (writeScan c (judgeDue s)).scanner = (writeScan c s).scanner := by simp [writeScan]
  simp only [scanCompletion]
  split <;> simp [written]

theorem scanCompletion_table (c : ScanCodes) (s : State) :
    (scanCompletion c s).scanner.table = scanTable s.scanner.pointer c s.scanner.table := by
  rw [scanCompletion_scanner, writeScan, State.onScanner_scanner]

theorem exec_scanCompletion (c : ScanCodes) {s : State} (h : s.inReset = false) :
    exec (.scanCompletion c) s = .next (scanCompletion c s) := by
  change live (scanCompletion c) s = _
  simp [live, h]

/-- The value at the rotating channel after a completion, for every pointer that R120 admits. -/
theorem scanCompletion_rotating_value (c : ScanCodes) {s : State} (ht : s.scanner.table.length = 7)
    (h2 : 2 ≤ s.scanner.pointer) (h6 : s.scanner.pointer ≤ 6) :
    ((scanCompletion c s).scanner.table.getD s.scanner.pointer blankChannel).value =
      channelValue s.scanner.pointer c.rotating := by
  rw [scanCompletion_table, scanTable_getD_rotating c ht h2 h6, converted]

/-- Settles O30: the table is the one the completion writes, and each channel's kind fixes the value of its code. -/
theorem channelValues : Obligations.ChannelValues := by
  intro c s running ht
  have rotating := scanCompletion_rotating_value c ht
  refine ⟨scanCompletion c s, exec_scanCompletion c running, ?supplyArm, ?takeUpArm, ?reels, ?capstan, ?supply, ?optical⟩
  case supplyArm =>
    rw [scanCompletion_table, scanTable_getD_supplyArm c ht, converted, channelValue_of_code_channel (by omega)]
  case takeUpArm =>
    rw [scanCompletion_table, scanTable_getD_takeUpArm c ht, converted, channelValue_of_code_channel (by omega)]
  case reels =>
    intro hp
    rw [rotating (by omega) (by omega), channelValue_of_reel hp]
  case capstan =>
    intro hp
    rw [hp] at rotating
    rw [rotating (by omega) (by omega), channelValue_capstan]
  case supply =>
    intro hp
    rw [hp] at rotating
    rw [rotating (by omega) (by omega), channelValue_supply]
  case optical =>
    intro hp
    rw [hp] at rotating
    rw [rotating (by omega) (by omega), channelValue_of_code_channel (by omega)]

end Sys2Proof.Machine
end

section
/-!
Link: the way of a request to its block and of the block's answer back to the line (R181, R182, R186).
-/

namespace Sys2Proof.Machine

open Sys2Proof.Safety

/-- The state that a frame's block works on: a whole frame leaves the receiver disregarding the line (R180). -/
abbrev disregarding (s : State) : State := s.onLink fun l => { l with rx := .disregard }

/-! ## A frame that reaches its block -/

theorem frameBegins_endSending_of_quiet {s : State} (quiet : s.link.tx = .quiet) : frameBegins (endSending s) = s := by
  simp only [endSending, frameBegins, quiet]

theorem dest_ne_broadcast_of_addressed {h : Hdr} {s : State} (names : Addressed h s) : h.dest ≠ broadcastDest := by
  obtain ⟨dest, -, high⟩ := names
  simp only [broadcastDest]
  omega

/-- No stage before the block is in the way of a frame that `Takes` describes: the block does its work and its
answer is owed. -/
theorem takeFrame_of_takes {w : Wire} {s : State} (takes : Takes w s) (a : Action) :
    takeFrame w a s = answer w (perform a { station := w.hdr.station, broadcast := false } (disregarding s)) := by
  obtain ⟨running, audible, quiet, names, station, fresh⟩ := takes
  have unstored : retryFor w (disregarding s) = none := fresh
  have named : Addressed w.hdr (disregarding s) := names
  rw [takeFrame, if_pos ⟨running, audible⟩, frameBegins_endSending_of_quiet quiet, takeComplete,
    if_neg (dest_ne_broadcast_of_addressed names), if_pos named, takeAddressed, if_neg (not_not_intro station), unstored]

/-! ## A request that its block answers without a change -/

/-- The answer to a request other than an accepted RESET, where the block leaves the state as it is: only the link
changes. -/
theorem answer_unchanged {w : Wire} {r : Resp} (noReset : resetAccepted w r = false) (s : State) :
    answer w (r, disregarding s) = { s with link := answeredLink w r.code r.payload s } := by
  simp only [answer, noReset]
  rfl

theorem answered_of_requestWire {i : Instr} {w : Wire} (wire : requestWire i = some w) (c : Code) (ps : List Byte)
    (s : State) : answered i c ps s = answeredLink w c ps s := by
  rw [answered, wire]

/-- A request whose block answers `r` and changes nothing. -/
theorem takeRequest_unchanged {i : Instr} {w : Wire} {s : State} {r : Resp} (wire : requestWire i = some w)
    (takes : Takes w s) (noReset : resetAccepted w r = false)
    (handled : ∀ ctx, handlerOf i ctx (disregarding s) = (r, disregarding s)) :
    takeRequest i s = { s with link := answered i r.code r.payload s } := by
  simp only [takeRequest, wire]
  rw [takeFrame_of_takes takes, perform, handled, answer_unchanged noReset, answered_of_requestWire wire]

theorem live_of_running {f : State → State} {s : State} (running : s.inReset = false) : live f s = .next (f s) := by
  simp [live, running]

end Sys2Proof.Machine
end

section
/-!
Store: what PROFILE READ answers (R168, R170).
-/

namespace Sys2Proof.Machine

open Sys2Proof.Safety

section
variable {n : Nat} {s : State}

theorem reqProfileRead_above (high : 7 < n) (ctx : Ctx) : reqProfileRead n ctx s = (.refuse .range, s) := if_pos high

/-- Of the state `t` that the block works on, only the store is read. -/
theorem reqProfileRead_slot {p : Profile} {t : State} (low : n ≤ 7) (slot : s.store.profiles[n]? = some p)
    (store : t.store = s.store) (ctx : Ctx) :
    reqProfileRead n ctx t =
      (.okWith (n1 n ++ profileField p ++ yesNo (decide (n = s.store.active)) ++ n1 s.store.active), t) := by
  rw [reqProfileRead, if_neg (Nat.not_lt.mpr low), store, List.getD_eq_getElem?_getD, slot, Option.getD_some]

/-- The block answers PROFILE READ without a change, so nothing but the link changes. -/
theorem exec_profileRead {h : Hdr} {r : Resp} (hears : Hears (.profileRead h n) s)
    (handled : ∀ ctx, reqProfileRead n ctx (disregarding s) = (r, disregarding s)) :
    exec (.profileRead h n) s = .next { s with link := answered (.profileRead h n) r.code r.payload s } := by
  obtain ⟨w, wire, takes⟩ := hears
  have ⟨running, _⟩ := takes
  have noReset : resetAccepted w r = false := by
    cases wire
    simp [resetAccepted]
  change live (takeRequest (.profileRead h n)) s = _
  rw [live_of_running running, takeRequest_unchanged wire takes noReset handled]

end

/-- Settles O49: the answer is the block's for a number above 7 and for a number with a record. -/
theorem profileRead : Obligations.ProfileRead := by
  intro h n p s hears
  refine ⟨fun high => ?above, fun low slot => ?slot⟩
  case above => exact exec_profileRead (r := .refuse .range) hears (reqProfileRead_above high)
  case slot =>
    have answers := exec_profileRead hears (reqProfileRead_slot low slot (State.onLink_store ..))
    simpa only [Resp.okWith, profileField, labelField, List.append_assoc] using answers

end Sys2Proof.Machine
end

section
/-!
Commands: what each command of the queue brings about. Every row is one of a few events, taken outside the internal
reset, or leaves the card as it is (log entry 2); so whatever survives those events survives every step.
-/

namespace Sys2Proof.Machine

open Sys2Proof.Safety

/-! ## The events behind the rows -/

/-- The events of the card that are taken outside the internal reset only. -/
inductive Happens : (State → State) → Prop where
  | idle : Happens id
  | linkSilenceEnd : Happens linkSilenceEnd
  | profileUpdate : Happens profileUpdate
  | scanStart : Happens scanStart
  | scanCompletion (c : ScanCodes) : Happens (scanCompletion c)
  | judgedCompletion (c : ScanCodes) : Happens (judgedCompletion c)
  | servoComputation : Happens servoComputation
  | rollerCount (d : Dir) : Happens (rollerCount d)
  | tachometer (r : Reel) (d : Dir) : Happens (tachometer r d)
  | addressRead (r : TapeRead) : Happens (addressRead r)
  | internalEdge : Happens internalEdge
  | wordClockEdge (n : Count32) : Happens (wordClockEdge n)
  | silenceTimeout : Happens silenceTimeout
  | startSample (high : Bool) : Happens (startSample high)
  | saveStageEnd (agrees : Bool) : Happens (saveStageEnd agrees)
  | lineIdle : Happens lineIdle
  | frame (f : Frame) : Happens (takeAnyFrame f)
  | reply : Happens reply
  | slotAnswer : Happens slotAnswer
  | replyGone : Happens replyGone
  | request (i : Instr) : Happens (takeRequest i)
  | character (c : Byte) (framingError : Bool) : Happens (receive c framingError)

/-- What a command does: the two commands of the cold start, the permit input, or an event. -/
inductive Does (s : State) : State → Prop where
  | coldStart : Does s (coldStart s)
  | internalResetEnd (switch : Nat) : Does s (internalResetEnd switch s)
  | permitInReset (present : Bool) (h : s.inReset = true) : Does s (s.onPunch fun p => { p with permitPin := present })
  | permit (present : Bool) (h : s.inReset = false) :
      Does s (permitSeen present (s.onPunch fun p => { p with permitPin := present }))
  | lost (h : s.inReset = true) : Does s s
  | event {f : State → State} (h : s.inReset = false) (e : Happens f) : Does s (f s)

theorem does_live {f : State → State} (e : Happens f) (s : State) : ∃ t, live f s = .next t ∧ Does s t := by
  refine ⟨_, rfl, ?_⟩
  split
  next h => exact .lost h
  next h => exact .event (Bool.eq_false_iff.mpr h) e

/-- A row that names a limit is its event or nothing. -/
theorem does_live_whenReached {f : State → State} (e : Happens f) (r : State → State → Bool) (s : State) :
    ∃ t, live (whenReached r f) s = .next t ∧ Does s t := by
  by_cases h : r s (f s) = true
  · simpa [live, whenReached, h] using does_live e s
  · simpa [live, whenReached, h] using does_live .idle s

/-- Every command ends in a next state, which one of the card's events has made. -/
theorem exec_does (i : Instr) (s : State) : ∃ t, exec i s = .next t ∧ Does s t := by
  cases i
  case coldStart => exact ⟨_, rfl, .coldStart⟩
  case internalResetEnd switch => exact ⟨_, rfl, .internalResetEnd switch⟩
  case recordPermitChange present =>
    refine ⟨_, rfl, ?_⟩
    split
    next h => exact .permitInReset present h
    next h => exact .permit present (Bool.eq_false_iff.mpr h)
  case linkSilenceEnd => exact does_live .linkSilenceEnd s
  case profileUpdate => exact does_live .profileUpdate s
  case scan => exact does_live .scanStart s
  case scanCompletion c => exact does_live (.scanCompletion c) s
  case servoComputation => exact does_live .servoComputation s
  case rollerCount d => exact does_live (.rollerCount d) s
  case reelTachometerCount r d => exact does_live (.tachometer r d) s
  case addressRead r => exact does_live (.addressRead r) s
  case internalEdge => exact does_live .internalEdge s
  case wordClockEdge n => exact does_live (.wordClockEdge n) s
  case silenceTimeout => exact does_live .silenceTimeout s
  case startSample high => exact does_live (.startSample high) s
  case saveStageEnd agrees => exact does_live (.saveStageEnd agrees) s
  case lineIdle => exact does_live .lineIdle s
  case unknownCommand f => exact does_live (.frame f) s
  case reply => exact does_live .reply s
  case slotAnswer => exact does_live .slotAnswer s
  case warmReset => exact does_live .replyGone s
  case characterReceived c fe => exact does_live (.character c fe) s
  case missedEdges n =>
    by_cases h : s.capstan.refState = .external
    · simpa [exec, execMissedEdges, live, whenReached, edgeInUse, h] using
        does_live_whenReached (.wordClockEdge n) (fun s u => decide (s.capstan.missed = 3 ∧ u.capstan.missed = 4)) s
    · simpa [exec, execMissedEdges, live, whenReached, edgeInUse, h] using
        does_live_whenReached .internalEdge (fun s u => decide (s.capstan.missed = 3 ∧ u.capstan.missed = 4)) s
  case reelCurrent c | capstanOverload c | supplyLow c => exact does_live_whenReached (.judgedCompletion c) _ s
  case ready | radiusWindow | tensionLoss | speedRunaway => exact does_live_whenReached .servoComputation _ s
  case addressDropout r | capstanLock r => exact does_live_whenReached (.addressRead r) _ s
  case qualified n => exact does_live_whenReached (.wordClockEdge n) _ s
  case thread | unthread | rampComplete | engageTimeout | ease | restoreComplete | releaseRampEnd | stationary | haltEnd |
      entryToRun | searchExhausted | arrivalTest | holdExpiry => exact does_live_whenReached .profileUpdate _ s
  all_goals exact does_live (.request _) s

theorem does_of_exec {i : Instr} {s t : State} (h : exec i s = .next t) : Does s t := by
  obtain ⟨u, hu, d⟩ := exec_does i s
  rw [hu] at h
  cases h
  exact d

end Sys2Proof.Machine
end

section
/-!
Acts: the card's commands taken apart into acts of its blocks. The port's part of a frame is changes of the link around
one act of the owning block, so a law that every act keeps is a law that every step keeps.
-/

namespace Sys2Proof.Machine

open Sys2Proof.Safety

/-! ## What a request brings about in its block (section 10.3) -/

/-- The marks of MARK MOVE and MARK TRIM: a new address, and FIRM. -/
structure Readdressed (s : State) (n : Nat) (m m' : Mark) : Prop where
  old : markAt s n = some m
  low : n ≠ 0
  high : n ≤ 99
  current : IsCurrent s m
  free : ¬ InUse s n
  pair : PairHolds s m'
  same : m' = { m with addr := m'.addr, standing := .firm, spread := m'.spread }
  spread : m'.spread = none ∨ (m.standing = .firm ∧ m'.spread = m.spread)

/-- What a request makes of the state in its owning block; a refusal and a reading make nothing. -/
inductive Carries (s : State) : State → Prop where
  | nothing : Carries s s
  | engage (n : Nat) (mode : s.motion.mode = .released) (faults : s.monitor.faults = []) (low : n ≤ 7) :
      Carries s (beginEngage n s)
  | releaseStopped (l : Level) (mode : s.motion.mode = .stopped l) : Carries s (dropHeld .stopped (enterReleasing s))
  | releaseEngaging (mode : s.motion.mode = .engaging) : Carries s (enterReleasing s)
  | stop : Carries s (stopEffect s)
  | playHeld (gate : motionGate s.motion.mode = .held) : Carries s (holdRequest .play (captureReturn s))
  | playAgain (p : PlayPhase) (mode : s.motion.mode = .play p) : Carries s (captureReturn s)
  | play (gate : motionGate s.motion.mode = .now) : Carries s (beginPlay (captureReturn s))
  | hold (h : Held) (gate : motionGate s.motion.mode = .held) : Carries s (holdRequest h s)
  | cue (w : Int) (gate : motionGate s.motion.mode = .now) : Carries s (beginCue w s)
  | wind (w : Int) (gate : motionGate s.motion.mode = .now) : Carries s (beginWind w s)
  | locate (c : LocCtx) (gate : motionGate s.motion.mode = .now) : Carries s (beginLocate c s)
  | selectInternal : Carries s (selectInternal s)
  | selectWordClock : Carries s (selectWordClock s)
  | faultClear : Carries s (s.onMonitor fun m => { m with faults := keptFaults s })
  | writeMark (n : Nat) (m : Mark) (low : n ≠ 0) (high : n ≤ 99) (tag : m.tag = loadedTag s) (partner : m.partner = none)
      (standing : m.standing = .firm ∨ capture s = some (m.standing, m.spread)) : Carries s (writeMark n m s)
  | readdress (n : Nat) (m m' : Mark) (h : Readdressed s n m m') :
      Carries s (deliver [{ mark := n, change := .address }] (setMark n m' s))
  | relabel (n : Nat) (m : Mark) (label : Label) (locked : Bool) (low : n ≠ 0) (high : n ≤ 99) (old : markAt s n = some m) :
      Carries s (setMark n { m with label := label, locked := locked } s)
  | link (a b : Nat) (x y : Mark) (lowA : a ≠ 0) (highA : a ≤ 99) (lowB : b ≠ 0) (highB : b ≤ 99) (oldA : markAt s a = some x)
      (oldB : markAt s b = some y) (currentA : IsCurrent s x) (currentB : IsCurrent s y) (ne : a ≠ b)
      (kinds : kindsPair x.kind y.kind = true) (order : OrderHolds x.kind (tickValue s x) y.kind (tickValue s y)) :
      Carries s (linkMarks a b x y s)
  | unlink (n : Nat) : Carries s (deliver (unlinkReports n s) (unlink n s))
  | retire (ns : List Nat) : Carries s (retireMarks ns s)
  | arm (n p : Nat) (t : Tracks) (r : Bool) (m : Mark) (partner : armPartner s n = some (m, p)) (precise : m.imprecise = false)
      (precise' : ∀ o ∈ markAt s p, o.imprecise = false) (idle : ∀ e ∈ entryFor s n, e.isActive = false)
      (apart : ∀ f ∈ s.punch.entries.filter (fun f => f.inMark ≠ n), ¬ RangesOverlap s (armedEntry s n p t r) f)
      (room : entryFor s n = none → s.punch.entries.length < 4) :
      Carries s (s.onPunch fun q => { q with
        entries := orderEntries s (s.punch.entries.filter (fun f => f.inMark ≠ n) ++ [armedEntry s n p t r]) })
  | disarm (n : Nat) : Carries s (removeEntry n s)
  | disarmAll : Carries s ((entryKeys s).foldl (fun s k => removeEntry k s) s)
  | safe (a b : Bool) : Carries s (gateGuard (s.onPunch fun p => { p with safeA := a, safeB := b }))
  | manual (m : Manual) (pending : m = .off ∨ (∃ t, m = .pendingOn t) ∨ ∃ t d, m = .pendingOff t d) :
      Carries s (s.onPunch fun p => { p with manual := m })
  | profile (n : Nat) (p : Profile) (idle : n ≠ s.store.active ∨ Parked s) : Carries s (writeProfile n p s)
  | save (free : s.store.save = none) : Carries s (s.onStore fun c =>
      { c with save := some { stage := 1, snapshot := snapshot s }, sectorFlag := false, user := { c.user with marker := false } })
  | summary : Carries s (s.onLink fun l => { l with summary := 0 })
  | mask (m : Nat) (h : m ≤ 0x07FF) : Carries s (s.onLink fun l => { l with mask := BitVec.ofNat 16 m })
  | poll (slot : Option Nat) (cond : Nat) (sense : Bool) :
      Carries s (s.onLink fun l => { l with slot := slot, cond := cond, sense := sense })
  | slot (c : Byte) : Carries s (s.onLink fun l => { l with tx := .slotDue c })
  | warmReset (parked : Parked s) : Carries s (warmReset s)

theorem checkMark_ok {n r : Nat} {s : State} {m : Mark} (h : checkMark n r s = .ok m) :
    n ≤ 99 ∧ n ≠ 0 ∧ markAt s n = some m ∧ ¬ (m.locked = true ∧ m.owner ≠ r) := by
  unfold checkMark at h
  split at h
  · cases h
  · split at h
    · cases h
    · split at h
      · cases h
      · split at h
        · cases h
        · cases h
          exact ⟨by omega, by assumption, by assumption, by assumption⟩

theorem firstFree_range {s : State} {k : Nat} (h : firstFree s = some k) : k ≠ 0 ∧ k ≤ 99 := by
  have := List.mem_of_find?_eq_some h
  simp only [List.mem_range'_1] at this
  omega

theorem checkSlot_ok {n r k : Nat} {s : State} (h : checkSlot n r s = .ok k) : k ≠ 0 ∧ k ≤ 99 := by
  unfold checkSlot at h
  split at h
  · split at h
    · cases h
      exact firstFree_range (by assumption)
    · cases h
  · split at h
    · cases h
    · split at h
      · cases h
      · split at h
        · split at h <;> cases h
          exact ⟨by assumption, by omega⟩
        · cases h
          exact ⟨by assumption, by omega⟩

section
variable {s : State} (ctx : Ctx)

/-- A check that a request may fail: it goes on where the check is passed. -/
theorem carries_of_check {c : Prop} [Decidable c] {r : Resp} {x : Resp × State} (h : ¬ c → Carries s x.2) :
    Carries s (if c then (r, s) else x).2 := by
  split
  · exact .nothing
  next passed => exact h passed

theorem reqEngage_carries (n : Nat) : Carries s (reqEngage n ctx s).2 := by
  unfold reqEngage
  split
  case h_3 mode =>
    exact carries_of_check fun _ => carries_of_check fun faults => carries_of_check fun low =>
      .engage n mode (not_not.mp faults) (by omega)
  all_goals exact .nothing

theorem reqRelease_carries : Carries s (reqRelease ctx s).2 := by
  unfold reqRelease
  split
  case h_1 l mode => exact .releaseStopped l mode
  case h_2 mode => exact .releaseEngaging mode
  all_goals exact .nothing

theorem reqPlay_carries : Carries s (reqPlay ctx s).2 := by
  unfold reqPlay
  split
  case h_1 => exact .nothing
  case h_2 gate => exact .playHeld gate
  case h_3 gate =>
    split
    case h_1 p mode => exact .playAgain p mode
    case h_2 => exact .play gate

theorem reqCue_carries (v : Int) : Carries s (reqCue v ctx s).2 := by
  unfold reqCue
  split
  case h_1 => exact .nothing
  case h_2 gate => exact .hold _ gate
  case h_3 gate => exact .cue _ gate

/-- A motion request that the mode does not refuse is held or taken now. -/
theorem motionGate_held_or_now {m : Mode} (h : ∀ c, motionGate m = .refuse c → False) :
    motionGate m = .held ∨ motionGate m = .now := by
  cases g : motionGate m with
  | now => exact .inr rfl
  | held => exact .inl rfl
  | refuse c => exact (h c g).elim

theorem reqWind_carries (d v : Nat) : Carries s (reqWind d v ctx s).2 := by
  unfold reqWind
  split
  case h_1 => exact .nothing
  case h_2 g hg =>
    split
    · exact .nothing
    · refine carries_of_check fun _ => ?_
      dsimp only
      split
      next held => exact .hold _ held
      next held => exact .wind _ ((motionGate_held_or_now hg).resolve_left held)

theorem reqLocate_carries (t : LocTarget) (p f l : Nat) : Carries s (reqLocate t p f l ctx s).2 := by
  unfold reqLocate
  split
  case h_1 => exact .nothing
  case h_2 g hg =>
    split
    · exact .nothing
    · refine carries_of_check fun _ => ?_
      split
      · exact .nothing
      · dsimp only
        split
        next held => exact .hold _ held
        next held => exact .locate _ ((motionGate_held_or_now hg).resolve_left held)

theorem reqReferenceSelect_carries (x : Nat) : Carries s (reqReferenceSelect x ctx s).2 := by
  unfold reqReferenceSelect
  split
  · exact .nothing
  · exact .selectInternal
  · exact .selectWordClock

theorem reqFaultClear_carries : Carries s (reqFaultClear ctx s).2 := by
  unfold reqFaultClear
  split
  · exact .faultClear
  · exact .nothing

theorem reqMarkSet_carries (n k : Nat) (a : Addr) (l : Label) : Carries s (reqMarkSet n k a l ctx s).2 := by
  unfold reqMarkSet
  split
  · exact .nothing
  next slot =>
    split
    · exact .nothing
    · obtain ⟨low, high⟩ := checkSlot_ok slot
      exact carries_of_check fun _ => carries_of_check fun _ => .writeMark _ _ low high rfl rfl (.inl rfl)

theorem reqMarkHere_carries (n k : Nat) (l : Label) : Carries s (reqMarkHere n k l ctx s).2 := by
  unfold reqMarkHere
  split
  · exact .nothing
  next slot =>
    split
    · exact .nothing
    · split
      · exact .nothing
      next hc =>
        obtain ⟨low, high⟩ := checkSlot_ok slot
        exact carries_of_check fun _ => .writeMark _ _ low high rfl rfl (.inr hc)

theorem reqMarkMove_carries (n : Nat) (a : Addr) : Carries s (reqMarkMove n a ctx s).2 := by
  unfold reqMarkMove
  split
  · exact .nothing
  next m checked =>
    obtain ⟨high, low, old, -⟩ := checkMark_ok checked
    exact carries_of_check fun current => carries_of_check fun _ => carries_of_check fun free => carries_of_check fun pair =>
      .readdress n m _ ⟨old, low, high, not_not.mp current, free, not_not.mp pair, rfl, .inl rfl⟩

theorem reqMarkTrim_carries (n : Nat) (v : Int) : Carries s (reqMarkTrim n v ctx s).2 := by
  unfold reqMarkTrim
  split
  · exact .nothing
  next m checked =>
    obtain ⟨high, low, old, -⟩ := checkMark_ok checked
    refine carries_of_check fun current => carries_of_check fun _ => carries_of_check fun settled =>
      carries_of_check fun free => carries_of_check fun pair => carries_of_check fun _ => ?_
    have firm : m.standing = .firm := by
      cases hs : m.standing with
      | firm => rfl
      | provisional c => simp [Mark.isProvisional, hs] at settled
    exact .readdress n m _ ⟨old, low, high, not_not.mp current, free, not_not.mp pair, by simp [← firm], .inr ⟨firm, rfl⟩⟩

theorem reqMarkName_carries (n : Nat) (l : Label) : Carries s (reqMarkName n l ctx s).2 := by
  unfold reqMarkName
  split
  · exact .nothing
  next m checked =>
    obtain ⟨high, low, old, -⟩ := checkMark_ok checked
    exact carries_of_check fun _ => .relabel n m (cutLabel l) m.locked low high old

theorem lockMark_carries (n : Nat) (b : Bool) : Carries s (lockMark n b ctx s).2 := by
  unfold lockMark
  split
  · exact .nothing
  next m checked =>
    obtain ⟨high, low, old, -⟩ := checkMark_ok checked
    exact carries_of_check fun _ => .relabel n m m.label b low high old

theorem reqMarkPair_carries (a b : Nat) : Carries s (reqMarkPair a b ctx s).2 := by
  unfold reqMarkPair
  split
  · exact .nothing
  next x checkedA =>
    split
    · exact .nothing
    next y checkedB =>
      obtain ⟨highA, lowA, oldA, -⟩ := checkMark_ok checkedA
      obtain ⟨highB, lowB, oldB, -⟩ := checkMark_ok checkedB
      refine carries_of_check fun current => carries_of_check fun kinds => carries_of_check fun order =>
        carries_of_check fun _ => ?_
      rw [not_or, not_not, not_not] at current
      rw [not_or, Bool.not_eq_false] at kinds
      exact .link a b x y lowA highA lowB highB oldA oldB current.1 current.2 kinds.1 kinds.2 (not_not.mp order)

theorem reqMarkUnpair_carries (n : Nat) : Carries s (reqMarkUnpair n ctx s).2 := by
  unfold reqMarkUnpair
  split
  · exact .nothing
  · exact .unlink n

theorem reqMarkRetire_carries (n : Nat) : Carries s (reqMarkRetire n ctx s).2 := by
  unfold reqMarkRetire
  split
  · exact .nothing
  · exact .retire [n]

theorem reqArm_carries (n t r : Nat) : Carries s (reqArm n t r ctx s).2 := by
  unfold reqArm
  split
  case h_2 => exact .nothing
  case h_1 tk rh _ _ =>
    refine carries_of_check fun _ => carries_of_check fun idle => ?_
    split
    case h_2 => exact .nothing
    case h_1 m p partner =>
      refine carries_of_check fun precise => carries_of_check fun _ => carries_of_check fun apart =>
        carries_of_check fun room => carries_of_check fun _ => carries_of_check fun _ => ?_
      rw [not_or] at precise
      refine .arm n p tk rh m partner (Bool.eq_false_iff.mpr precise.1)
        (fun o h => Bool.eq_false_iff.mpr fun k => precise.2 ⟨o, h, k⟩)
        (fun e h => Bool.eq_false_iff.mpr fun k => idle ⟨e, h, k⟩) (fun f h k => apart ⟨f, h, k⟩) fun h => ?_
      exact Nat.lt_of_not_le fun k => room ⟨h, k⟩

theorem reqDisarm_carries (n : Nat) : Carries s (reqDisarm n ctx s).2 := by
  unfold reqDisarm
  split
  · exact .disarmAll
  · exact carries_of_check fun _ => carries_of_check fun _ => .disarm n

theorem reqSafe_carries (t x : Nat) : Carries s (reqSafe t x ctx s).2 := by
  unfold reqSafe
  split
  case h_1 => exact .safe _ _
  case h_2 => exact .nothing

theorem reqRecordOn_carries (t : Nat) : Carries s (reqRecordOn t ctx s).2 := by
  unfold reqRecordOn
  split
  · exact .nothing
  · exact carries_of_check fun _ => carries_of_check fun _ => carries_of_check fun _ => carries_of_check fun _ =>
      carries_of_check fun _ => carries_of_check fun _ => .manual _ (.inr (.inl ⟨_, rfl⟩))

theorem reqRecordOff_carries : Carries s (reqRecordOff ctx s).2 := by
  unfold reqRecordOff
  split
  · exact .manual _ (.inl rfl)
  · exact .manual _ (.inr (.inr ⟨_, _, rfl⟩))
  · exact .nothing

theorem reqProfileWrite_carries (n : Nat) (p : Profile) : Carries s (reqProfileWrite n p ctx s).2 := by
  refine carries_of_check fun _ => carries_of_check fun _ => carries_of_check fun _ => carries_of_check fun idle => ?_
  exact .profile n p (by tauto)

theorem reqStoreSave_carries : Carries s (reqStoreSave ctx s).2 := by
  unfold reqStoreSave
  split
  · exact .nothing
  next free => exact .save free

theorem reqStatusPoll_carries : Carries s (reqStatusPoll ctx s).2 := by
  unfold reqStatusPoll
  split
  · exact .nothing
  · exact .summary

theorem reqServiceMask_carries (m : Nat) : Carries s (reqServiceMask m ctx s).2 := by
  unfold reqServiceMask
  split
  · exact .nothing
  · exact .mask m (by omega)

theorem reqPollConfigure_carries (k c x : Nat) : Carries s (reqPollConfigure k c x ctx s).2 := by
  unfold reqPollConfigure
  split
  · exact .nothing
  · split
    · exact .nothing
    · exact .poll _ _ _

theorem reqGroupPoll_carries : Carries s (reqGroupPoll ctx s).2 := by
  unfold reqGroupPoll
  split
  · exact .nothing
  · split
    · exact .slot _
    · exact .nothing

theorem reqReset_carries : Carries s (reqReset ctx s).2 := by
  unfold reqReset
  split
  next parked =>
    split
    · exact .warmReset parked
    · exact .nothing
  · exact .nothing

theorem reqFindNext_state : (reqFindNext ctx s).2 = s := by unfold reqFindNext; split <;> rfl
theorem reqFindPrevious_state : (reqFindPrevious ctx s).2 = s := by unfold reqFindPrevious; split <;> rfl
theorem reqFindNearest_state (a : Addr) : (reqFindNearest a ctx s).2 = s := by unfold reqFindNearest; split <;> rfl
theorem reqFindLabel_state (l : Label) : (reqFindLabel l ctx s).2 = s := by unfold reqFindLabel; split <;> rfl
theorem reqAnchorRead_state (n : Nat) : (reqAnchorRead n ctx s).2 = s := by unfold reqAnchorRead; split <;> rfl
theorem reqMarkRead_state (n : Nat) : (reqMarkRead n ctx s).2 = s := by unfold reqMarkRead; split <;> rfl
theorem reqProfileRead_state (n : Nat) : (reqProfileRead n ctx s).2 = s := by unfold reqProfileRead; split <;> rfl

/-- What the owning block of a request brings about. -/
theorem handlerOf_carries (i : Instr) : Carries s (handlerOf i ctx s).2 := by
  cases i
  case statusPoll h u =>
    by_cases hu : 3 < u
    · simpa [handlerOf, hu] using Carries.nothing
    · simpa [handlerOf, hu] using reqStatusPoll_carries ctx
  case engage h n => exact reqEngage_carries ctx n
  case release => exact reqRelease_carries ctx
  case stop => exact .stop
  case play => exact reqPlay_carries ctx
  case cue h v => exact reqCue_carries ctx v
  case wind h d v => exact reqWind_carries ctx d v
  case locate h t p f l => exact reqLocate_carries ctx t p f l
  case referenceSelect h x => exact reqReferenceSelect_carries ctx x
  case faultClear => exact reqFaultClear_carries ctx
  case markSet h n k a l => exact reqMarkSet_carries ctx n k a l
  case markHere h n k l => exact reqMarkHere_carries ctx n k l
  case markMove h n a => exact reqMarkMove_carries ctx n a
  case markTrim h n v => exact reqMarkTrim_carries ctx n v
  case markName h n l => exact reqMarkName_carries ctx n l
  case markPair h a b => exact reqMarkPair_carries ctx a b
  case markUnpair h n => exact reqMarkUnpair_carries ctx n
  case markLock h n => exact lockMark_carries ctx n true
  case markUnlock h n => exact lockMark_carries ctx n false
  case markRetire h n => exact reqMarkRetire_carries ctx n
  case markRetireReel h t => exact .retire _
  case arm h n t r => exact reqArm_carries ctx n t r
  case disarm h n => exact reqDisarm_carries ctx n
  case safe h t x => exact reqSafe_carries ctx t x
  case recordOn h t => exact reqRecordOn_carries ctx t
  case recordOff => exact reqRecordOff_carries ctx
  case profileWrite h n p => exact reqProfileWrite_carries ctx n p
  case storeSave => exact reqStoreSave_carries ctx
  case serviceMask h m => exact reqServiceMask_carries ctx m
  case pollConfigure h k c x => exact reqPollConfigure_carries ctx k c x
  case reset => exact reqReset_carries ctx
  case groupPoll => exact reqGroupPoll_carries ctx
  case markFindNext => exact (reqFindNext_state (s := s) ctx).symm ▸ .nothing
  case markFindPrevious => exact (reqFindPrevious_state (s := s) ctx).symm ▸ .nothing
  case markFindNearest h a => exact (reqFindNearest_state (s := s) ctx a).symm ▸ .nothing
  case markFindLabel h l => exact (reqFindLabel_state (s := s) ctx l).symm ▸ .nothing
  case anchorRead h n => exact (reqAnchorRead_state (s := s) ctx n).symm ▸ .nothing
  case markRead h n => exact (reqMarkRead_state (s := s) ctx n).symm ▸ .nothing
  case profileRead h n => exact (reqProfileRead_state (s := s) ctx n).symm ▸ .nothing
  all_goals exact .nothing

end

end Sys2Proof.Machine
end

section
/-!
Port: a frame, a character or an idle is changes of the link around at most one request carried out and at most one warm
reset (R180 to R186, R191, R192); so every step of the card is a chain of acts.
-/

namespace Sys2Proof.Machine

open Sys2Proof.Safety

/-- A change of the link that the port makes between the acts of the blocks: receiver, transmitter, and the retry table. -/
structure LinkChange (l l' : Link) : Prop where
  address : l'.address = l.address
  summary : l'.summary = l.summary
  mask : l'.mask = l.mask
  retry : l'.retry = l.retry ∨ ∃ k e, StationOk k ∧ l'.retry = slotPut k e l.retry

/-- One act of the card. -/
inductive Act (s : State) : State → Prop where
  | coldStart : Act s (coldStart s)
  | boot (switch : Nat) : Act s (bootState switch s)
  | permitPin (present : Bool) : Act s (s.onPunch fun p => { p with permitPin := present })
  | permitSeen (present : Bool) : Act s (permitSeen present s)
  | link (f : Link → Link) (h : LinkChange s.link (f s.link)) : Act s (s.onLink f)
  | warmReset : Act s (warmReset s)
  | request {t : State} (h : Carries s t) : Act s t
  | profileUpdate : Act s (profileUpdate s)
  | scanStart : Act s (scanStart s)
  | scanCompletion (c : ScanCodes) : Act s (scanCompletion c s)
  | judgeDue : Act s (judgeDue s)
  | servoComputation : Act s (servoComputation s)
  | rollerCount (d : Dir) : Act s (rollerCount d s)
  | tachometer (r : Reel) (d : Dir) : Act s (tachometer r d s)
  | addressRead (r : TapeRead) : Act s (addressRead r s)
  | internalEdge : Act s (internalEdge s)
  | wordClockEdge (n : Count32) : Act s (wordClockEdge n s)
  | silenceTimeout : Act s (silenceTimeout s)
  | startSample (high : Bool) : Act s (startSample high s)
  | saveStageEnd (agrees : Bool) : Act s (saveStageEnd agrees s)

/-- Acts one after another. -/
abbrev Acts : State → State → Prop := Relation.ReflTransGen Act

theorem Act.acts {s t : State} (h : Act s t) : Acts s t := .single h

/-- A change of the link that leaves address, summary, mask and retry table alone. -/
theorem acts_line (s : State) (f : Link → Link)
    (h : (f s.link).address = s.link.address ∧ (f s.link).summary = s.link.summary ∧ (f s.link).mask = s.link.mask ∧
      (f s.link).retry = s.link.retry) : Acts s (s.onLink f) := by
  obtain ⟨address, summary, mask, retry⟩ := h
  exact (Act.link f ⟨address, summary, mask, .inl retry⟩).acts

theorem acts_line_reset (s : State) (r : Bool) (f : Link → Link)
    (h : (f s.link).address = s.link.address ∧ (f s.link).summary = s.link.summary ∧ (f s.link).mask = s.link.mask ∧
      (f s.link).retry = s.link.retry) : Acts s (if r then warmReset (s.onLink f) else s.onLink f) := by
  split
  · exact (acts_line s f h).trans Act.warmReset.acts
  · exact acts_line s f h

theorem endSending_acts (s : State) : Acts s (endSending s) := by
  unfold endSending
  split
  · exact acts_line_reset s _ _ (by simp)
  · exact .refl

theorem frameBegins_acts (s : State) : Acts s (frameBegins s) := by
  unfold frameBegins
  split
  · exact acts_line_reset s _ _ (by simp)
  · exact acts_line s _ (by simp)
  · exact .refl

/-- The port's own refusals, and the work of the request's owning block. -/
inductive OwnAction : Action → Prop where
  | refused (c : Code) : OwnAction (.error c)
  | block (i : Instr) : OwnAction (.ok (handlerOf i))

theorem actionOf_own (w : Wire) : OwnAction (actionOf w) := by
  unfold actionOf
  split
  · exact .refused _
  · exact .block _

theorem perform_acts {a : Action} (ha : OwnAction a) (ctx : Ctx) (s : State) : Acts s (perform a ctx s).2 := by
  cases ha with
  | refused c => exact .refl
  | block i => exact (Act.request (handlerOf_carries ctx i)).acts

theorem oweReply_acts (f : List Byte) (b : Bool) (s : State) : Acts s (oweReply f b s) :=
  acts_line s _ (by simp)

theorem answer_acts {w : Wire} (station : StationOk w.hdr.station) (r : Resp) (s : State) : Acts s (answer w (r, s)) :=
  (Act.link _ ⟨rfl, rfl, rfl, .inr ⟨_, _, station, rfl⟩⟩).acts.trans (oweReply_acts _ _ _)

theorem takeAddressed_acts (w : Wire) {a : Action} (ha : OwnAction a) (s : State) : Acts s (takeAddressed w a s) := by
  unfold takeAddressed
  split
  · exact oweReply_acts _ _ _
  next station =>
    split
    · exact oweReply_acts _ _ _
    · exact (perform_acts ha _ s).trans (answer_acts (not_not.mp station) _ _)

theorem takeBroadcast_acts (w : Wire) {a : Action} (ha : OwnAction a) (s : State) : Acts s (takeBroadcast w a s) := by
  unfold takeBroadcast
  split
  · exact perform_acts ha _ s
  · exact .refl

theorem takeComplete_acts (w : Wire) {a : Action} (ha : OwnAction a) (s : State) : Acts s (takeComplete w a s) := by
  refine (acts_line s (fun l => { l with rx := .disregard }) (by simp)).trans ?_
  unfold takeComplete
  dsimp only
  split
  · exact takeBroadcast_acts w ha _
  · split
    · exact takeAddressed_acts w ha _
    · exact .refl

theorem takeFrame_acts (w : Wire) {a : Action} (ha : OwnAction a) (s : State) : Acts s (takeFrame w a s) := by
  unfold takeFrame
  split
  · exact ((endSending_acts s).trans (frameBegins_acts _)).trans (takeComplete_acts w ha _)
  · exact .refl

theorem takeRequest_acts (i : Instr) (s : State) : Acts s (takeRequest i s) := by
  unfold takeRequest
  split
  · exact takeFrame_acts _ (.block i) s
  · exact .refl

theorem collect_acts (cs : List Byte) (s : State) : Acts s (collect cs s) := by
  unfold collect
  split
  · exact takeComplete_acts _ (actionOf_own _) s
  · exact acts_line s _ (by simp)
  · split
    · exact acts_line s _ (by simp)
    · exact acts_line s _ (by simp)

theorem receive_acts (c : Byte) (fe : Bool) (s : State) : Acts s (receive c fe s) := by
  unfold receive
  split
  · split
    · exact .refl
    · split
      · exact .refl
      · split
        · exact (frameBegins_acts s).trans (acts_line _ _ (by simp))
        · exact acts_line s _ (by simp)
      · split
        · exact acts_line s _ (by simp)
        · exact collect_acts _ s
  · exact .refl

theorem lineIdle_acts (s : State) : Acts s (lineIdle s) := by
  unfold lineIdle
  split
  · exact (endSending_acts s).trans (acts_line _ _ (by simp))
  · exact .refl

theorem linkSilenceEnd_acts (s : State) : Acts s (linkSilenceEnd s) := by
  unfold linkSilenceEnd
  split
  · exact acts_line s _ (by simp)
  · exact .refl

theorem reply_acts (s : State) : Acts s (reply s) := by
  unfold reply
  split
  · exact acts_line s _ (by simp)
  · exact .refl

theorem slotAnswer_acts (s : State) : Acts s (slotAnswer s) := by
  unfold slotAnswer
  split
  · exact acts_line s _ (by simp)
  · exact .refl

theorem replyGone_acts (s : State) : Acts s (replyGone s) := by
  unfold replyGone
  split
  · exact endSending_acts s
  · exact (reply_acts s).trans (endSending_acts _)
  · exact .refl

theorem happens_acts {f : State → State} (h : Happens f) (s : State) : Acts s (f s) := by
  cases h with
  | idle => exact .refl
  | linkSilenceEnd => exact linkSilenceEnd_acts s
  | profileUpdate => exact Act.profileUpdate.acts
  | scanStart => exact Act.scanStart.acts
  | scanCompletion c => exact (Act.scanCompletion c).acts
  | judgedCompletion c => exact (Act.scanCompletion c).acts.trans Act.judgeDue.acts
  | servoComputation => exact Act.servoComputation.acts
  | rollerCount d => exact (Act.rollerCount d).acts
  | tachometer r d => exact (Act.tachometer r d).acts
  | addressRead r => exact (Act.addressRead r).acts
  | internalEdge => exact Act.internalEdge.acts
  | wordClockEdge n => exact (Act.wordClockEdge n).acts
  | silenceTimeout => exact Act.silenceTimeout.acts
  | startSample high => exact (Act.startSample high).acts
  | saveStageEnd agrees => exact (Act.saveStageEnd agrees).acts
  | lineIdle => exact lineIdle_acts s
  | frame f => exact takeFrame_acts _ (actionOf_own _) s
  | reply => exact reply_acts s
  | slotAnswer => exact slotAnswer_acts s
  | replyGone => exact replyGone_acts s
  | request i => exact takeRequest_acts i s
  | character c fe => exact receive_acts c fe s

theorem does_acts {s t : State} (h : Does s t) : Acts s t := by
  cases h with
  | coldStart => exact Act.coldStart.acts
  | internalResetEnd switch =>
    unfold internalResetEnd
    split
    · exact (Act.boot switch).acts
    · exact .refl
  | permitInReset present => exact (Act.permitPin present).acts
  | permit present => exact (Act.permitPin present).acts.trans (Act.permitSeen present).acts
  | lost => exact .refl
  | event _ e => exact happens_acts e s

/-- A predicate that the queue does not touch and every act keeps is kept by every step. -/
theorem step_keeps {I : State → Prop} (queue : ∀ s q, I s → I { s with pending := q })
    (act : ∀ s t, Act s t → I s → I t) {s t : State} (hs : I s) (h : step s = .next t) : I t := by
  unfold step at h
  split at h
  · cases h
    exact hs
  next c q _ =>
    have start : I { s with pending := q } := queue s q hs
    have acts := does_acts (does_of_exec h)
    clear h
    induction acts with
    | refl => exact start
    | tail _ a ih => exact act _ _ a ih

end Sys2Proof.Machine
end

section
/-!
Kept: the laws of the card as relations between the state before an operation and the state after it. Three grades, since
an operation may break the armed list's law or the gates' law for the operations after it to mend.
-/

namespace Sys2Proof.Machine

open Sys2Proof.Safety

/-! ## The relations -/

/-- The laws that no operation breaks on its way. -/
structure Loose (s t : State) : Prop where
  torque : TorqueLaw s → TorqueLaw t
  speed : SpeedLaw s → SpeedLaw t
  solenoid : SolenoidLaw s → SolenoidLaw t
  capstan : CapstanLaw s → CapstanLaw t
  map : MapLaw s → MapLaw t
  tables : TableForm s → TableForm t
  summary : SummaryLaw s → SummaryLaw t
  counter : CounterLaw s → CounterLaw t
  faultSet : FaultSetForm s → FaultSetForm t
  mark : MarkLaw s → MarkLaw t

/-- With them the law of the armed list, which a change of the marks breaks until it has been reported. -/
structure Lawful (s t : State) : Prop extends Loose s t where
  armed : MarkLaw s ∧ ArmedLaw s → ArmedLaw t

/-- With them the laws of gates and monitors, which a change of their conditions breaks until they have been judged. -/
structure Kept (s t : State) : Prop extends Lawful s t where
  gate : GateLaw s → GateLaw t
  monitor : MonitorLaw s → MonitorLaw t

theorem Loose.refl (s : State) : Loose s s := ⟨id, id, id, id, id, id, id, id, id, id⟩
theorem Lawful.refl (s : State) : Lawful s s := ⟨.refl s, And.right⟩
theorem Kept.refl (s : State) : Kept s s := ⟨.refl s, id, id⟩

section
variable {s t u : State}

theorem Loose.trans (h : Loose s t) (k : Loose t u) : Loose s u where
  torque := k.torque ∘ h.torque
  speed := k.speed ∘ h.speed
  solenoid := k.solenoid ∘ h.solenoid
  capstan := k.capstan ∘ h.capstan
  map := k.map ∘ h.map
  tables := k.tables ∘ h.tables
  summary := k.summary ∘ h.summary
  counter := k.counter ∘ h.counter
  faultSet := k.faultSet ∘ h.faultSet
  mark := k.mark ∘ h.mark

theorem Lawful.trans (h : Lawful s t) (k : Lawful t u) : Lawful s u where
  toLoose := h.toLoose.trans k.toLoose
  armed l := k.armed ⟨h.mark l.1, h.armed l⟩

theorem Kept.trans (h : Kept s t) (k : Kept t u) : Kept s u where
  toLawful := h.toLawful.trans k.toLawful
  gate := k.gate ∘ h.gate
  monitor := k.monitor ∘ h.monitor

theorem Kept.foldl {α : Type} {f : State → α → State} (h : ∀ s a, Kept s (f s a)) (l : List α) (s : State) :
    Kept s (l.foldl f s) := by
  induction l generalizing s with
  | nil => exact .refl s
  | cons a r ih => exact (h s a).trans (ih _)

theorem Lawful.foldl {α : Type} {f : State → α → State} (h : ∀ s a, Lawful s (f s a)) (l : List α) (s : State) :
    Lawful s (l.foldl f s) := by
  induction l generalizing s with
  | nil => exact .refl s
  | cons a r ih => exact (h s a).trans (ih _)

theorem Loose.foldl {α : Type} {f : State → α → State} (h : ∀ s a, Loose s (f s a)) (l : List α) (s : State) :
    Loose s (l.foldl f s) := by
  induction l generalizing s with
  | nil => exact .refl s
  | cons a r ih => exact (h s a).trans (ih _)

end

/-! ## Updates of one block -/

section
variable (s : State)

theorem kept_onScanner (f : Scanner → Scanner) : Kept s (s.onScanner f) :=
  ⟨⟨⟨id, id, id, id, id, id, id, id, id, id⟩, And.right⟩, id, id⟩

theorem kept_onMonitor (f : Monitor → Monitor) (h : FaultSetForm s → FaultSetForm (s.onMonitor f)) : Kept s (s.onMonitor f) :=
  ⟨⟨⟨id, id, id, id, id, id, id, id, h, id⟩, And.right⟩, id, id⟩

/-- The link, whatever becomes of receiver, transmitter and poll. -/
theorem kept_onLink (f : Link → Link) (tables : TableForm s → TableForm (s.onLink f))
    (summary : SummaryLaw s → SummaryLaw (s.onLink f)) : Kept s (s.onLink f) :=
  ⟨⟨⟨id, id, id, id, id, tables, summary, id, id, id⟩, And.right⟩, id, id⟩

/-- The timers, counts and orders of the Motion Controller. -/
theorem kept_onMotion (f : Motion → Motion)
    (h : f s.motion = { f s.motion with
      mode := s.motion.mode, vCmd := s.motion.vCmd, liftersUp := s.motion.liftersUp, pinchIn := s.motion.pinchIn
      brakesOn := s.motion.brakesOn }) : Kept s (s.onMotion f) := by
  unfold State.onMotion
  rw [h]
  exact ⟨⟨⟨id, id, id, id, id, id, id, id, id, id⟩, And.right⟩, id, id⟩

/-- The speed command. -/
theorem kept_speed (f : Motion → Motion) (h : ∃ v, f s.motion = { s.motion with vCmd := v })
    (speed : SpeedLaw s → SpeedLaw (s.onMotion f)) : Kept s (s.onMotion f) := by
  obtain ⟨v, hv⟩ := h
  have same : s.onMotion f = s.onMotion fun x => { x with vCmd := v } := by simp only [State.onMotion, hv]
  rw [same] at speed ⊢
  exact ⟨⟨⟨id, speed, id, id, id, id, id, id, id, id⟩, And.right⟩, id, id⟩

theorem kept_onServo (f : Servo → Servo) (torque : TorqueLaw s → TorqueLaw (s.onServo f)) : Kept s (s.onServo f) :=
  ⟨⟨⟨torque, id, id, id, id, id, id, id, id, id⟩, And.right⟩, id, id⟩

/-- The servo's figures but the torque commands. -/
theorem kept_servoFigures (f : Servo → Servo)
    (h : f s.servo = { f s.servo with
      cmdSupply := s.servo.cmdSupply, cmdTakeUp := s.servo.cmdTakeUp, drives := s.servo.drives }) : Kept s (s.onServo f) := by
  refine kept_onServo s f fun l => ?_
  unfold State.onServo
  rw [h]
  exact l

/-- The Capstan and Reference Unit, where the lock stays. -/
theorem kept_onCapstan (f : Capstan → Capstan) (lock : (f s.capstan).lock = s.capstan.lock)
    (capstan : CapstanLaw s → CapstanLaw (s.onCapstan f)) : Kept s (s.onCapstan f) := by
  refine ⟨⟨⟨id, id, id, capstan, id, id, id, id, id, id⟩, And.right⟩, fun l g => ?_, fun l g => ?_⟩
  · obtain ⟨⟨run, locked, rest⟩, l⟩ := l g
    exact ⟨⟨run, lock.trans locked, rest⟩, l⟩
  · obtain ⟨run, locked, rest⟩ := l g
    exact ⟨run, lock.trans locked, rest⟩

theorem lawful_onCapstan (f : Capstan → Capstan) (capstan : CapstanLaw s → CapstanLaw (s.onCapstan f)) :
    Lawful s (s.onCapstan f) :=
  ⟨⟨id, id, id, capstan, id, id, id, id, id, id⟩, And.right⟩

/-- The reference's times, periods and state, which no law speaks of. -/
theorem kept_reference (f : Capstan → Capstan)
    (h : f s.capstan = { f s.capstan with
      vRef := s.capstan.vRef, lock := s.capstan.lock, lockCount := s.capstan.lockCount, missed := s.capstan.missed
      correction := s.capstan.correction, enable := s.capstan.enable, command := s.capstan.command }) :
    Kept s (s.onCapstan f) := by
  refine kept_onCapstan s f (by rw [h]) fun l => ?_
  unfold State.onCapstan
  rw [h]
  exact l

theorem lawful_onPunch (f : Punch → Punch) (armed : MarkLaw s ∧ ArmedLaw s → ArmedLaw (s.onPunch f)) : Lawful s (s.onPunch f) :=
  ⟨⟨id, id, id, id, id, id, id, id, id, id⟩, armed⟩

/-- The Punch Unit's lists and records. -/
theorem kept_onPunch (f : Punch → Punch)
    (h : f s.punch = { f s.punch with
      gateA := s.punch.gateA, gateB := s.punch.gateB, monA := s.punch.monA, monB := s.punch.monB, permit := s.punch.permit
      safeA := s.punch.safeA, safeB := s.punch.safeB, zones := s.punch.zones })
    (armed : MarkLaw s ∧ ArmedLaw s → ArmedLaw (s.onPunch f)) : Kept s (s.onPunch f) := by
  unfold State.onPunch at armed ⊢
  rw [h] at armed ⊢
  exact ⟨⟨⟨id, id, id, id, id, id, id, id, id, id⟩, armed⟩, id, id⟩

/-- The Punch Unit but for its entries: nothing that the armed list rests on. -/
theorem lawful_lines (f : Punch → Punch) (h : (f s.punch).entries = s.punch.entries) : Lawful s (s.onPunch f) := by
  refine lawful_onPunch s f fun l => ?_
  obtain ⟨_, l⟩ := l
  unfold ArmedLaw at *
  rw [State.onPunch_punch, h]
  exact l

/-- The tracker, where map and counter and the loaded reel stay. -/
theorem kept_onTracker (f : Tracker → Tracker)
    (h : f s.tracker = { f s.tracker with counter := s.tracker.counter, map := s.tracker.map, loaded := s.tracker.loaded }) :
    Kept s (s.onTracker f) := by
  unfold State.onTracker
  rw [h]
  exact ⟨⟨⟨id, id, id, id, id, id, id, id, id, id⟩, And.right⟩, id, id⟩

/-- The store, where the active profile stays with the saved tables. -/
theorem kept_onStore (f : Store → Store)
    (profile : (f s.store).profiles.getD (f s.store).active Config.factoryProfile = activeProfile s)
    (mark : MarkLaw s → MarkLaw (s.onStore f)) : Kept s (s.onStore f) := by
  have same : activeProfile (s.onStore f) = activeProfile s := profile
  refine ⟨⟨⟨fun l => ?_, fun l => ?_, id, id, id, id, id, id, id, mark⟩, And.right⟩, id, id⟩
  · unfold TorqueLaw at *
    rw [same]
    exact l
  · unfold SpeedLaw at *
    rw [same]
    exact l

end

/-! ## Gates and monitors once judged -/

section
variable {s t : State}

/-- Where the transport is not in PLAY RUN no gate is on, and so none after. -/
theorem Lawful.kept_of_not_run (h : Lawful s t) (run : ¬ InRun s)
    (gates : GateOn t → GateOn s) (monitors : MonitorOn t → MonitorOn s) : Kept s t where
  toLawful := h
  gate l g := absurd (l (gates g)).1.1 run
  monitor l m := absurd (l (monitors m)).1 run

/-- Where every line is off the laws of gates and monitors hold of themselves. -/
theorem Lawful.kept_of_off (h : Lawful s t) (gates : ¬ GateOn t) (monitors : ¬ MonitorOn t) : Kept s t where
  toLawful := h
  gate _ g := absurd g gates
  monitor _ m := absurd m monitors

end

end Sys2Proof.Machine
end

section
/-!
Modes: what a change of transport mode makes of each block (R56, R111, R112, R140, R142, R143, R163).
-/

namespace Sys2Proof.Machine

open Sys2Proof.Safety

/-- The solenoids and the mode after entry to `m`. -/
def Motion.entering (m : Mode) (x : Motion) : Motion :=
  { x with
    mode := m
    liftersUp := if m.liftersRow = some true then true else x.liftersUp
    pinchIn := decide (m = .play .run)
    brakesOn := m.brakesRow }

/-- The lock opened with its counts and the correction. -/
def Capstan.unlocked (c : Capstan) : Capstan := { c with lock := false, lockCount := 0, missed := 0, correction := 0 }

/-- The lines of the capstan in mode `m`. -/
def Capstan.driven (m : Mode) (c : Capstan) : Capstan :=
  { c with
    enable := m.capstanOn
    command := if m.capstanOn then if m = .play .run then c.vRef + c.correction else c.vRef else 0 }

/-- The Reel Servo at a change of mode from `m₀` to `m`. -/
def Servo.entering (m₀ m : Mode) (v : Servo) : Servo :=
  let v := if m₀ = .engaging ∧ m ≠ .engaging then { v with ready := 0, rampDone := false } else v
  if m.forcedZero then { v with cmdSupply := 0, cmdTakeUp := 0, drives := false } else v

section
variable (m : Mode) (s : State)

theorem driveCapstan_capstan : (driveCapstan s).capstan = s.capstan.driven s.motion.mode := rfl

theorem endEngaging_servo : (endEngaging m s).servo =
    if s.motion.mode = .engaging ∧ m ≠ .engaging then { s.servo with ready := 0, rampDone := false } else s.servo := by
  unfold endEngaging
  split <;> rfl

theorem reelLines_servo : (reelLines m s).servo =
    if m.forcedZero then { s.servo with cmdSupply := 0, cmdTakeUp := 0, drives := false } else s.servo := by
  unfold reelLines
  split <;> rfl

theorem solenoids_motion : (solenoids m s).motion = s.motion.entering m := rfl

@[simp] theorem leaveRun_motion : (leaveRun s).motion = s.motion := by simp [leaveRun]
@[simp] theorem leaveRun_servo : (leaveRun s).servo = s.servo := by simp [leaveRun]
@[simp] theorem leaveRun_punch : (leaveRun s).punch = (leaveRunPunch s).punch := by simp [leaveRun, unlockCapstan]
@[simp] theorem leaveRun_link : (leaveRun s).link = (leaveRunPunch s).link := by simp [leaveRun, unlockCapstan]
theorem leaveRun_capstan : (leaveRun s).capstan = s.capstan.unlocked := by
  simp [leaveRun, unlockCapstan, Capstan.unlocked]

@[simp] theorem enterRun_motion : (enterRun s).motion = s.motion := by simp [enterRun]
@[simp] theorem enterRun_servo : (enterRun s).servo = s.servo := by simp [enterRun]
@[simp] theorem enterRun_link : (enterRun s).link = s.link := by simp [enterRun, unlockCapstan]
theorem enterRun_capstan : (enterRun s).capstan = s.capstan.unlocked := by
  simp [enterRun, unlockCapstan, Capstan.unlocked]

/-- A change of mode that neither enters nor leaves PLAY RUN. -/
theorem enterMode_of_steady {m : Mode} {s : State} (h : InRun s ↔ m = .play .run) :
    enterMode m s = driveCapstan (reelLines m (solenoids m (endEngaging m s))) := by
  have leaves : ¬ (InRun s ∧ m ≠ .play .run) := by tauto
  have enters : ¬ (¬ InRun s ∧ m = .play .run) := by tauto
  simp only [enterMode, leaves, enters, if_false]

theorem enterMode_of_leave {m : Mode} {s : State} (h : InRun s) (k : m ≠ .play .run) :
    enterMode m s = driveCapstan (reelLines m (solenoids m (endEngaging m (leaveRun s)))) := by
  have enters : ¬ (¬ InRun s ∧ m = .play .run) := by tauto
  unfold enterMode
  dsimp only
  rw [if_neg enters, if_pos ⟨h, k⟩]

theorem enterMode_of_enter {s : State} (h : ¬ InRun s) :
    enterMode (.play .run) s =
      driveCapstan (enterRun (reelLines (.play .run) (solenoids (.play .run) (endEngaging (.play .run) s)))) := by
  unfold enterMode
  dsimp only
  rw [if_pos ⟨h, rfl⟩, if_neg fun k => h k.1]

/-- The three ways into a mode. -/
theorem enterMode_cases (m : Mode) (s : State) :
    (InRun s ↔ m = .play .run) ∨ (InRun s ∧ m ≠ .play .run) ∨ (¬ InRun s ∧ m = .play .run) := by
  tauto

@[simp] theorem enterMode_motion : (enterMode m s).motion = s.motion.entering m := by
  rcases enterMode_cases m s with h | ⟨h, k⟩ | ⟨h, rfl⟩
  · simp [enterMode_of_steady h, solenoids_motion]
  · simp [enterMode_of_leave h k, solenoids_motion]
  · simp [enterMode_of_enter h, solenoids_motion]

theorem enterMode_mode : (enterMode m s).motion.mode = m := by
  rw [enterMode_motion]
  rfl

theorem enterMode_servo : (enterMode m s).servo = s.servo.entering s.motion.mode m := by
  rcases enterMode_cases m s with h | ⟨h, k⟩ | ⟨h, rfl⟩
  · simp only [enterMode_of_steady h, driveCapstan_frame, reelLines_servo, solenoids_frame, endEngaging_servo, Servo.entering]
  · simp only [enterMode_of_leave h k, driveCapstan_frame, reelLines_servo, solenoids_frame, endEngaging_servo, leaveRun_motion,
      leaveRun_servo, Servo.entering]
  · simp only [enterMode_of_enter h, driveCapstan_frame, enterRun_servo, reelLines_servo, solenoids_frame, endEngaging_servo,
      Servo.entering]

theorem enterMode_capstan : (enterMode m s).capstan =
    (if InRun s ↔ m = .play .run then s.capstan else s.capstan.unlocked).driven m := by
  rcases enterMode_cases m s with h | ⟨h, k⟩ | ⟨h, rfl⟩
  · simp [enterMode_of_steady h, driveCapstan_capstan, solenoids_motion, Motion.entering, h]
  · have turned : ¬ (InRun s ↔ m = .play .run) := by tauto
    simp [enterMode_of_leave h k, driveCapstan_capstan, solenoids_motion, Motion.entering, leaveRun_capstan, turned]
  · rw [if_neg (by tauto)]
    simp [enterMode_of_enter h, driveCapstan_capstan, solenoids_motion, Motion.entering, enterRun_capstan]

theorem enterMode_punch_steady {m : Mode} {s : State} (h : InRun s ↔ m = .play .run) :
    (enterMode m s).punch = s.punch := by
  simp [enterMode_of_steady h]

theorem enterMode_link_steady {m : Mode} {s : State} (h : InRun s ↔ m = .play .run) :
    (enterMode m s).link = s.link := by
  simp [enterMode_of_steady h]

theorem enterMode_punch_leave {m : Mode} {s : State} (h : InRun s) (k : m ≠ .play .run) :
    (enterMode m s).punch = (leaveRunPunch s).punch := by
  simp [enterMode_of_leave h k]

theorem enterMode_link_leave {m : Mode} {s : State} (h : InRun s) (k : m ≠ .play .run) :
    (enterMode m s).link = (leaveRunPunch s).link := by
  simp [enterMode_of_leave h k]

/-- What a change of mode outside PLAY RUN makes of the whole card. -/
theorem enterMode_outside_run {m : Mode} {s : State} (h : ¬ InRun s) (k : m ≠ .play .run) :
    enterMode m s = { s with
      motion := s.motion.entering m
      servo := s.servo.entering s.motion.mode m
      capstan := s.capstan.driven m } := by
  have steady : InRun s ↔ m = .play .run := by tauto
  have capstan := enterMode_capstan m s
  rw [if_pos steady] at capstan
  rw [← enterMode_servo, ← enterMode_motion, ← capstan]
  have punch := enterMode_punch_steady steady
  have link := enterMode_link_steady steady
  have frame := enterMode_frame m s
  generalize enterMode m s = t at *
  cases t
  simp_all

end

end Sys2Proof.Machine
end

section
/-!
Armed: the law of the armed list under the changes that the Punch Unit makes of its entries (R152): an entry put in its own
place, entries left out, and the order by in tick.
-/

namespace Sys2Proof.Machine

open Sys2Proof.Safety

/-! ## Ticks rest on the marks and the loaded reel -/

section
variable {s t : State}

theorem spb_congr (loaded : t.tracker.loaded = s.tracker.loaded) : spb t = spb s := by
  unfold spb Tracker.spb
  rw [loaded]

theorem markTick_congr (marks : t.marks = s.marks) (loaded : t.tracker.loaded = s.tracker.loaded) (n : Nat) :
    markTick t n = markTick s n := by
  unfold markTick markAt tickValue
  rw [marks, spb_congr loaded]

theorem entryIn_congr (marks : t.marks = s.marks) (loaded : t.tracker.loaded = s.tracker.loaded) {e f : Entry}
    (h : f.inMark = e.inMark) : entryIn t f = entryIn s e := by
  unfold entryIn
  rw [markTick_congr marks loaded, h]

theorem entryTop_congr (marks : t.marks = s.marks) (loaded : t.tracker.loaded = s.tracker.loaded) {e f : Entry}
    (h : f.outMark = e.outMark) : entryTop t f = entryTop s e := by
  unfold entryTop entryOut
  rw [markTick_congr marks loaded, h]

/-- The marks an entry rests on. -/
abbrev EntryMarks (s : State) (e : Entry) : Prop :=
  ∃ m ∈ markAt s e.inMark, ∃ o ∈ markAt s e.outMark, m.kind = .punchIn ∧ m.partner = some e.outMark ∧
    m.tag = loadedTag s ∧ m.imprecise = false ∧ o.imprecise = false

theorem entryMarks_congr (marks : t.marks = s.marks) (loaded : t.tracker.loaded = s.tracker.loaded) {e f : Entry}
    (hin : f.inMark = e.inMark) (hout : f.outMark = e.outMark) (h : EntryMarks s e) : EntryMarks t f := by
  unfold EntryMarks markAt loadedTag
  rw [marks, loaded, hin, hout]
  exact h

/-! ## What the law says of the entries -/

theorem slotGet_mem {α : Type} {k : Nat} {a : α} {l : List (Nat × α)} (h : slotGet k l = some a) : (k, a) ∈ l := by
  induction l with
  | nil => simp [slotGet] at h
  | cons q r ih =>
    obtain ⟨n, b⟩ := q
    unfold slotGet at h
    split at h
    next hn =>
      cases h
      subst hn
      exact List.mem_cons_self
    · exact List.mem_cons_of_mem _ (ih h)

/-- The out-point of an armed pair lies ten blocks above its in-point at least, as far as the range goes (R40, R152). -/
theorem entryIn_le_entryTop {e : Entry} (law : MarkLaw s) (h : EntryMarks s e) : entryIn s e ≤ entryTop s e := by
  obtain ⟨m, hm, o, ho, kind, partner, tag, -⟩ := h
  obtain ⟨-, order, -⟩ := law
  have := order _ (slotGet_mem hm) tag _ partner o ho
  simp only [OrderHolds, kind, reduceCtorEq, false_and, or_false, true_and] at this
  simp only [entryIn, entryTop, entryOut, markTick]
  rw [show markAt s e.inMark = some m from hm, show markAt s e.outMark = some o from ho]
  obtain ⟨-, le⟩ := this
  dsimp only
  omega

theorem pairwise_or {α : Type} {R : α → α → Prop} {l : List α} (h : l.Pairwise R) {x y : α} (hx : x ∈ l) (hy : y ∈ l) :
    x = y ∨ R x y ∨ R y x := by
  induction l with
  | nil => simp at hx
  | cons a r ih =>
    obtain ⟨ha, hr⟩ := List.pairwise_cons.mp h
    rcases List.mem_cons.mp hx with rfl | kx <;> rcases List.mem_cons.mp hy with rfl | ky
    · exact .inl rfl
    · exact .inr (.inl (ha y ky))
    · exact .inr (.inr (ha x kx))
    · exact ih hr kx ky

/-- No two entries have one in-mark. -/
theorem entry_eq_of_inMark (law : MarkLaw s ∧ ArmedLaw s) {e f : Entry} (he : e ∈ s.punch.entries) (hf : f ∈ s.punch.entries)
    (h : e.inMark = f.inMark) : e = f := by
  obtain ⟨marks, -, -, apart, entry⟩ := law
  have topE := entryIn_le_entryTop marks (entry e he).1
  have topF := entryIn_le_entryTop marks (entry f hf).1
  have same : entryIn s e = entryIn s f := by rw [entryIn, entryIn, h]
  rcases pairwise_or apart he hf with h | h | h
  · exact h
  · omega
  · omega

/-! ## Entries changed in their places -/

/-- Every entry keeps its marks; what becomes of the states is said by the three hypotheses. -/
theorem armedLaw_of_map (law : ArmedLaw s) (marks : t.marks = s.marks) (loaded : t.tracker.loaded = s.tracker.loaded)
    (g : Entry → Entry) (entries : t.punch.entries = s.punch.entries.map g)
    (keys : ∀ e ∈ s.punch.entries, (g e).inMark = e.inMark ∧ (g e).outMark = e.outMark)
    (one : ((s.punch.entries.map g).filter Entry.isActive).length ≤ 1)
    (active : ∀ e ∈ s.punch.entries, (g e).isActive = true → s.tracker.loaded ≠ none)
    (drop : ∀ e ∈ s.punch.entries, ∀ late d ain, (g e).state = .active late (some d) ain → d ≤ entryTop s e) :
    ArmedLaw t := by
  obtain ⟨room, -, apart, entry⟩ := law
  refine ⟨?_, ?_, ?_, ?_⟩
  · rw [entries, List.length_map]
    exact room
  · rw [entries]
    exact one
  · rw [entries, List.pairwise_map]
    refine apart.imp_of_mem fun he hf h => ?_
    rw [entryTop_congr marks loaded (keys _ he).2, entryIn_congr marks loaded (keys _ hf).1]
    exact h
  · rw [entries]
    intro f hf
    obtain ⟨e, he, rfl⟩ := List.mem_map.mp hf
    refine ⟨entryMarks_congr marks loaded (keys e he).1 (keys e he).2 (entry e he).1, fun h => ?_, fun late d ain h => ?_⟩
    · rw [loaded]
      exact active e he h
    · rw [entryTop_congr marks loaded (keys e he).2]
      exact drop e he late d ain h

theorem filter_map_length_le {g : Entry → Entry} {l : List Entry} (h : ∀ e ∈ l, (g e).isActive = true → e.isActive = true) :
    ((l.map g).filter Entry.isActive).length ≤ (l.filter Entry.isActive).length := by
  rw [← List.countP_eq_length_filter, ← List.countP_eq_length_filter, List.countP_map]
  exact List.countP_mono_left h

/-- Every entry keeps its marks, and none becomes ACTIVE or gets a drop point. -/
theorem armedLaw_of_quiet_map (law : ArmedLaw s) (marks : t.marks = s.marks) (loaded : t.tracker.loaded = s.tracker.loaded)
    (g : Entry → Entry) (entries : t.punch.entries = s.punch.entries.map g)
    (keys : ∀ e ∈ s.punch.entries, (g e).inMark = e.inMark ∧ (g e).outMark = e.outMark)
    (quiet : ∀ e ∈ s.punch.entries, (g e).isActive = true → (g e).state = e.state) : ArmedLaw t := by
  obtain ⟨room, one, apart, entry⟩ := law
  have isActive_of : ∀ e ∈ s.punch.entries, (g e).isActive = true → e.isActive = true := by
    intro e he h
    unfold Entry.isActive at h ⊢
    rw [← quiet e he h]
    exact h
  refine armedLaw_of_map ⟨room, one, apart, entry⟩ marks loaded g entries keys
    ((filter_map_length_le isActive_of).trans one) (fun e he h => ?_) fun e he late d ain h => ?_
  · obtain ⟨-, active, -⟩ := entry e he
    exact active (isActive_of e he h)
  · obtain ⟨-, -, drop⟩ := entry e he
    refine drop late d ain ?_
    rw [← quiet e he (by simp [Entry.isActive, h]), h]

/-- The entry at the in-mark of a list's member, put in its place, changes the state of that member only. -/
theorem putEntry_keys (law : MarkLaw s ∧ ArmedLaw s) {e : Entry} (he : e ∈ s.punch.entries) (st : EntryState) :
    ∀ x ∈ s.punch.entries,
      (if x.inMark = e.inMark then { e with state := st } else x).inMark = x.inMark ∧
      (if x.inMark = e.inMark then { e with state := st } else x).outMark = x.outMark := by
  intro x hx
  split
  next h =>
    cases entry_eq_of_inMark law hx he h
    exact ⟨rfl, rfl⟩
  · exact ⟨rfl, rfl⟩

/-- A member of the list put back with a state that is not ACTIVE. -/
theorem armedLaw_putEntry {e : Entry} {st : EntryState} (law : MarkLaw s ∧ ArmedLaw s) (he : e ∈ s.punch.entries)
    (marks : t.marks = s.marks) (loaded : t.tracker.loaded = s.tracker.loaded)
    (entries : t.punch.entries = putEntry { e with state := st } s.punch.entries)
    (idle : Entry.isActive { e with state := st } = false) : ArmedLaw t := by
  refine armedLaw_of_quiet_map law.2 marks loaded _ entries (putEntry_keys law he st) fun x _ h => ?_
  split at h
  · rw [idle] at h
    cases h
  next k => rw [if_neg k]

/-- A member of the list put back ACTIVE: it was so before, or none was. -/
theorem armedLaw_putActive {e : Entry} {late : Bool} {drop : Option Int} {ain : Addr} (law : MarkLaw s ∧ ArmedLaw s)
    (he : e ∈ s.punch.entries) (marks : t.marks = s.marks) (loaded : t.tracker.loaded = s.tracker.loaded)
    (entries : t.punch.entries = putEntry { e with state := .active late drop ain } s.punch.entries)
    (alone : e.isActive = true ∨ activeEntry s = none) (reel : s.tracker.loaded ≠ none)
    (top : ∀ d ∈ drop, d ≤ entryTop s e) : ArmedLaw t := by
  have keys := putEntry_keys law he (.active late drop ain)
  refine armedLaw_of_map law.2 marks loaded _ entries keys ?one (fun _ _ _ => reel) fun x hx late' d ain' h => ?drop
  case drop =>
    split at h
    next k =>
      cases entry_eq_of_inMark law hx he k
      cases h
      exact top d rfl
    · exact (law.2.2.2.2 x hx).2.2 late' d ain' h
  case one =>
    rcases alone with h | h
    · refine (filter_map_length_le fun x hx k => ?_).trans law.2.2.1
      split at k
      next hk =>
        cases entry_eq_of_inMark law hx he hk
        exact h
      · exact k
    · have idle : ∀ x ∈ s.punch.entries, x.isActive = false := by
        simpa [activeEntry, List.find?_eq_none] using h
      have nodup : s.punch.entries.Nodup := by
        refine law.2.2.2.1.imp_of_mem fun hx hy k e => ?_
        subst e
        have := entryIn_le_entryTop law.1 (law.2.2.2.2 _ hx).1
        omega
      rw [← List.countP_eq_length_filter, List.countP_map]
      have count : List.countP (Entry.isActive ∘ fun x => if x.inMark = e.inMark then { e with state := .active late drop ain } else x)
          s.punch.entries ≤ List.countP (fun x => decide (x = e)) s.punch.entries := by
        refine List.countP_mono_left fun x hx k => ?_
        simp only [Function.comp] at k
        split at k
        next hk => simpa using entry_eq_of_inMark law hx he hk
        · rw [idle x hx] at k
          cases k
      refine count.trans ?_
      have := List.nodup_iff_count_le_one.mp nodup e
      rw [List.count] at this
      exact this

/-- Entries left out. -/
theorem armedLaw_of_sublist (law : ArmedLaw s) (marks : t.marks = s.marks) (loaded : t.tracker.loaded = s.tracker.loaded)
    (entries : t.punch.entries.Sublist s.punch.entries) : ArmedLaw t := by
  obtain ⟨room, one, apart, entry⟩ := law
  refine ⟨entries.length_le.trans room, (entries.filter _).length_le.trans one, ?_, fun e he => ?_⟩
  · refine (apart.sublist entries).imp fun h => ?_
    rw [entryTop_congr marks loaded rfl, entryIn_congr marks loaded rfl]
    exact h
  · obtain ⟨rests, active, drop⟩ := entry e (entries.mem he)
    refine ⟨entryMarks_congr marks loaded rfl rfl rests, fun h => ?_, fun late d ain h => ?_⟩
    · rw [loaded]
      exact active h
    · rw [entryTop_congr marks loaded rfl]
      exact drop late d ain h

end

end Sys2Proof.Machine
end

section
/-!
PunchKept: every operation of the Punch Unit keeps the laws of the card (chapter 8).
-/

namespace Sys2Proof.Machine

open Sys2Proof.Safety

variable (s : State)

/-! ## Events (R187) -/

theorem event_bit_low (e : Event) : e.bit &&& 0xF800#16 = 0 := by cases e <;> rfl

theorem raise_kept (e : Event) : Kept s (raise e s) := by
  refine kept_onLink s _ id fun l => ?_
  obtain ⟨summary, mask⟩ := l
  refine ⟨?_, mask⟩
  change (s.link.summary ||| e.bit) &&& 0xF800#16 = 0
  rw [BitVec.and_or_distrib_right, summary, event_bit_low]
  rfl

theorem raiseIf_kept (c : Bool) (e : Event) : Kept s (raiseIf c e s) := by
  unfold raiseIf
  split
  · exact raise_kept s e
  · exact .refl s

/-! ## Entries -/

section
variable {s}

theorem entryFor_spec {n : Nat} {e : Entry} (h : entryFor s n = some e) : e ∈ s.punch.entries ∧ e.inMark = n :=
  ⟨List.mem_of_find?_eq_some h, by simpa using List.find?_some h⟩

theorem activeEntry_spec {e : Entry} (h : activeEntry s = some e) : e ∈ s.punch.entries ∧ e.isActive = true :=
  ⟨List.mem_of_find?_eq_some h, List.find?_some (p := Entry.isActive) h⟩

/-- A member of the list put back with a state that is not ACTIVE. -/
theorem putEntry_kept {e : Entry} (he : e ∈ s.punch.entries) (st : EntryState) (h : Entry.isActive { e with state := st } = false) :
    Kept s (s.onPunch fun p => { p with entries := putEntry { e with state := st } p.entries }) :=
  kept_onPunch s _ rfl fun l => armedLaw_putEntry l he rfl rfl rfl h

theorem completeEntry_kept {e : Entry} (he : e ∈ s.punch.entries) (r : PunchResult) (x y : Option Addr) :
    Kept s (completeEntry e r x y s) :=
  (kept_onPunch s _ rfl fun l => armedLaw_putEntry l he rfl rfl rfl rfl).trans (raise_kept _ _)

end

/-- Every entry given a state that is not ACTIVE, or left. -/
theorem mapEntries_kept (g : Entry → Entry) (keys : ∀ e, (g e).inMark = e.inMark ∧ (g e).outMark = e.outMark)
    (quiet : ∀ e, (g e).isActive = true → (g e).state = e.state) :
    Kept s (s.onPunch fun p => { p with entries := p.entries.map g }) :=
  kept_onPunch s _ rfl fun l => armedLaw_of_quiet_map l.2 rfl rfl g rfl (fun e _ => keys e) fun e _ => quiet e

theorem filterEntries_kept (q : Entry → Bool) : Kept s (s.onPunch fun p => { p with entries := p.entries.filter q }) :=
  kept_onPunch s _ rfl fun l => armedLaw_of_sublist l.2 rfl rfl List.filter_sublist

theorem restage_keys (e : Entry) : (restage s e).inMark = e.inMark ∧ (restage s e).outMark = e.outMark := by
  unfold restage
  split <;> exact ⟨rfl, rfl⟩

theorem restage_quiet (e : Entry) (h : (restage s e).isActive = true) : (restage s e).state = e.state := by
  unfold restage at h ⊢
  split at h
  · cases h
  · rfl

theorem idleEntry_keys (e : Entry) : (idleEntry e).inMark = e.inMark ∧ (idleEntry e).outMark = e.outMark := by
  unfold idleEntry
  split <;> exact ⟨rfl, rfl⟩

theorem idleEntry_quiet (e : Entry) (h : (idleEntry e).isActive = true) : (idleEntry e).state = e.state := by
  unfold idleEntry at h ⊢
  split at h
  · cases h
  · rfl

theorem enterRunPunch_kept (u : State) : Kept s (s.onPunch fun p => { p with entries := p.entries.map (restage u) }) :=
  mapEntries_kept s _ (restage_keys u) (restage_quiet u)

/-! ## Lines and drops (R148, R151) -/

theorem closeGates_off (n : Nat) : ¬ GateOn (closeGates n s) := by
  unfold closeGates
  split
  · simp [GateOn]
  next h => exact h

theorem closeMonitors_off (n : Nat) : ¬ MonitorOn (closeMonitors n s) := by
  unfold closeMonitors
  split
  · simp [MonitorOn]
  next h => exact h

theorem closeGates_kept (n : Nat) : Kept s (closeGates n s) := by
  unfold closeGates
  split
  · refine { lawful_lines s _ rfl with gate := fun _ g => ?_, monitor := id }
    simp [GateOn] at g
  · exact .refl s

theorem closeMonitors_kept (n : Nat) : Kept s (closeMonitors n s) := by
  unfold closeMonitors
  split
  · refine { lawful_lines s _ rfl with gate := id, monitor := fun _ g => ?_ }
    simp [MonitorOn] at g
  · exact .refl s

theorem endActive_kept (b : Bool) : Kept s (endActive b s) := by
  unfold endActive
  split
  next e found =>
    split
    · split
      · exact completeEntry_kept (activeEntry_spec found).1 _ _ _
      · exact .refl s
    · exact .refl s
  · exact .refl s

theorem setManual_kept (m : Manual) : Kept s (s.onPunch fun p => { p with manual := m }) :=
  { lawful_lines s _ rfl with gate := id, monitor := id }

theorem manualOff_kept : Kept s (manualOff s) := setManual_kept s .off

theorem dropGates_kept : Kept s (dropGates s) :=
  ((closeGates_kept s 0).trans (endActive_kept _ _)).trans (manualOff_kept _)

theorem dropMonitors_kept : Kept s (dropMonitors s) := (closeMonitors_kept s 0).trans (endActive_kept _ _)

theorem dropPending_kept : Kept s (dropPending s) := by
  unfold dropPending
  split
  · split
    · exact manualOff_kept s
    · exact .refl s
  · exact .refl s

theorem gateGuard_kept : Kept s (gateGuard s) := by
  have gates (s : State) : Kept s (if GateLost s then dropGates s else s) := by
    split
    · exact dropGates_kept s
    · exact .refl s
  have monitors (s : State) : Kept s (if MonitorLost s then dropMonitors s else s) := by
    split
    · exact dropMonitors_kept s
    · exact .refl s
  exact ((gates s).trans (monitors _)).trans (dropPending_kept _)

/-! The ends of an entry and of manual record touch no line. -/

theorem completeEntry_lines (e : Entry) (r : PunchResult) (x y : Option Addr) :
    (GateOn (completeEntry e r x y s) ↔ GateOn s) ∧ (MonitorOn (completeEntry e r x y s) ↔ MonitorOn s) := by
  simp [completeEntry, raise, GateOn, MonitorOn]

theorem endActive_lines (b : Bool) :
    (GateOn (endActive b s) ↔ GateOn s) ∧ (MonitorOn (endActive b s) ↔ MonitorOn s) := by
  unfold endActive
  split
  · split
    · split
      · exact completeEntry_lines s _ _ _ _
      · simp
    · simp
  · simp

theorem dropGates_off : ¬ GateOn (dropGates s) := by
  have := (endActive_lines (closeGates 0 s) false).1.not.mpr (closeGates_off s 0)
  simpa [dropGates, manualOff] using this

theorem dropMonitors_off : ¬ MonitorOn (dropMonitors s) :=
  (endActive_lines (closeMonitors 0 s) true).2.not.mpr (closeMonitors_off s 0)

/-- After the judgement the laws of gates and monitors hold (R151). -/
theorem gateGuard_gateLaw : GateLaw (gateGuard s) := by
  have gates : GateLaw (if GateLost s then dropGates s else s) := by
    split
    · exact fun g => absurd g (dropGates_off s)
    next h => exact fun g => not_not.mp fun k => h ⟨g, k⟩
  have monitors (s : State) : Kept s (if MonitorLost s then dropMonitors s else s) := by
    split
    · exact dropMonitors_kept s
    · exact .refl s
  exact ((monitors _).trans (dropPending_kept _)).gate gates

theorem gateGuard_monitorLaw : MonitorLaw (gateGuard s) := by
  have monitors (s : State) : MonitorLaw (if MonitorLost s then dropMonitors s else s) := by
    split
    · exact fun g => absurd g (dropMonitors_off s)
    next h => exact fun g => not_not.mp fun k => h ⟨g, k⟩
  exact (dropPending_kept _).monitor (monitors _)

/-- Whatever happens to the conditions, judged afterwards the gates' laws hold. -/
theorem Lawful.gateGuard {s u : State} (h : Lawful s u) : Kept s (gateGuard u) where
  toLawful := h.trans (gateGuard_kept u).toLawful
  gate _ := gateGuard_gateLaw u
  monitor _ := gateGuard_monitorLaw u

theorem leaveRunPunch_kept : Kept s (leaveRunPunch s) :=
  ((dropGates_kept s).trans (dropMonitors_kept _)).trans (mapEntries_kept _ _ idleEntry_keys idleEntry_quiet)

theorem dropMonitors_gates : GateOn (dropMonitors s) ↔ GateOn s := by
  have := (endActive_lines (closeMonitors 0 s) true).1
  have : GateOn (closeMonitors 0 s) ↔ GateOn s := by
    unfold closeMonitors
    split <;> simp [GateOn]
  simp only [dropMonitors, *]

theorem leaveRunPunch_off : ¬ GateOn (leaveRunPunch s) ∧ ¬ MonitorOn (leaveRunPunch s) :=
  ⟨(dropMonitors_gates (dropGates s)).not.mpr (dropGates_off s), dropMonitors_off (dropGates s)⟩

theorem abortActive_kept : Kept s (abortActive s) := by
  have gates (s : State) : Kept s (if ∃ e ∈ activeEntry s, e.rehearse = false then dropGates s else s) := by
    split
    · exact dropGates_kept s
    · exact .refl s
  exact (gates s).trans (dropMonitors_kept _)

/-! ## Zones and their reactions (R161, R164) -/

theorem recomputeZones_lawful : Lawful s (recomputeZones s) := lawful_lines s _ rfl

theorem reformManual_kept : Kept s (reformManual s) := by
  unfold reformManual
  split
  · exact { lawful_lines s _ rfl with gate := id, monitor := id }
  · exact { lawful_lines s _ rfl with gate := id, monitor := id }
  · exact .refl s

theorem lowestAbove_le {zones : List Zone} {x top d : Int} (h : lowestAbove zones x (some top) = some d) : d ≤ top := by
  unfold lowestAbove at h
  revert d
  refine List.foldlRecOn (motive := fun acc => ∀ {d : Int}, acc = some d → d ≤ top) zones _ (by simp) fun acc ih z _ d hd => ?_
  split at hd
  next hz =>
    have low := hz.2 top rfl
    split at hd
    · cases hd
      exact low
    · cases hd
      exact (min_le_right _ _).trans low
  · exact ih hd

theorem judgeEntry_kept (n : Nat) : Kept s (judgeEntry s n) := by
  unfold judgeEntry
  split
  next e found =>
    obtain ⟨he, -⟩ := entryFor_spec found
    split
    · split
      · exact completeEntry_kept he _ _ _
      · exact .refl s
    next late drop ain state =>
      split
      · exact abortActive_kept s
      · refine kept_onPunch s _ rfl fun l => ?_
        have active : e.isActive = true := by simp [Entry.isActive, state]
        exact armedLaw_putActive l he rfl rfl rfl (.inl active) ((l.2.2.2.2 e he).2.1 active) fun d hd => lowestAbove_le hd
    · exact .refl s
  · exact .refl s

theorem guardReact_kept {s u : State} (h : Lawful s u) : Kept s (guardReact u) :=
  (((h.trans (recomputeZones_lawful u)).trans (Kept.foldl judgeEntry_kept _ _).toLawful).trans
    (reformManual_kept _).toLawful).gateGuard

/-! ## Removal (R160, R162) -/

theorem removeEntry_kept (n : Nat) : Kept s (removeEntry n s) := by
  have ends (s : State) : Kept s (if ∃ e ∈ entryFor s n, e.isActive = true then abortActive s else s) := by
    split
    · exact abortActive_kept s
    · exact .refl s
  exact (ends s).trans (filterEntries_kept _ _)

theorem foldl_removeEntry_kept (l : List Nat) : Kept s (l.foldl (fun s k => removeEntry k s) s) :=
  Kept.foldl (fun s k => removeEntry_kept s k) l s

theorem removeEntriesOf_kept (n : Nat) : Kept s (removeEntriesOf s n) := foldl_removeEntry_kept s _

theorem dropOverlapping_kept (n : Nat) : Kept s (dropOverlapping s n) := by
  unfold dropOverlapping
  split
  · split
    · exact filterEntries_kept s _
    · exact .refl s
  · exact .refl s

/-! ## Lead check, punch-in, misses (R156, R157) -/

theorem leadCheck_kept (n : Nat) : Kept s (leadCheck s n) := by
  unfold leadCheck
  split
  next e found =>
    obtain ⟨he, -⟩ := entryFor_spec found
    split
    · split
      · split
        · exact completeEntry_kept he _ _ _
        · split
          · exact putEntry_kept he _ rfl
          · exact completeEntry_kept he _ _ _
      · exact .refl s
    · exact .refl s
  · exact .refl s

/-- The position is LOCKED only over a map, and a map stands only on a loaded reel. -/
theorem loaded_of_map {s : State} (law : MarkLaw s) (h : s.tracker.map ≠ []) : s.tracker.loaded ≠ none := by
  obtain ⟨-, -, -, reel, -⟩ := law
  exact reel h

theorem map_ne_nil_of_quality {s : State} (h : quality s ≠ .unknown) : s.tracker.map ≠ [] := by
  intro empty
  simp [quality, liveAnchor, empty] at h

theorem openEntry_kept {s : State} {e : Entry} (he : e ∈ s.punch.entries) (tests : PunchTests s e) (clear : ¬ InGuard s (estimate s))
    (alone : activeEntry s = none) (late : Bool) (ain : Addr) (offset : Nat) : Kept s (openEntry e late ain offset s) := by
  obtain ⟨run, lock, locked, -, allowed⟩ := tests
  have conditions : MonitorConditions s := ⟨run, lock, locked, clear⟩
  refine { lawful_onPunch s _ fun l => ?armed with gate := fun law g => ?gate, monitor := fun _ _ => conditions }
  case armed =>
    have reel := loaded_of_map l.1 (map_ne_nil_of_quality (s := s) (by rw [locked]; simp))
    exact armedLaw_putActive l he rfl rfl rfl (.inr alone) reel fun d hd => lowestAbove_le hd
  case gate =>
    refine ⟨conditions, ?_⟩
    cases rehearsal : e.rehearse with
    | true =>
      have g : GateOn s := by simpa [openEntry, rehearsal, GateOn] using g
      simpa [openEntry, rehearsal] using (law g).2
    | false =>
      have permit := (allowed.resolve_left (by simp [rehearsal])).1
      simp [openEntry, rehearsal, permit]

theorem punchIn_kept (b n : Nat) : Kept s (punchIn b s n) := by
  unfold punchIn
  split
  next e found =>
    obtain ⟨he, -⟩ := entryFor_spec found
    split
    · split
      · split
        · exact completeEntry_kept he _ _ _
        next clear =>
          split
          · exact completeEntry_kept he _ _ _
          next tests =>
            split
            · exact .refl s
            next alone =>
              split
              · split
                · exact openEntry_kept he (not_not.mp tests) clear (not_not.mp alone) _ _ _
                · exact openEntry_kept he (not_not.mp tests) clear (not_not.mp alone) _ _ _
              · exact .refl s
      · exact .refl s
    · exact .refl s
  · exact .refl s

theorem missEntry_kept (passed : State → Entry → Bool) (n : Nat) : Kept s (missEntry passed s n) := by
  unfold missEntry
  split
  next e found =>
    obtain ⟨he, -⟩ := entryFor_spec found
    split
    · exact .refl s
    · split
      · exact putEntry_kept he _ rfl
      · exact .refl s
    · exact .refl s
  · exact .refl s

/-! ## Punch-out (R158) and manual record (R164, R165) -/

theorem closeEntry_kept {s : State} {e : Entry} (he : e ∈ s.punch.entries) (r : PunchResult) (x y : Addr) (n : Nat) :
    Kept s (closeEntry e r x y n s) := by
  unfold closeEntry
  split
  · refine (closeMonitors_kept s n).trans (completeEntry_kept ?_ _ _ _)
    unfold closeMonitors
    split <;> exact he
  · refine (closeGates_kept s n).trans (completeEntry_kept ?_ _ _ _)
    unfold closeGates
    split <;> exact he

theorem activePosition_kept : Kept s (activePosition s) := by
  unfold activePosition
  split
  next e found =>
    obtain ⟨he, -⟩ := activeEntry_spec found
    split
    · split
      · exact closeEntry_kept he _ _ _ _
      · exact .refl s
    · split
      · exact closeEntry_kept he _ _ _ _
      · exact .refl s
    · exact .refl s
  · exact .refl s

theorem activeEdge_kept (b : Nat) : Kept s (activeEdge b s) := by
  unfold activeEdge
  split
  next e found =>
    obtain ⟨he, -⟩ := activeEntry_spec found
    split
    · split
      · exact closeEntry_kept he _ _ _ _
      · split
        · split
          · exact closeEntry_kept he _ _ _ _
          · split
            · exact closeEntry_kept he _ _ _ _
            · exact .refl s
        · split
          · split
            · exact closeEntry_kept he _ _ _ _
            · split
              · exact closeEntry_kept he _ _ _ _
              · exact .refl s
          · exact .refl s
    · exact .refl s
  · exact .refl s

theorem closeManual_kept (n : Nat) : Kept s (closeManual n s) := (closeGates_kept s n).trans (manualOff_kept _)

theorem manualPosition_kept : Kept s (manualPosition s) := by
  unfold manualPosition
  split
  · split
    · exact closeManual_kept s 0
    · exact .refl s
  · split
    · exact closeManual_kept s 0
    · exact .refl s
  · exact .refl s

theorem manualEdge_kept (b : Nat) : Kept s (manualEdge b s) := by
  unfold manualEdge
  split
  · split
    next allowed =>
      obtain ⟨conditions, permit, -⟩ := allowed
      exact { lawful_lines s _ rfl with gate := fun _ _ => ⟨conditions, permit, by simp⟩, monitor := id }
    · exact manualOff_kept s
  · split
    · exact closeManual_kept s _
    · split
      · exact closeManual_kept s _
      · exact .refl s
  · exact closeManual_kept s 0
  · exact .refl s

/-! ## The two events of a pass (R155 to R158) -/

theorem positionTest_lawful : Lawful s (positionTest s) := by
  unfold positionTest
  split
  · exact ((((activePosition_kept s).trans (manualPosition_kept _)).toLawful.gateGuard.trans
      (Kept.foldl leadCheck_kept _ _)).trans (Kept.foldl (fun s n => missEntry_kept s _ n) _ _)).toLawful
  · exact .refl s

/-- In PLAY RUN the position test judges the gates' conditions, whatever has changed before. -/
theorem positionTest_kept {s u : State} (h : Lawful s u) (run : InRun u) : Kept s (positionTest u) := by
  rw [positionTest, if_pos run]
  exact (((h.trans ((activePosition_kept u).trans (manualPosition_kept _)).toLawful).gateGuard.trans
    (Kept.foldl leadCheck_kept _ _)).trans (Kept.foldl (fun s n => missEntry_kept s _ n) _ _))

theorem blockEdge_kept {s u : State} (b : Nat) (h : Lawful s u) (run : InRun u) : Kept s (blockEdge b u) := by
  rw [blockEdge, if_pos run]
  exact ((((h.trans ((manualEdge_kept u b).trans (activeEdge_kept _ b)).toLawful).gateGuard.trans
    (Kept.foldl leadCheck_kept _ _)).trans (Kept.foldl (fun s n => punchIn_kept s b n) _ _)).trans
      (Kept.foldl (fun s n => missEntry_kept s _ n) _ _))

theorem blockEdge_lawful (b : Nat) : Lawful s (blockEdge b s) := by
  by_cases run : InRun s
  · exact (blockEdge_kept b (.refl s) run).toLawful
  · rw [blockEdge, if_neg run]
    exact .refl s

end Sys2Proof.Machine
end

section
/-!
ModesKept: a change of transport mode keeps the laws of the card, and with it every motion begun or ended (chapters 3 and 4).
-/

namespace Sys2Proof.Machine

open Sys2Proof.Safety

/-! ## Laws over blocks that stay -/

section
variable {s t : State}

theorem activeProfile_congr (store : t.store = s.store) : activeProfile t = activeProfile s := by
  unfold activeProfile
  rw [store]

theorem markLaw_congr (marks : t.marks = s.marks) (map : t.tracker.map = s.tracker.map)
    (loaded : t.tracker.loaded = s.tracker.loaded) (user : t.store.user.image.marks = s.store.user.image.marks)
    (save : t.store.save = s.store.save) (h : MarkLaw s) : MarkLaw t := by
  unfold MarkLaw markAt tickValue loadedTag at *
  rw [marks, map, loaded, user, save, spb_congr loaded]
  exact h

theorem quality_congr (tracker : t.tracker = s.tracker) : quality t = quality s := by
  unfold quality
  rw [tracker]

theorem estimate_congr (tracker : t.tracker = s.tracker) : estimate t = estimate s := by
  unfold estimate
  rw [tracker]

/-- Where tracker, marks, fault set and store stay, the laws of torque, speed, solenoids and capstan are left to show. -/
theorem loose_of_lines (tracker : t.tracker = s.tracker) (marks : t.marks = s.marks) (monitor : t.monitor = s.monitor)
    (store : t.store = s.store) (tables : TableForm s → TableForm t) (summary : SummaryLaw s → SummaryLaw t)
    (torque : TorqueLaw s → TorqueLaw t) (speed : SpeedLaw s → SpeedLaw t) (solenoid : SolenoidLaw s → SolenoidLaw t)
    (capstan : CapstanLaw s → CapstanLaw t) : Loose s t where
  torque := torque
  speed := speed
  solenoid := solenoid
  capstan := capstan
  map l := by
    unfold MapLaw at *
    rw [tracker]
    exact l
  tables := tables
  summary := summary
  counter l := by
    unfold CounterLaw at *
    rw [tracker]
    exact l
  faultSet l := by
    unfold FaultSetForm at *
    rw [monitor]
    exact l
  mark := markLaw_congr marks (by rw [tracker]) (by rw [tracker]) (by rw [store]) (by rw [store])

end

/-! ## A change of mode -/

section
variable (m : Mode) (s : State)

theorem enterMode_torque (l : TorqueLaw s) : TorqueLaw (enterMode m s) := by
  obtain ⟨supply, takeUp, -⟩ := l
  unfold TorqueLaw
  rw [activeProfile_congr (s := s) (by simp), enterMode_servo, enterMode_motion]
  by_cases h : m.forcedZero = true
  · have zero : mag 0 ≤ ((activeProfile s).torque : Int) := by simp [mag]
    simp [Servo.entering, h, zero]
  · have stays : ((s.servo.entering s.motion.mode m).cmdSupply = s.servo.cmdSupply) ∧
        ((s.servo.entering s.motion.mode m).cmdTakeUp = s.servo.cmdTakeUp) := by
      unfold Servo.entering
      rw [if_neg h]
      split <;> exact ⟨rfl, rfl⟩
    rw [stays.1, stays.2]
    exact ⟨supply, takeUp, fun k => absurd k h⟩

theorem enterMode_speed (h : m = .empty ∨ m = .released → s.motion.vCmd = 0) (l : SpeedLaw s) : SpeedLaw (enterMode m s) := by
  obtain ⟨wind, contact, -⟩ := l
  unfold SpeedLaw Parked
  rw [activeProfile_congr (s := s) (by simp), enterMode_motion]
  refine ⟨wind, fun k => contact ?_, h⟩
  simp only [Motion.entering] at k
  split at k
  · cases k
  · exact k

theorem enterMode_solenoid : SolenoidLaw (enterMode m s) := by
  intro _
  rw [enterMode_motion]
  exact ⟨rfl, rfl, fun h => if_pos h⟩

theorem enterMode_capstanLaw (l : CapstanLaw s) : CapstanLaw (enterMode m s) := by
  intro running
  rw [(enterMode_frame m s).2.2.2.2.2.1] at running
  unfold capstanCommand InRun
  rw [enterMode_capstan, enterMode_mode]
  refine ⟨rfl, rfl, fun notRun => ?_⟩
  split
  next steady =>
    obtain ⟨-, -, idle⟩ := l running
    exact idle (steady.not.mpr notRun)
  · exact ⟨rfl, rfl, rfl, rfl⟩

theorem leaveRunPunch_marks_tracker : (leaveRunPunch s).marks = s.marks ∧ (leaveRunPunch s).tracker = s.tracker := by simp

theorem armedLaw_congr {s t : State} (marks : t.marks = s.marks) (loaded : t.tracker.loaded = s.tracker.loaded)
    (entries : t.punch.entries = s.punch.entries) (l : ArmedLaw s) : ArmedLaw t :=
  armedLaw_of_sublist l marks loaded (entries ▸ .refl _)

/-- At entry to PLAY RUN the entries take their stages. -/
theorem enterMode_entries_enter {s : State} (h : ¬ InRun s) :
    ∃ u, (enterMode (.play .run) s).punch.entries = s.punch.entries.map (restage u) := by
  rw [enterMode_of_enter h]
  simp only [driveCapstan_frame, enterRun, enterRunPunch, State.onPunch_punch, State.onCapstan_punch, unlockCapstan_frame,
    reelLines_frame, solenoids_frame, endEngaging_frame]
  exact ⟨_, rfl⟩

theorem enterMode_kept (h : m = .empty ∨ m = .released → s.motion.vCmd = 0) : Kept s (enterMode m s) := by
  obtain ⟨tracker, marks, -, monitor, store, -⟩ := enterMode_frame m s
  have loose (tables : TableForm s → TableForm (enterMode m s)) (summary : SummaryLaw s → SummaryLaw (enterMode m s)) :
      Loose s (enterMode m s) :=
    loose_of_lines tracker marks monitor store tables summary (enterMode_torque m s) (enterMode_speed m s h)
      (fun _ => enterMode_solenoid m s) (enterMode_capstanLaw m s)
  have loaded : (enterMode m s).tracker.loaded = s.tracker.loaded := by rw [tracker]
  rcases enterMode_cases m s with steady | ⟨run, away⟩ | ⟨run, rfl⟩
  · have punch := enterMode_punch_steady steady
    have link := enterMode_link_steady steady
    have conditions (c : MonitorConditions s) : MonitorConditions (enterMode m s) := by
      obtain ⟨run, lock, locked, clear⟩ := c
      unfold MonitorConditions InRun InGuard
      rw [enterMode_mode, enterMode_capstan, if_pos steady, quality_congr tracker, estimate_congr tracker, punch]
      exact ⟨steady.mp run, lock, locked, clear⟩
    refine { loose ?_ ?_ with armed := fun l => ?_, gate := fun l g => ?_, monitor := fun l g => ?_ }
    · unfold TableForm
      rw [marks, link]
      exact id
    · unfold SummaryLaw
      rw [link]
      exact id
    · exact armedLaw_congr marks loaded (by rw [punch]) l.2
    · unfold GateOn at g
      rw [punch] at g ⊢
      obtain ⟨c, rest⟩ := l g
      exact ⟨conditions c, rest⟩
    · unfold MonitorOn at g
      rw [punch] at g
      exact conditions (l g)
  · have punch := enterMode_punch_leave run away
    have link := enterMode_link_leave run away
    have left := leaveRunPunch_kept s
    have off := leaveRunPunch_off s
    have frame := leaveRunPunch_frame s
    refine Lawful.kept_of_off { loose (fun l => ?_) (fun l => ?_) with armed := fun l => ?_ } ?_ ?_
    · have := left.tables l
      unfold TableForm at this ⊢
      rw [marks, link]
      simpa using this
    · have := left.summary l
      unfold SummaryLaw at this ⊢
      rw [link]
      exact this
    · exact armedLaw_congr (by simp) (by simp) (by rw [punch]) (left.armed l)
    · unfold GateOn
      rw [punch]
      exact off.1
    · unfold MonitorOn
      rw [punch]
      exact off.2
  · have enter := enterMode_of_enter run
    have link : (enterMode (.play .run) s).link = s.link := by simp [enter]
    refine Lawful.kept_of_not_run { loose ?_ ?_ with armed := fun l => ?_ } run ?_ ?_
    · unfold TableForm
      rw [marks, link]
      exact id
    · unfold SummaryLaw
      rw [link]
      exact id
    · obtain ⟨u, entries⟩ := enterMode_entries_enter run
      exact armedLaw_of_quiet_map l.2 marks loaded (restage u) entries (fun e _ => restage_keys u e) fun e _ => restage_quiet u e
    · simp [GateOn, enter, enterRun, enterRunPunch]
    · simp [MonitorOn, enter, enterRun, enterRunPunch]

end

end Sys2Proof.Machine
end

section
/-!
TransportKept: the moves of the transport, the end of a locate and its target, and the orders keep the laws of the card
(chapters 3 and 4).
-/

namespace Sys2Proof.Machine

open Sys2Proof.Safety

variable (s : State)

/-- The speed command set to 0, with timers, counts and orders of the Motion Controller. -/
theorem kept_standstill (f : Motion → Motion)
    (h : f s.motion = { f s.motion with
      mode := s.motion.mode, vCmd := 0, liftersUp := s.motion.liftersUp, pinchIn := s.motion.pinchIn
      brakesOn := s.motion.brakesOn }) : Kept s (s.onMotion f) := by
  refine (kept_speed s (fun x => { x with vCmd := 0 }) ⟨0, rfl⟩ fun _ => ?_).trans (t := s.onMotion fun x => { x with vCmd := 0 }) ?_
  · refine ⟨?_, fun _ => ?_, fun _ => rfl⟩
    · have : (0 : Int) ≤ (activeProfile s).windMax := Int.natCast_nonneg _
      simp [mag, activeProfile]
    · simp [mag, Config.headContact]
  · have same : s.onMotion f = (s.onMotion fun x => { x with vCmd := 0 }).onMotion fun _ => f s.motion := rfl
    rw [same]
    exact kept_onMotion _ _ h

/-! ## Modes entered -/

theorem enterStoppedFull_kept : Kept s (enterStoppedFull s) :=
  (enterMode_kept _ s (by simp)).trans (kept_onMotion _ _ rfl)

theorem enterStopping_kept (k : StopKind) : Kept s (enterStopping k s) :=
  (enterMode_kept (.stopping k) s (by simp)).trans (kept_onMotion _ _ rfl)

theorem enterReleasing_kept : Kept s (enterReleasing s) := by
  unfold enterReleasing
  exact (enterMode_kept .releasing s (by simp)).trans (kept_onMotion _ _ rfl)

theorem enterReleased_kept (h : s.motion.vCmd = 0) : Kept s (enterReleased s) :=
  (enterMode_kept _ s fun _ => h).trans (kept_onMotion _ _ rfl)

theorem enterPlay_kept : Kept s (enterPlay s) :=
  (enterMode_kept _ s (by simp)).trans (kept_onMotion _ _ rfl)

/-! ## Locates -/

theorem writeResult_kept (r : LocEnd) (c : LocCtx) : Kept s (writeResult r c s) :=
  (kept_onMotion s _ rfl).trans (raise_kept _ _)

theorem endLocate_kept (r : LocEnd) : Kept s (endLocate r s) := by
  unfold endLocate
  split
  · exact (writeResult_kept s r _).trans (kept_onMotion _ _ rfl)
  · exact .refl s

theorem dropHeld_kept (r : LocEnd) : Kept s (dropHeld r s) := by
  unfold dropHeld
  split
  · exact (writeResult_kept s r _).trans (kept_onMotion _ _ rfl)
  · exact kept_onMotion _ _ rfl
  · exact .refl s

theorem setLoc_kept (c : LocCtx) : Kept s (setLoc c s) := kept_onMotion _ _ rfl

theorem toLocateRun_kept (c : LocCtx) : Kept s (toLocateRun c s) :=
  (setLoc_kept s _).trans (enterMode_kept _ _ (by simp))

theorem toApproach_kept (c : LocCtx) : Kept s (toApproach c s) :=
  ((setLoc_kept s _).trans (enterMode_kept _ _ (by simp))).trans (kept_onMotion _ _ rfl)

theorem judgeTarget_kept (c : LocCtx) : Kept s (judgeTarget c s) := by
  have far (s : State) : Kept s
      (if c.approach < distance s c then toLocateRun c s else if 100 < distance s c then toApproach c s else setLoc c s) := by
    split
    · exact toLocateRun_kept s c
    · split
      · exact toApproach_kept s c
      · exact setLoc_kept s c
  unfold judgeTarget
  dsimp only
  split
  · split
    · exact toLocateRun_kept s c
    · split
      · exact setLoc_kept s _
      · exact setLoc_kept s c
  · exact far s
  · exact far s
  · exact setLoc_kept s c

theorem reportToLocate_kept (r : Report) : Kept s (reportToLocate r s) := by
  unfold reportToLocate
  split
  · split
    · split
      · exact judgeTarget_kept s _
      · split
        · exact (endLocate_kept s _).trans (enterStopping_kept _ _)
        · exact .refl s
    · exact .refl s
  · exact .refl s

theorem reportToHeld_kept (r : Report) : Kept s (reportToHeld r s) := by
  unfold reportToHeld
  split
  · split
    · split
      · exact kept_onMotion _ _ rfl
      · split
        · exact dropHeld_kept s _
        · exact .refl s
    · exact .refl s
  · exact .refl s

theorem reportToMotion_kept (r : Report) : Kept s (reportToMotion s r) :=
  (reportToLocate_kept s r).trans (reportToHeld_kept _ r)

/-- Identification at a locate in progress (R86). -/
def identifyLocate (s : State) : State :=
  match s.motion.loc with
  | some c => if c.target.isAddress then judgeTarget (formTarget s { c with target := clampTarget s c.target }) s else s
  | none => s

/-- Identification at a held LOCATE (R86). -/
def identifyHeld (s : State) : State :=
  match s.motion.held with
  | some (.locate c) =>
    if c.target.isAddress then
      s.onMotion fun x => { x with held := some (.locate (formTarget s { c with target := clampTarget s c.target })) }
    else s
  | _ => s

theorem identifyTarget_eq : identifyTarget s = identifyHeld (identifyLocate s) := rfl

theorem identifyTarget_kept : Kept s (identifyTarget s) := by
  have locate : Kept s (identifyLocate s) := by
    unfold identifyLocate
    split
    · split
      · exact judgeTarget_kept s _
      · exact .refl s
    · exact .refl s
  refine locate.trans ?_
  rw [identifyTarget_eq]
  unfold identifyHeld
  split
  · split
    · exact kept_onMotion _ _ rfl
    · exact .refl _
  · exact .refl _

/-! ## Orders (R77, R78, R194) -/

theorem safeStop_kept : Kept s (safeStop s) := by
  unfold safeStop
  split
  · exact enterReleasing_kept s
  · exact (dropHeld_kept s _).trans (enterStopping_kept _ _)
  · exact enterStopping_kept s _
  · exact enterStopping_kept s _
  · exact enterStopping_kept s _
  · exact (endLocate_kept s _).trans (enterStopping_kept _ _)
  · exact enterMode_kept _ s (by simp)
  · exact .refl s

theorem releaseOrder_kept : Kept s (releaseOrder s) := by
  unfold releaseOrder
  split
  · exact enterReleasing_kept s
  · exact .refl s

theorem haltOrder_kept : Kept s (haltOrder s) := by
  unfold haltOrder
  split
  · exact (((endLocate_kept s _).trans (dropHeld_kept _ _)).trans (enterMode_kept _ _ (by simp))).trans (kept_standstill _ _ rfl)
  · exact .refl s

/-! ## Fault reports (R194, R195) -/

theorem map_countRepeat (c : Cause) (l : List FaultRec) :
    (countRepeat c l).map (fun r => r.cause.number) = l.map fun r => r.cause.number := by
  unfold countRepeat
  rw [List.map_map]
  refine List.map_congr_left fun r _ => ?_
  simp only [Function.comp]
  split <;> rfl

theorem mem_insertFault {r x : FaultRec} {l : List FaultRec} : x ∈ insertFault r l ↔ x = r ∨ x ∈ l := by
  induction l with
  | nil => simp [insertFault]
  | cons y l ih =>
    unfold insertFault
    split
    · simp
    · simp only [List.mem_cons, ih]
      tauto

/-- A record of a new cause put in its place keeps the order of R194. -/
theorem insertFault_ordered {r : FaultRec} {l : List FaultRec} (h : (l.map fun x => x.cause.number).Pairwise (· < ·))
    (new : ∀ x ∈ l, x.cause ≠ r.cause) : ((insertFault r l).map fun x => x.cause.number).Pairwise (· < ·) := by
  induction l with
  | nil => simp [insertFault]
  | cons y l ih =>
    rw [List.map_cons, List.pairwise_cons] at h
    obtain ⟨first, rest⟩ := h
    unfold insertFault
    split
    next lt =>
      rw [List.map_cons, List.map_cons, List.pairwise_cons, List.pairwise_cons]
      refine ⟨fun n hn => ?_, first, rest⟩
      rcases List.mem_cons.mp hn with rfl | hn
      · exact lt
      · exact lt.trans (first n hn)
    next le =>
      rw [List.map_cons, List.pairwise_cons]
      refine ⟨fun n hn => ?_, ih rest fun x hx => new x (List.mem_cons_of_mem _ hx)⟩
      obtain ⟨x, hx, rfl⟩ := List.mem_map.mp hn
      rcases mem_insertFault.mp hx with rfl | hx
      · have : y.cause.number ≠ x.cause.number := fun e => new y List.mem_cons_self (by
          revert e
          cases y.cause <;> cases x.cause <;> simp [Cause.number])
        omega
      · exact first _ (List.mem_map_of_mem hx)

theorem recordFault_kept (c : Cause) : Kept s (recordFault c s) := by
  unfold recordFault
  split
  next repeated =>
    refine kept_onMonitor s _ fun l => ?_
    obtain ⟨order, counts⟩ := l
    refine ⟨?_, fun r hr => ?_⟩
    · rw [State.onMonitor_monitor, map_countRepeat]
      exact order
    · obtain ⟨x, hx, rfl⟩ := List.mem_map.mp hr
      have := counts x hx
      split
      · refine ⟨?_, min_le_left _ _⟩
        simp only [le_min_iff]
        omega
      · exact this
  next fresh =>
    refine (kept_onMonitor s _ fun l => ?_).trans (raise_kept _ _)
    obtain ⟨order, counts⟩ := l
    refine ⟨insertFault_ordered order fun x hx k => fresh ⟨x, hx, k⟩, fun r hr => ?_⟩
    rcases mem_insertFault.mp hr with rfl | hr
    · simp [firstRecord]
    · exact counts r hr

theorem faultReport_kept (c : Cause) : Kept s (faultReport c s) := by
  refine (recordFault_kept s c).trans ?_
  unfold faultReport
  generalize recordFault c s = u
  cases c.faultClass with
  | safe => exact safeStop_kept u
  | abrupt => exact haltOrder_kept u
  | release => exact releaseOrder_kept u

theorem reportIf_kept (b : Bool) (c : Cause) : Kept s (reportIf b c s) := by
  unfold reportIf
  split
  · exact faultReport_kept s c
  · exact .refl s

end Sys2Proof.Machine
end

section
/-!
MarkTable: the laws of the mark table as laws of a table of numbered records, and what the table's own changes keep of them
(R26, R28, R40).
-/

namespace Sys2Proof.Machine

open Sys2Proof.Safety

/-! ## Reading a table -/

section
variable {α : Type}

theorem slotGet_iff_mem {l : List (Nat × α)} (h : Rising l) {n : Nat} {a : α} : slotGet n l = some a ↔ (n, a) ∈ l := by
  refine ⟨slotGet_mem, fun m => ?_⟩
  induction l with
  | nil => cases m
  | cons q r ih =>
    obtain ⟨k, b⟩ := q
    obtain ⟨first, rest⟩ := rising_cons.mp h
    rcases List.mem_cons.mp m with e | m
    · cases e
      simp [slotGet]
    · have : k ≠ n := (first _ m).ne
      simp [slotGet, this, ih rest m]

theorem slotGet_slotMap (f : Nat → α → α) (n : Nat) (l : List (Nat × α)) :
    slotGet n (slotMap f l) = (slotGet n l).map (f n) := by
  induction l with
  | nil => rfl
  | cons q r ih =>
    obtain ⟨k, b⟩ := q
    change slotGet n ((k, f k b) :: slotMap f r) = _
    by_cases h : k = n
    · subst h
      simp [slotGet]
    · simp [slotGet, h, ih]

theorem slotGet_eq_none {l : List (Nat × α)} {n : Nat} : slotGet n l = none ↔ ∀ p ∈ l, p.1 ≠ n := by
  induction l with
  | nil => simp [slotGet]
  | cons q r ih =>
    obtain ⟨k, b⟩ := q
    by_cases h : k = n <;> simp [slotGet, h, ih]

theorem slotGet_filter {l : List (Nat × α)} (h : Rising l) (q : Nat × α → Bool) (n : Nat) :
    slotGet n (l.filter q) = (slotGet n l).filter fun a => q (n, a) := by
  rw [Option.ext_iff]
  intro a
  simp only [slotGet_iff_mem (filter_rising h), List.mem_filter, ← slotGet_iff_mem h, Option.filter_eq_some_iff]

end

/-! ## The laws of a table -/

/-- A table in its canonical form with its links in order. -/
structure LinkLaw (t : MarkTable) : Prop where
  rising : Rising t
  bound : ∀ {n m}, slotGet n t = some m → n ≤ 99
  linked : ∀ {n m q}, slotGet n t = some m → m.partner = some q →
    ∃ o, slotGet q t = some o ∧ o.partner = some n ∧ o.tag = m.tag ∧ kindsPair m.kind o.kind = true
  zero : ∀ {m}, slotGet 0 t = some m → m.owner = 0 ∧ m.locked = false ∧ m.partner = none

theorem linkedTable_iff {t : MarkTable} : LinkedTable t ↔ LinkLaw t := by
  constructor
  · rintro ⟨rising, bound, linked, zero⟩
    exact ⟨rising, fun h => bound _ (slotGet_mem h), fun h hq => linked _ (slotGet_mem h) _ hq, fun h => zero _ (slotGet_mem h) rfl⟩
  · rintro ⟨rising, bound, linked, zero⟩
    have get {p : Nat × Mark} (hp : p ∈ t) : slotGet p.1 t = some p.2 := (slotGet_iff_mem rising).mpr hp
    exact ⟨rising, fun p hp => bound (get hp), fun p hp q hq => linked (get hp) hq, fun p hp h => zero (h ▸ get hp)⟩

/-- The laws of the marks of a table under the loaded tag and its spb; the pairs of the marks in `open'` may be out of order. -/
structure TableLaw (open' : List Nat) (t : MarkTable) (tag : Option Nat) (spb : Nat) : Prop extends LinkLaw t where
  order : ∀ {n m q o}, slotGet n t = some m → m.tag = tag → m.partner = some q → slotGet q t = some o →
    OrderHolds m.kind (tickOf m.addr spb) o.kind (tickOf o.addr spb) ∨ n ∈ open' ∨ q ∈ open'
  provisional : ∀ {n m}, slotGet n t = some m → m.isProvisional = true → tag ≠ none ∧ m.tag = tag ∧ m.spread ≠ none

theorem loadedTag_eq_none {s : State} : loadedTag s = none ↔ s.tracker.loaded = none := Option.map_eq_none_iff

theorem markLaw_iff {s : State} : MarkLaw s ↔ TableLaw [] s.marks (loadedTag s) (spb s) ∧
    (s.tracker.map ≠ [] → s.tracker.loaded ≠ none) ∧ SavedTable s.store.user.image.marks ∧
    ∀ v ∈ s.store.save, SavedTable v.snapshot.marks := by
  constructor
  · rintro ⟨linked, order, provisional, map, user, save⟩
    refine ⟨⟨linkedTable_iff.mp linked, fun h ht hq ho => .inl (order _ (slotGet_mem h) ht _ hq _ ho), fun h hp => ?_⟩, map, user, save⟩
    obtain ⟨reel, tag, spread⟩ := provisional _ (slotGet_mem h) hp
    exact ⟨loadedTag_eq_none.not.mpr reel, tag, spread⟩
  · rintro ⟨⟨linked, order, provisional⟩, map, user, save⟩
    have get {p : Nat × Mark} (hp : p ∈ s.marks) : slotGet p.1 s.marks = some p.2 := (slotGet_iff_mem linked.rising).mpr hp
    refine ⟨linkedTable_iff.mpr linked, fun p hp ht q hq o ho => ?_, fun p hp h => ?_, map, user, save⟩
    · exact (order (get hp) ht hq ho).resolve_right (by simp)
    · obtain ⟨reel, tag, spread⟩ := provisional (get hp) h
      exact ⟨loadedTag_eq_none.not.mp reel, tag, spread⟩

theorem orderHolds_comm {ka kb : MarkKind} {x y : Int} : OrderHolds ka x kb y ↔ OrderHolds kb y ka x := by
  unfold OrderHolds
  tauto

theorem kindsPair_comm (a b : MarkKind) : kindsPair a b = kindsPair b a := by
  cases a <;> cases b <;> rfl

/-! ## Links erased, slots freed (R40, R43) -/

/-- The links within a set of numbers are erased, and slots of the set may be freed; the other slots stay. -/
structure Erases (p : Nat → Prop) (t t' : MarkTable) : Prop where
  rising : Rising t'
  inside : ∀ {n m'}, p n → slotGet n t' = some m' → ∃ m, slotGet n t = some m ∧ m' = { m with partner := none }
  outside : ∀ {n}, ¬ p n → slotGet n t' = slotGet n t

section
variable {t t' : MarkTable} {tag : Option Nat} {spb : Nat} {l : List Nat}

/-- A record after the removals, as it stood before them. -/
theorem Erases.old {p : Nat → Prop} (h : Erases p t t') {n : Nat} {m' : Mark} (hm : slotGet n t' = some m') :
    (p n ∧ ∃ m, slotGet n t = some m ∧ m' = { m with partner := none }) ∨ (¬ p n ∧ slotGet n t = some m') := by
  by_cases hp : p n
  · exact .inl ⟨hp, h.inside hp hm⟩
  · exact .inr ⟨hp, h.outside hp ▸ hm⟩

/-- A mark outside the set has its partner outside it. -/
theorem LinkLaw.outside (law : LinkLaw t) {p : Nat → Prop}
    (closed : ∀ {n m q}, slotGet n t = some m → m.partner = some q → p n → p q) {n q : Nat} {m : Mark}
    (hm : slotGet n t = some m) (hq : m.partner = some q) (hp : ¬ p n) : ¬ p q := by
  obtain ⟨o, ho, back, -⟩ := law.linked hm hq
  exact fun k => hp (closed ho back k)

theorem LinkLaw.erase (law : LinkLaw t) {p : Nat → Prop} (h : Erases p t t')
    (closed : ∀ {n m q}, slotGet n t = some m → m.partner = some q → p n → p q) : LinkLaw t' := by
  refine ⟨h.rising, fun hm => ?_, fun hm hq => ?_, fun hm => ?_⟩
  · rcases h.old hm with ⟨-, m, hm, -⟩ | ⟨-, hm⟩ <;> exact law.bound hm
  · rcases h.old hm with ⟨-, m, -, rfl⟩ | ⟨hp, hm⟩
    · cases hq
    · rw [h.outside (law.outside closed hm hq hp)]
      exact law.linked hm hq
  · rcases h.old hm with ⟨-, m, was, rfl⟩ | ⟨-, hm⟩
    · obtain ⟨owner, locked, -⟩ := law.zero was
      exact ⟨owner, locked, rfl⟩
    · exact law.zero hm

theorem TableLaw.erase (law : TableLaw l t tag spb) {p : Nat → Prop} (h : Erases p t t')
    (closed : ∀ {n m q}, slotGet n t = some m → m.partner = some q → p n → p q) : TableLaw l t' tag spb := by
  refine { law.toLinkLaw.erase h closed with order := fun hm ht hq ho => ?_, provisional := fun hm hv => ?_ }
  · rcases h.old hm with ⟨-, m, -, rfl⟩ | ⟨hp, hm⟩
    · cases hq
    · rw [h.outside (law.toLinkLaw.outside closed hm hq hp)] at ho
      exact law.order hm ht hq ho
  · rcases h.old hm with ⟨-, m, was, rfl⟩ | ⟨-, hm⟩
    · have stays := law.provisional was
      exact stays hv
    · exact law.provisional hm hv

/-- A slot outside every link freed. -/
theorem TableLaw.drop (law : TableLaw l t tag spb) {n : Nat} (alone : ∀ m, slotGet n t = some m → m.partner = none) :
    TableLaw l (slotDrop n t) tag spb := by
  refine law.erase (p := (· = n)) ⟨slotDrop_rising law.rising, ?_, ?_⟩ ?_
  · rintro _ m' rfl h
    simp [slotGet_slotDrop] at h
  · intro k h
    rw [slotGet_slotDrop, if_neg h]
  · rintro _ m q h hq rfl
    rw [alone m h] at hq
    cases hq

/-- An unpaired mark written over a slot outside every link. -/
theorem TableLaw.put (law : TableLaw l t tag spb) {n : Nat} {m : Mark} (bound : n ≤ 99)
    (alone : ∀ m, slotGet n t = some m → m.partner = none) (partner : m.partner = none)
    (zero : n = 0 → m.owner = 0 ∧ m.locked = false)
    (provisional : m.isProvisional = true → tag ≠ none ∧ m.tag = tag ∧ m.spread ≠ none) :
    TableLaw l (slotPut n m t) tag spb := by
  have away {k q : Nat} {o : Mark} (hk : k ≠ n) (ho : slotGet k t = some o) (hq : o.partner = some q) : q ≠ n := by
    rintro rfl
    obtain ⟨o', ho', back, -⟩ := law.linked ho hq
    rw [alone o' ho'] at back
    cases back
  refine ⟨⟨slotPut_rising law.rising, fun {k m'} h => ?_, fun {k m' q} h hq => ?_, fun {m'} h => ?_⟩,
    fun {k m' q o} h ht hq ho => ?_, fun {k m'} h hv => ?_⟩
  · by_cases hk : k = n
    · exact hk ▸ bound
    · rw [slotGet_slotPut_other hk] at h
      exact law.bound h
  · by_cases hk : k = n
    · subst hk
      rw [slotGet_slotPut_same] at h
      cases h
      rw [partner] at hq
      cases hq
    · rw [slotGet_slotPut_other hk] at h
      rw [slotGet_slotPut_other (away hk h hq)]
      exact law.linked h hq
  · by_cases hk : 0 = n
    · subst hk
      rw [slotGet_slotPut_same] at h
      cases h
      exact ⟨(zero rfl).1, (zero rfl).2, partner⟩
    · rw [slotGet_slotPut_other hk] at h
      exact law.zero h
  · by_cases hk : k = n
    · subst hk
      rw [slotGet_slotPut_same] at h
      cases h
      rw [partner] at hq
      cases hq
    · rw [slotGet_slotPut_other hk] at h
      rw [slotGet_slotPut_other (away hk h hq)] at ho
      exact law.order h ht hq ho
  · by_cases hk : k = n
    · subst hk
      rw [slotGet_slotPut_same] at h
      cases h
      exact provisional hv
    · rw [slotGet_slotPut_other hk] at h
      exact law.provisional h hv

/-- A mark changed but for kind, tag and partner, its pair in order or left open. -/
theorem TableLaw.replace (law : TableLaw l t tag spb) {n : Nat} {m m' : Mark} (old : slotGet n t = some m)
    (kind : m'.kind = m.kind) (sameTag : m'.tag = m.tag) (partner : m'.partner = m.partner)
    (zero : n = 0 → m'.owner = 0 ∧ m'.locked = false)
    (pair : ∀ q ∈ m.partner, ∀ o, slotGet q t = some o → m.tag = tag →
      OrderHolds m'.kind (tickOf m'.addr spb) o.kind (tickOf o.addr spb) ∨ n ∈ l ∨ q ∈ l)
    (provisional : m'.isProvisional = true → tag ≠ none ∧ m'.tag = tag ∧ m'.spread ≠ none) :
    TableLaw l (slotPut n m' t) tag spb := by
  have apart {k : Nat} {o : Mark} (ho : slotGet k t = some o) (hq : o.partner = some k) : False := by
    obtain ⟨o', ho', -, -, kinds⟩ := law.linked ho hq
    rw [ho] at ho'
    cases ho'
    cases h : o.kind <;> simp [h, kindsPair] at kinds
  refine ⟨⟨slotPut_rising law.rising, fun {k x} h => ?_, fun {k x q} h hq => ?_, fun {x} h => ?_⟩,
    fun {k x q o} h ht hq ho => ?_, fun {k x} h hv => ?_⟩
  · by_cases hk : k = n
    · exact hk ▸ law.bound old
    · rw [slotGet_slotPut_other hk] at h
      exact law.bound h
  · by_cases hk : k = n
    · subst hk
      rw [slotGet_slotPut_same] at h
      cases h
      rw [partner] at hq
      have other : q ≠ k := by
        rintro rfl
        exact apart old hq
      rw [slotGet_slotPut_other other, sameTag, kind]
      exact law.linked old hq
    · rw [slotGet_slotPut_other hk] at h
      obtain ⟨o, ho, back, tags, kinds⟩ := law.linked h hq
      by_cases hn : q = n
      · subst hn
        rw [old] at ho
        cases ho
        exact ⟨m', slotGet_slotPut_same _ _ _, partner.trans back, sameTag.trans tags, kind ▸ kinds⟩
      · rw [slotGet_slotPut_other hn]
        exact ⟨o, ho, back, tags, kinds⟩
  · by_cases hk : 0 = n
    · subst hk
      rw [slotGet_slotPut_same] at h
      cases h
      exact ⟨(zero rfl).1, (zero rfl).2, partner.trans (law.zero old).2.2⟩
    · rw [slotGet_slotPut_other hk] at h
      exact law.zero h
  · by_cases hk : k = n
    · subst hk
      rw [slotGet_slotPut_same] at h
      cases h
      rw [partner] at hq
      have other : q ≠ k := by
        rintro rfl
        exact apart old hq
      rw [slotGet_slotPut_other other] at ho
      exact pair q hq o ho (sameTag ▸ ht)
    · rw [slotGet_slotPut_other hk] at h
      by_cases hn : q = n
      · subst hn
        rw [slotGet_slotPut_same] at ho
        cases ho
        obtain ⟨o', ho', back, tags, -⟩ := law.linked h hq
        rw [old] at ho'
        cases ho'
        rcases pair k back x h (tags.trans ht) with h | h | h
        · exact .inl (orderHolds_comm.mp h)
        · exact .inr (.inr h)
        · exact .inr (.inl h)
      · rw [slotGet_slotPut_other hn] at ho
        exact law.order h ht hq ho
  · by_cases hk : k = n
    · subst hk
      rw [slotGet_slotPut_same] at h
      cases h
      exact provisional hv
    · rw [slotGet_slotPut_other hk] at h
      exact law.provisional h hv

/-- Two unpaired marks linked (R41). -/
theorem TableLaw.link (law : TableLaw [] t tag spb) {a b : Nat} {x y : Mark} (ne : a ≠ b) (lowA : a ≠ 0) (lowB : b ≠ 0)
    (oldA : slotGet a t = some { x with partner := none }) (oldB : slotGet b t = some { y with partner := none })
    (tags : x.tag = y.tag) (kinds : kindsPair x.kind y.kind = true)
    (order : OrderHolds x.kind (tickOf x.addr spb) y.kind (tickOf y.addr spb)) :
    TableLaw [] (slotPut a { x with partner := some b } (slotPut b { y with partner := some a } t)) tag spb := by
  have get (k : Nat) : slotGet k (slotPut a { x with partner := some b } (slotPut b { y with partner := some a } t)) =
      if k = a then some { x with partner := some b } else if k = b then some { y with partner := some a } else slotGet k t := by
    split
    next h => rw [h, slotGet_slotPut_same]
    next ha =>
      rw [slotGet_slotPut_other ha]
      split
      next h => rw [h, slotGet_slotPut_same]
      next hb => rw [slotGet_slotPut_other hb]
  have away {k q : Nat} {o : Mark} (ho : slotGet k t = some o) (hq : o.partner = some q) : q ≠ a ∧ q ≠ b := by
    obtain ⟨o', ho', back, -⟩ := law.linked ho hq
    constructor
    · rintro rfl
      rw [oldA] at ho'
      cases ho'
      cases back
    · rintro rfl
      rw [oldB] at ho'
      cases ho'
      cases back
  have rising := slotPut_rising (k := a) (a := { x with partner := some b })
    (slotPut_rising (k := b) (a := { y with partner := some a }) law.rising)
  generalize slotPut a { x with partner := some b } (slotPut b { y with partner := some a } t) = t' at get rising
  have getA : slotGet a t' = some { x with partner := some b } := by rw [get, if_pos rfl]
  have getB : slotGet b t' = some { y with partner := some a } := by rw [get, if_neg (Ne.symm ne), if_pos rfl]
  /- Every record of the new table is one of the two, or stands as it did with its partner. -/
  have cases {k : Nat} {m : Mark} (h : slotGet k t' = some m) : (k = a ∧ m = { x with partner := some b }) ∨
      (k = b ∧ m = { y with partner := some a }) ∨
      (k ≠ a ∧ slotGet k t = some m ∧ ∀ q ∈ m.partner, slotGet q t' = slotGet q t) := by
    rw [get] at h
    split at h
    next hk => exact .inl ⟨hk, (Option.some.inj h).symm⟩
    next ha =>
      split at h
      next hk => exact .inr (.inl ⟨hk, (Option.some.inj h).symm⟩)
      · refine .inr (.inr ⟨ha, h, fun q hq => ?_⟩)
        obtain ⟨qa, qb⟩ := away h hq
        rw [get, if_neg qa, if_neg qb]
  refine ⟨⟨rising, fun h => ?_, fun h hq => ?_, fun h => ?_⟩, fun h ht hq ho => ?_, fun h hv => ?_⟩
  · rcases cases h with ⟨rfl, rfl⟩ | ⟨rfl, rfl⟩ | ⟨-, h, -⟩
    · exact law.bound oldA
    · exact law.bound oldB
    · exact law.bound h
  · rcases cases h with ⟨rfl, rfl⟩ | ⟨rfl, rfl⟩ | ⟨-, old, stays⟩
    · cases hq
      exact ⟨_, getB, rfl, tags.symm, kinds⟩
    · cases hq
      exact ⟨_, getA, rfl, tags, kindsPair_comm _ _ ▸ kinds⟩
    · rw [stays _ hq]
      exact law.linked old hq
  · rcases cases h with ⟨rfl, -⟩ | ⟨rfl, -⟩ | ⟨-, h, -⟩
    · exact absurd rfl lowA
    · exact absurd rfl lowB
    · exact law.zero h
  · rcases cases h with ⟨rfl, rfl⟩ | ⟨rfl, rfl⟩ | ⟨-, old, stays⟩
    · cases hq
      rw [getB] at ho
      cases ho
      exact .inl order
    · cases hq
      rw [getA] at ho
      cases ho
      exact .inl (orderHolds_comm.mp order)
    · rw [stays _ hq] at ho
      exact law.order old ht hq ho
  · rcases cases h with ⟨rfl, rfl⟩ | ⟨rfl, rfl⟩ | ⟨-, h, -⟩
    · have stays := law.provisional oldA
      exact stays hv
    · have stays := law.provisional oldB
      exact stays hv
    · exact law.provisional h hv

/-- Every mark changed but for kind, partner and ownership, marks of one tag alike in theirs. -/
theorem LinkLaw.map (law : LinkLaw t) (f : Mark → Mark)
    (h : ∀ m, f m = { f m with kind := m.kind, partner := m.partner, owner := m.owner, locked := m.locked })
    (tags : ∀ m o, m.tag = o.tag → (f m).tag = (f o).tag) : LinkLaw (slotMap (fun _ => f) t) := by
  have kind (m : Mark) : (f m).kind = m.kind := by rw [h]
  have partner (m : Mark) : (f m).partner = m.partner := by rw [h]
  have old {n : Nat} {m' : Mark} (hm : slotGet n (slotMap (fun _ => f) t) = some m') : ∃ m, slotGet n t = some m ∧ m' = f m := by
    rw [slotGet_slotMap] at hm
    obtain ⟨m, was, rfl⟩ := Option.map_eq_some_iff.mp hm
    exact ⟨m, was, rfl⟩
  refine ⟨slotMap_rising law.rising, fun hm => ?_, fun hm hq => ?_, fun hm => ?_⟩
  · obtain ⟨m, was, -⟩ := old hm
    exact law.bound was
  · obtain ⟨m, was, rfl⟩ := old hm
    obtain ⟨o, ho, back, same, kinds⟩ := law.linked was (partner m ▸ hq)
    refine ⟨f o, by rw [slotGet_slotMap, ho]; rfl, (partner o).trans back, tags o m same, ?_⟩
    rw [kind, kind]
    exact kinds
  · obtain ⟨m, was, rfl⟩ := old hm
    have stays := law.zero was
    rw [h]
    exact stays

end

end Sys2Proof.Machine
end

section
/-!
Deliver: the reports of one step at the other blocks (R48, R85, R160 to R162). The marks have changed already, so the armed
list's law is broken until the Punch Unit has removed and moved its entries; until then every operation only tames the list.
-/

namespace Sys2Proof.Machine

open Sys2Proof.Safety

/-! ## Lists that only lose entries and activity -/

/-- The marks of an entry. -/
def Entry.key (e : Entry) : Nat × Nat := (e.inMark, e.outMark)

/-- No two entries have one in-mark. -/
abbrev Distinct (l : List Entry) : Prop := (l.map Entry.inMark).Nodup

/-- The entries of `l'` are entries of `l`, in their order; none is newly ACTIVE. -/
structure TameList (l l' : List Entry) : Prop where
  keys : (l'.map Entry.key).Sublist (l.map Entry.key)
  active : ∀ f ∈ l', f.isActive = true → f ∈ l

theorem TameList.distinct {l l' : List Entry} (h : TameList l l') (d : Distinct l) : Distinct l' := by
  have fst (l : List Entry) : (l.map Entry.key).map Prod.fst = l.map Entry.inMark := by simp [Entry.key, Function.comp_def]
  unfold Distinct at *
  rw [← fst] at *
  exact d.sublist (h.keys.map _)

/-- An operation on the card that leaves the armed list so. -/
def Tames (s t : State) : Prop := Distinct s.punch.entries → TameList s.punch.entries t.punch.entries

section
variable {s t u : State}

theorem Tames.trans (h : Tames s t) (k : Tames t u) : Tames s u := fun d => by
  obtain ⟨keys, active⟩ := k ((h d).distinct d)
  exact ⟨keys.trans (h d).keys, fun f hf a => (h d).active f (active f hf a) a⟩

theorem Tames.of_entries (h : t.punch.entries = s.punch.entries) : Tames s t := fun _ => by
  rw [h]
  exact ⟨.refl _, fun _ hf _ => hf⟩

theorem Tames.refl (s : State) : Tames s s := .of_entries rfl

theorem Tames.foldl {α : Type} {f : State → α → State} (h : ∀ s a, Tames s (f s a)) (l : List α) (s : State) :
    Tames s (l.foldl f s) := by
  induction l generalizing s with
  | nil => exact .refl s
  | cons a r ih => exact (h s a).trans (ih _)

theorem Tames.of_filter {q : Entry → Bool} (h : t.punch.entries = s.punch.entries.filter q) : Tames s t := fun _ => by
  rw [h]
  exact ⟨List.filter_sublist.map _, fun _ hf _ => (List.mem_filter.mp hf).1⟩

theorem Tames.of_map {g : Entry → Entry} (h : t.punch.entries = s.punch.entries.map g)
    (keys : ∀ e, (g e).inMark = e.inMark ∧ (g e).outMark = e.outMark)
    (quiet : ∀ e, (g e).isActive = true → g e = e) : Tames s t := fun _ => by
  rw [h]
  refine ⟨?_, fun f hf a => ?_⟩
  · have same : s.punch.entries.map (Entry.key ∘ g) = s.punch.entries.map Entry.key :=
      List.map_congr_left fun e _ => by simp [Entry.key, keys e]
    rw [List.map_map, same]
  · obtain ⟨e, he, rfl⟩ := List.mem_map.mp hf
    rw [quiet e a]
    exact he

end

section
variable (s : State)

theorem completeEntry_tames {e : Entry} (he : e ∈ s.punch.entries) (r : PunchResult) (x y : Option Addr) :
    Tames s (completeEntry e r x y s) := fun d => by
  have same {f : Entry} (hf : f ∈ s.punch.entries) (h : f.inMark = e.inMark) : f = e := List.inj_on_of_nodup_map d hf he h
  change TameList _ (putEntry { e with state := .complete r x y } s.punch.entries)
  refine ⟨?_, fun f hf a => ?_⟩
  · unfold putEntry
    rw [List.map_map]
    refine (List.map_congr_left fun f hf => ?_ : _ = s.punch.entries.map Entry.key) ▸ .refl _
    simp only [Function.comp]
    split
    next h => rw [same hf h]; rfl
    · rfl
  · obtain ⟨f, was, rfl⟩ := List.mem_map.mp hf
    split at a
    · cases a
    next h =>
      rw [if_neg h]
      exact was

theorem endActive_tames (b : Bool) : Tames s (endActive b s) := by
  unfold endActive
  split
  next e found =>
    split
    · split
      · exact completeEntry_tames s (activeEntry_spec found).1 _ _ _
      · exact .refl s
    · exact .refl s
  · exact .refl s

theorem closeGates_entries (n : Nat) : (closeGates n s).punch.entries = s.punch.entries := by
  unfold closeGates
  split <;> rfl

theorem closeMonitors_entries (n : Nat) : (closeMonitors n s).punch.entries = s.punch.entries := by
  unfold closeMonitors
  split <;> rfl

theorem dropGates_tames : Tames s (dropGates s) :=
  ((Tames.of_entries (closeGates_entries s 0)).trans (endActive_tames _ _)).trans (.of_entries rfl)

theorem dropMonitors_tames : Tames s (dropMonitors s) :=
  (Tames.of_entries (closeMonitors_entries s 0)).trans (endActive_tames _ _)

theorem abortActive_tames : Tames s (abortActive s) := by
  have gates (s : State) : Tames s (if ∃ e ∈ activeEntry s, e.rehearse = false then dropGates s else s) := by
    split
    · exact dropGates_tames s
    · exact .refl s
  exact (gates s).trans (dropMonitors_tames _)

theorem idleEntry_eq (e : Entry) (h : (idleEntry e).isActive = true) : idleEntry e = e := by
  unfold idleEntry at h ⊢
  split at h
  · cases h
  · rfl

theorem restage_eq (u : State) (e : Entry) (h : (restage u e).isActive = true) : restage u e = e := by
  unfold restage at h ⊢
  split at h
  · cases h
  · rfl

theorem leaveRunPunch_tames : Tames s (leaveRunPunch s) :=
  ((dropGates_tames s).trans (dropMonitors_tames _)).trans (.of_map rfl idleEntry_keys idleEntry_eq)

theorem enterMode_tames (m : Mode) : Tames s (enterMode m s) := by
  rcases enterMode_cases m s with steady | ⟨run, away⟩ | ⟨run, rfl⟩
  · exact .of_entries (by rw [enterMode_punch_steady steady])
  · exact (leaveRunPunch_tames s).trans (.of_entries (by rw [enterMode_punch_leave run away]))
  · obtain ⟨u, h⟩ := enterMode_entries_enter run
    exact .of_map h (restage_keys u) (restage_eq u)

theorem endLocate_tames (r : LocEnd) : Tames s (endLocate r s) := .of_entries (by simp)
theorem dropHeld_tames (r : LocEnd) : Tames s (dropHeld r s) := .of_entries (by simp)
theorem setLoc_tames (c : LocCtx) : Tames s (setLoc c s) := .of_entries rfl

theorem toLocateRun_tames (c : LocCtx) : Tames s (toLocateRun c s) := (setLoc_tames s _).trans (enterMode_tames _ _)

theorem toApproach_tames (c : LocCtx) : Tames s (toApproach c s) :=
  ((setLoc_tames s _).trans (enterMode_tames _ _)).trans (.of_entries rfl)

theorem judgeTarget_tames (c : LocCtx) : Tames s (judgeTarget c s) := by
  have far (s : State) : Tames s
      (if c.approach < distance s c then toLocateRun c s else if 100 < distance s c then toApproach c s else setLoc c s) := by
    split
    · exact toLocateRun_tames s c
    · split
      · exact toApproach_tames s c
      · exact setLoc_tames s c
  unfold judgeTarget
  dsimp only
  split
  · split
    · exact toLocateRun_tames s c
    · split
      · exact setLoc_tames s _
      · exact setLoc_tames s c
  · exact far s
  · exact far s
  · exact setLoc_tames s c

theorem reportToMotion_tames (r : Report) : Tames s (reportToMotion s r) := by
  have locate : Tames s (reportToLocate r s) := by
    unfold reportToLocate
    split
    · split
      · split
        · exact judgeTarget_tames s _
        · split
          · exact ((endLocate_tames s _).trans (enterMode_tames _ _)).trans (.of_entries rfl)
          · exact .refl s
      · exact .refl s
    · exact .refl s
  refine locate.trans (.of_entries ?_)
  simp [reportToMotion]

theorem removeEntry_tames (n : Nat) : Tames s (removeEntry n s) := by
  have ends (s : State) : Tames s (if ∃ e ∈ entryFor s n, e.isActive = true then abortActive s else s) := by
    split
    · exact abortActive_tames s
    · exact .refl s
  exact (ends s).trans (.of_filter rfl)

theorem dropOverlapping_tames (n : Nat) : Tames s (dropOverlapping s n) := by
  unfold dropOverlapping
  split
  · split
    · exact .of_filter rfl
    · exact .refl s
  · exact .refl s

end

/-! ## Removal (R162) -/

theorem removeEntry_gone (n : Nat) (s : State) : ∀ e ∈ (removeEntry n s).punch.entries, e.inMark ≠ n := by
  intro e he
  simpa using (List.mem_filter.mp he).2

/-- What no entry's in-mark is stays so. -/
theorem TameList.absent {l l' : List Entry} (h : TameList l l') {q : Nat × Nat → Prop} (k : ∀ e ∈ l, q e.key) : ∀ e ∈ l', q e.key := by
  intro e he
  obtain ⟨f, hf, same⟩ := List.mem_map.mp (h.keys.mem (List.mem_map_of_mem he))
  exact same ▸ k f hf

theorem foldl_removeEntry_gone (l : List Nat) (s : State) (d : Distinct s.punch.entries) :
    ∀ n ∈ l, ∀ e ∈ (l.foldl (fun s k => removeEntry k s) s).punch.entries, e.inMark ≠ n := by
  induction l generalizing s with
  | nil => simp
  | cons k r ih =>
    intro n hn
    have kept := (removeEntry_tames s k d).distinct d
    rcases List.mem_cons.mp hn with rfl | hn
    · have rest := Tames.foldl (fun s k => removeEntry_tames s k) r (removeEntry n s) kept
      exact rest.absent (q := fun x => x.1 ≠ n) (removeEntry_gone n s)
    · exact ih _ kept n hn

theorem removeEntriesOf_tames (s : State) (n : Nat) : Tames s (removeEntriesOf s n) :=
  Tames.foldl (fun s k => removeEntry_tames s k) _ s

theorem removeEntriesOf_gone (s : State) (n : Nat) (d : Distinct s.punch.entries) :
    ∀ e ∈ (removeEntriesOf s n).punch.entries, e.inMark ≠ n ∧ e.outMark ≠ n := by
  have tame := removeEntriesOf_tames s n d
  intro e he
  by_contra touched
  obtain ⟨f, hf, same⟩ := List.mem_map.mp (tame.keys.mem (List.mem_map_of_mem he))
  simp only [Entry.key, Prod.mk.injEq] at same
  refine foldl_removeEntry_gone _ s d e.inMark ?_ e he rfl
  refine List.mem_map.mpr ⟨f, List.mem_filter.mpr ⟨hf, ?_⟩, same.1⟩
  rw [decide_eq_true_iff, same.1, same.2]
  tauto

theorem foldl_removeEntriesOf_gone (l : List Nat) (s : State) (d : Distinct s.punch.entries) :
    ∀ n ∈ l, ∀ e ∈ (l.foldl removeEntriesOf s).punch.entries, e.inMark ≠ n ∧ e.outMark ≠ n := by
  induction l generalizing s with
  | nil => simp
  | cons k r ih =>
    intro n hn
    have kept := (removeEntriesOf_tames s k d).distinct d
    rcases List.mem_cons.mp hn with rfl | hn
    · have rest := Tames.foldl removeEntriesOf_tames r (removeEntriesOf s n) kept
      exact rest.absent (q := fun x => x.1 ≠ n ∧ x.2 ≠ n) (removeEntriesOf_gone s n d)
    · exact ih _ kept n hn

end Sys2Proof.Machine
end

section
/-!
Moved: the armed list once its entries have been moved (R160), and so after all the reports of a step.
-/

namespace Sys2Proof.Machine

open Sys2Proof.Safety

/-! ## Lists in order of a key -/

section
variable {α : Type} {key : α → Int}

theorem insertByKey_perm (x : α) (l : List α) : (insertByKey key x l).Perm (x :: l) := by
  induction l with
  | nil => exact .refl _
  | cons y r ih =>
    unfold insertByKey
    split
    · exact .refl _
    · exact (ih.cons y).trans (.swap x y r)

theorem insertByKey_sorted (x : α) {l : List α} (h : l.Pairwise fun a b => key a ≤ key b) :
    (insertByKey key x l).Pairwise fun a b => key a ≤ key b := by
  induction l with
  | nil => exact List.pairwise_singleton _ _
  | cons y r ih =>
    obtain ⟨first, rest⟩ := List.pairwise_cons.mp h
    unfold insertByKey
    split
    next lt =>
      refine List.pairwise_cons.mpr ⟨fun a ha => ?_, h⟩
      rcases List.mem_cons.mp ha with rfl | ha
      · exact lt.le
      · exact lt.le.trans (first a ha)
    next ge =>
      refine List.pairwise_cons.mpr ⟨fun a ha => ?_, ih rest⟩
      rcases List.mem_cons.mp ((insertByKey_perm x r).mem_iff.mp ha) with rfl | ha
      · exact not_lt.mp ge
      · exact first a ha

theorem sortByKey_perm (l : List α) : (sortByKey key l).Perm l := by
  have acc (l : List α) : ∀ a : List α, (l.foldl (fun acc x => insertByKey key x acc) a).Perm (l ++ a) := by
    induction l with
    | nil => exact fun a => .refl _
    | cons x r ih => exact fun a => (ih _).trans (((insertByKey_perm x a).append_left r).trans List.perm_middle)
  simpa [sortByKey] using acc l []

theorem sortByKey_sorted (l : List α) : (sortByKey key l).Pairwise fun a b => key a ≤ key b :=
  List.foldlRecOn (motive := fun k : List α => k.Pairwise fun a b => key a ≤ key b) l _ .nil fun _ h x _ => insertByKey_sorted x h

end

/-! ## Folds of operations -/

theorem foldl_keeps {α β : Type} {f : State → α → State} (get : State → β) (h : ∀ s a, get (f s a) = get s) (l : List α) (s : State) :
    get (l.foldl f s) = get s := by
  induction l generalizing s with
  | nil => rfl
  | cons a r ih => exact (ih _).trans (h s a)

/-! ## Entries left where ranges would overlap (R160) -/

section
variable (s : State)

theorem rangesOverlap_congr {s t : State} (marks : t.marks = s.marks) (tracker : t.tracker = s.tracker) (e f : Entry) :
    RangesOverlap t e f ↔ RangesOverlap s e f := by
  have loaded : t.tracker.loaded = s.tracker.loaded := by rw [tracker]
  unfold RangesOverlap
  rw [entryIn_congr marks loaded rfl, entryIn_congr marks loaded rfl, entryTop_congr marks loaded rfl,
    entryTop_congr marks loaded rfl]

/-- The entry of in-mark `n`, where there is one, overlaps no other. -/
def Apart (s : State) (n : Nat) : Prop :=
  ∀ e ∈ s.punch.entries, e.inMark = n → ∀ f ∈ s.punch.entries, f.inMark ≠ n → ¬ RangesOverlap s e f

theorem dropOverlapping_entries (n : Nat) : ∀ e ∈ (dropOverlapping s n).punch.entries, e ∈ s.punch.entries := by
  unfold dropOverlapping
  split
  · split
    · exact fun e he => (List.mem_filter.mp he).1
    · exact fun e he => he
  · exact fun e he => he

theorem dropOverlapping_apart (n : Nat) (d : Distinct s.punch.entries) : Apart (dropOverlapping s n) n := by
  unfold dropOverlapping
  split
  next e found =>
    obtain ⟨he, rfl⟩ := entryFor_spec found
    split
    · intro f hf same
      simp [same] at hf
    next alone =>
      intro e' he' same f hf other overlap
      rw [List.inj_on_of_nodup_map d he' he same] at overlap
      exact alone ⟨f, hf, other, overlap⟩
  next none =>
    intro e he same
    have := List.find?_eq_none.mp none e he
    simp [same] at this

theorem foldl_dropOverlapping_apart (l : List Nat) (s : State) (d : Distinct s.punch.entries) :
    ∀ n, n ∈ l ∨ Apart s n → Apart (l.foldl dropOverlapping s) n := by
  induction l generalizing s with
  | nil => simp
  | cons k r ih =>
    intro n hn
    refine ih _ ((dropOverlapping_tames s k d).distinct d) n ?_
    have stays (h : Apart s n) : Apart (dropOverlapping s k) n := fun e he same f hf other => by
      rw [rangesOverlap_congr (s := s) (by simp) (by simp)]
      exact h e (dropOverlapping_entries s k e he) same f (dropOverlapping_entries s k f hf) other
    rcases hn with hn | hn
    · rcases List.mem_cons.mp hn with rfl | hn
      · exact .inr (dropOverlapping_apart s n d)
      · exact .inl hn
    · exact .inr (stays hn)

end

/-! ## The list after a move -/

/-- The entry rests on one of the marks. -/
abbrev Names (ms : List Nat) (e : Entry) : Prop := e.inMark ∈ ms ∨ e.outMark ∈ ms

/-- An entry that a move touches (R160). -/
abbrev Touched (ms : List Nat) (e : Entry) : Prop := e.isActive = false ∧ Names ms e

/-- The in-marks of the entries touched, in order of in tick. -/
def movedKeys (moved : List Nat) (s : State) : List Nat :=
  (orderEntries s (s.punch.entries.filter fun e => Touched moved e)).map Entry.inMark

/-- The moved entries that would overlap another's range removed. -/
def untangled (moved : List Nat) (s : State) : State := (movedKeys moved s).foldl dropOverlapping s

/-- A moved entry takes its stage afresh. -/
def movedEntry (keys : List Nat) (w : State) (e : Entry) : Entry := if e.inMark ∈ keys then restage w e else e

theorem movedEntry_keys (keys : List Nat) (w : State) (e : Entry) :
    (movedEntry keys w e).inMark = e.inMark ∧ (movedEntry keys w e).outMark = e.outMark := by
  unfold movedEntry
  split
  · exact restage_keys w e
  · exact ⟨rfl, rfl⟩

theorem movedEntry_eq (keys : List Nat) (w : State) (e : Entry) (h : (movedEntry keys w e).isActive = true) :
    movedEntry keys w e = e := by
  unfold movedEntry at h ⊢
  split at h
  next k =>
    rw [if_pos k]
    exact restage_eq w e h
  next k => rw [if_neg k]

theorem moveEntries_eq (moved : List Nat) (s : State) : moveEntries moved s =
    if ∃ e ∈ s.punch.entries, Touched moved e then
      (untangled moved s).onPunch fun p => { p with
        entries := orderEntries (untangled moved s)
          (p.entries.map (movedEntry (movedKeys moved s) (untangled moved s))) }
    else s := rfl

theorem moveEntries_frame_marks (moved : List Nat) (s : State) :
    (moveEntries moved s).marks = s.marks ∧ (moveEntries moved s).tracker = s.tracker := by simp

theorem untangled_marks (moved : List Nat) (s : State) : (untangled moved s).marks = s.marks :=
  foldl_keeps State.marks (by simp) _ s

theorem untangled_tracker (moved : List Nat) (s : State) : (untangled moved s).tracker = s.tracker :=
  foldl_keeps State.tracker (by simp) _ s

theorem untangled_entries (moved : List Nat) (s : State) : ∀ e ∈ (untangled moved s).punch.entries, e ∈ s.punch.entries :=
  List.foldlRecOn (motive := fun t => ∀ e ∈ t.punch.entries, e ∈ s.punch.entries) _ _ (fun _ he => he)
    fun t h n _ e he => h e (dropOverlapping_entries t n e he)

theorem mem_movedKeys {moved : List Nat} {s : State} {e : Entry} (he : e ∈ s.punch.entries) (d : Distinct s.punch.entries) :
    e.inMark ∈ movedKeys moved s ↔ Touched moved e := by
  unfold movedKeys orderEntries
  rw [((sortByKey_perm _).map _).mem_iff, List.mem_map]
  constructor
  · rintro ⟨f, hf, same⟩
    obtain ⟨hf, touched⟩ := List.mem_filter.mp hf
    rw [← List.inj_on_of_nodup_map d hf he same]
    exact of_decide_eq_true touched
  · exact fun h => ⟨e, List.mem_filter.mpr ⟨he, decide_eq_true h⟩, rfl⟩

/-- What is left of the law of the armed list `s` had while `v` waits for its entries to be moved. -/
structure Movable (moved : List Nat) (s v : State) : Prop where
  tame : TameList s.punch.entries v.punch.entries
  rests : ∀ e ∈ s.punch.entries, e.key ∈ v.punch.entries.map Entry.key → EntryMarks v e
  reel : ∀ e ∈ s.punch.entries, e.isActive = true → v.tracker.loaded ≠ none
  still : ∀ e ∈ s.punch.entries, e.key ∈ v.punch.entries.map Entry.key → e.isActive = true ∨ ¬ Names moved e →
    entryIn v e = entryIn s e ∧ entryTop v e = entryTop s e

theorem distinct_of_law {s : State} (law : MarkLaw s ∧ ArmedLaw s) : Distinct s.punch.entries := by
  obtain ⟨marks, -, -, apart, entry⟩ := law
  unfold Distinct
  rw [List.Nodup, List.pairwise_map]
  refine apart.imp_of_mem fun he hf lt same => ?_
  have top := entryIn_le_entryTop marks (entry _ he).1
  rw [entryIn, same] at top
  rw [entryIn] at lt
  omega

section
variable {moved : List Nat} {s v : State} (law : MarkLaw s ∧ ArmedLaw s) (h : Movable moved s v)
include law h

/-- The entry of `s` that an entry of `v` comes from. -/
theorem Movable.origin {f : Entry} (hf : f ∈ v.punch.entries) :
    ∃ e ∈ s.punch.entries, e.key = f.key ∧ (f.isActive = true → e = f) := by
  obtain ⟨e, he, same⟩ := List.mem_map.mp (h.tame.keys.mem (List.mem_map_of_mem hf))
  refine ⟨e, he, same, fun a => ?_⟩
  refine List.inj_on_of_nodup_map (distinct_of_law law) he (h.tame.active f hf a) ?_
  exact congrArg Prod.fst same

theorem Movable.entryLaw {f : Entry} (hf : f ∈ v.punch.entries) : EntryLaw v f := by
  obtain ⟨e, he, same, active⟩ := h.origin law hf
  have keys : e.inMark = f.inMark ∧ e.outMark = f.outMark := by simpa [Entry.key] using same
  have mem : e.key ∈ v.punch.entries.map Entry.key := same ▸ List.mem_map_of_mem hf
  refine ⟨entryMarks_congr rfl rfl keys.1.symm keys.2.symm (h.rests e he mem), fun a => ?_, fun late d ain state => ?_⟩
  · cases active a
    exact h.reel _ he a
  · have a : f.isActive = true := by simp [Entry.isActive, state]
    cases active a
    rw [(h.still _ he mem (.inl a)).2]
    exact (law.2.2.2.2 _ he).2.2 late d ain state

theorem Movable.one_active {l : List Entry} (sub : ∀ e ∈ l, e.isActive = true → e ∈ v.punch.entries) (d : Distinct l) :
    (l.filter Entry.isActive).length ≤ 1 := by
  by_contra two
  obtain ⟨x, y, r, hr⟩ : ∃ x y r, l.filter Entry.isActive = x :: y :: r := by
    match l.filter Entry.isActive, two with
    | x :: y :: r, _ => exact ⟨x, y, r, rfl⟩
    | [_], h => exact absurd (by simp) h
    | [], h => exact absurd (by simp) h
  have at_s {z : Entry} (hz : z ∈ l.filter Entry.isActive) : z ∈ s.punch.entries.filter Entry.isActive := by
    obtain ⟨hz, a⟩ := List.mem_filter.mp hz
    exact List.mem_filter.mpr ⟨h.tame.active z (sub z hz a) a, a⟩
  have same : x = y := by
    have one := law.2.2.1
    have hx := at_s (z := x) (by simp [hr])
    have hy := at_s (z := y) (by simp [hr])
    generalize s.punch.entries.filter Entry.isActive = k at *
    match k, one with
    | [_], _ => rw [List.mem_singleton.mp hx, List.mem_singleton.mp hy]
    | [], _ => cases hx
  have nodup : (l.filter Entry.isActive).Nodup := (List.Nodup.of_map _ d).filter _
  rw [hr, same] at nodup
  simp at nodup

/-- An entry that no move touches lies where it did. -/
theorem Movable.at_origin {f : Entry} (hf : f ∈ v.punch.entries) (still : ¬ Touched moved f) :
    ∃ e ∈ s.punch.entries, (e.inMark = f.inMark ∧ e.outMark = f.outMark) ∧ entryIn v f = entryIn s e ∧
      entryTop v f = entryTop s e := by
  obtain ⟨e, he, same, active⟩ := h.origin law hf
  have keys : e.inMark = f.inMark ∧ e.outMark = f.outMark := by simpa [Entry.key] using same
  have quiet : e.isActive = true ∨ ¬ Names moved e := by
    by_cases a : f.isActive = true
    · rw [active a]
      exact .inl a
    · refine .inr fun n => still ⟨by simpa using a, ?_⟩
      rw [Names, ← keys.1, ← keys.2]
      exact n
  obtain ⟨tick, top⟩ := h.still e he (same ▸ List.mem_map_of_mem hf) quiet
  refine ⟨e, he, keys, ?_, ?_⟩
  · rw [← tick]
    exact entryIn_congr rfl rfl keys.1.symm
  · rw [← top]
    exact entryTop_congr rfl rfl keys.2.symm

/-- Two entries that no move touches lie apart, as they did. -/
theorem Movable.apart_of_still {e f : Entry} (he : e ∈ v.punch.entries) (hf : f ∈ v.punch.entries) (ne : e.inMark ≠ f.inMark)
    (stillE : ¬ Touched moved e) (stillF : ¬ Touched moved f) : ¬ RangesOverlap v e f := by
  obtain ⟨e', he', sameE, inE, topE⟩ := h.at_origin law he stillE
  obtain ⟨f', hf', sameF, inF, topF⟩ := h.at_origin law hf stillF
  rw [RangesOverlap, inE, inF, topE, topF]
  rcases pairwise_or law.2.2.2.1 he' hf' with same | lt | lt
  · exact absurd (sameE.1.symm.trans ((congrArg Entry.inMark same).trans sameF.1)) ne
  · omega
  · omega

theorem Movable.length_le {l : List Entry} (sub : (l.map Entry.key).Sublist (v.punch.entries.map Entry.key)) : l.length ≤ 4 := by
  have := (sub.trans h.tame.keys).length_le
  rw [List.length_map, List.length_map] at this
  exact this.trans law.2.1

/-- Entries in the order they had in `s`, none of them touched. -/
theorem Movable.pairwise_of_still (still : ¬ ∃ e ∈ v.punch.entries, Touched moved e) :
    v.punch.entries.Pairwise fun e f => entryTop v e < entryIn v f := by
  have before : (s.punch.entries.map Entry.key).Pairwise fun k l => markTick s k.2 + 100 < markTick s l.1 :=
    List.pairwise_map.mpr law.2.2.2.1
  have ticks {f : Entry} (hf : f ∈ v.punch.entries) :
      entryIn v f = markTick s f.inMark ∧ entryTop v f = markTick s f.outMark + 100 := by
    obtain ⟨e, he, keys, tick, top⟩ := h.at_origin law hf fun t => still ⟨f, hf, t⟩
    rw [← keys.1, ← keys.2]
    exact ⟨tick, top⟩
  refine (List.pairwise_map.mp (before.sublist h.tame.keys)).imp_of_mem fun he hf lt => ?_
  rw [(ticks he).2, (ticks hf).1]
  exact lt

theorem Movable.armedLaw_touched (marks : MarkLaw v) (touched : ∃ e ∈ v.punch.entries, Touched moved e) :
    ArmedLaw (moveEntries moved v) := by
  have distinct := h.tame.distinct (distinct_of_law law)
  have wMarks := untangled_marks moved v
  have wTracker := untangled_tracker moved v
  have mem := untangled_entries moved v
  have wTame : TameList v.punch.entries (untangled moved v).punch.entries :=
    Tames.foldl dropOverlapping_tames _ v distinct
  have separate : ∀ n, n ∈ movedKeys moved v ∨ Apart v n → Apart (untangled moved v) n :=
    foldl_dropOverlapping_apart (movedKeys moved v) v distinct
  have isMoved {e : Entry} (he : e ∈ v.punch.entries) := mem_movedKeys (moved := moved) he distinct
  rw [moveEntries_eq, if_pos touched]
  generalize untangled moved v = w at *
  generalize movedKeys moved v = ks at *
  have wLoaded : w.tracker.loaded = v.tracker.loaded := by rw [wTracker]
  have restaged : TameList w.punch.entries (w.punch.entries.map (movedEntry ks w)) :=
    Tames.of_map (s := w) (t := w.onPunch fun p => { p with entries := p.entries.map (movedEntry ks w) }) rfl
      (movedEntry_keys ks w) (movedEntry_eq ks w) (wTame.distinct distinct)
  have perm := sortByKey_perm (key := entryIn w) (w.punch.entries.map (movedEntry ks w))
  have sorted := sortByKey_sorted (key := entryIn w) (w.punch.entries.map (movedEntry ks w))
  rw [← orderEntries] at perm sorted
  have ordered : Distinct (orderEntries w (w.punch.entries.map (movedEntry ks w))) :=
    (perm.map _).nodup_iff.mpr (restaged.distinct (wTame.distinct distinct))
  have origin {f : Entry} (hf : f ∈ orderEntries w (w.punch.entries.map (movedEntry ks w))) :
      ∃ e ∈ w.punch.entries, f = movedEntry ks w e := by
    obtain ⟨e, he, same⟩ := List.mem_map.mp (perm.mem_iff.mp hf)
    exact ⟨e, he, same.symm⟩
  /- Two entries of the list that is left lie apart: one of them was moved, or neither was. -/
  have apart {e f : Entry} (he : e ∈ w.punch.entries) (hf : f ∈ w.punch.entries) (ne : e.inMark ≠ f.inMark) :
      ¬ RangesOverlap w e f := by
    by_cases movedE : Touched moved e
    · exact separate _ (.inl ((isMoved (mem e he)).mpr movedE)) e he rfl f hf ne.symm
    · by_cases movedF : Touched moved f
      · exact fun overlap => separate _ (.inl ((isMoved (mem f hf)).mpr movedF)) f hf rfl e he ne overlap.symm
      · rw [rangesOverlap_congr wMarks wTracker]
        exact h.apart_of_still law (mem e he) (mem f hf) ne movedE movedF
  refine ⟨?room, ?one, ?pairwise, ?entry⟩
  case room =>
    change (orderEntries _ _).length ≤ 4
    rw [perm.length_eq, List.length_map]
    exact h.length_le law wTame.keys
  case one =>
    refine h.one_active law (fun f hf a => ?_) ordered
    obtain ⟨e, he, rfl⟩ := origin hf
    rw [movedEntry_eq _ _ _ a]
    exact mem e he
  case pairwise =>
    refine (sorted.and (List.pairwise_map.mp ordered)).imp_of_mem fun {a b} ha hb k => ?_
    obtain ⟨le, ne⟩ := k
    obtain ⟨e, he, rfl⟩ := origin ha
    obtain ⟨f, hf, rfl⟩ := origin hb
    obtain ⟨inE, outE⟩ := movedEntry_keys ks w e
    obtain ⟨inF, outF⟩ := movedEntry_keys ks w f
    have clear := apart he hf (by rw [← inE, ← inF]; exact ne)
    have top := entryIn_le_entryTop marks (h.entryLaw law (mem f hf)).1
    rw [← entryIn_congr wMarks wLoaded (rfl : f.inMark = f.inMark), ← entryTop_congr wMarks wLoaded (rfl : f.outMark = f.outMark)]
      at top
    change entryTop w (movedEntry ks w e) < entryIn w (movedEntry ks w f)
    rw [entryIn_congr rfl rfl inE, entryIn_congr rfl rfl inF] at le
    rw [entryTop_congr rfl rfl outE, entryIn_congr rfl rfl inF]
    simp only [RangesOverlap, not_and, not_le] at clear
    exact clear (le.trans top)
  case entry =>
    intro f hf
    obtain ⟨e, he, rfl⟩ := origin hf
    obtain ⟨rests, reel, drop⟩ := h.entryLaw law (mem e he)
    obtain ⟨inE, outE⟩ := movedEntry_keys ks w e
    refine ⟨entryMarks_congr wMarks wLoaded inE outE rests, fun a => ?_, fun late d ain state => ?_⟩
    · change w.tracker.loaded ≠ none
      rw [wLoaded]
      exact reel (movedEntry_eq ks w e a ▸ a)
    · have a : (movedEntry ks w e).isActive = true := by simp [Entry.isActive, state]
      rw [movedEntry_eq ks w e a] at state
      change d ≤ entryTop w (movedEntry ks w e)
      rw [entryTop_congr wMarks wLoaded outE]
      exact drop late d ain state

theorem Movable.armedLaw (marks : MarkLaw v) : ArmedLaw (moveEntries moved v) := by
  by_cases touched : ∃ e ∈ v.punch.entries, Touched moved e
  · exact h.armedLaw_touched law marks touched
  · rw [moveEntries_eq, if_neg touched]
    exact ⟨h.length_le law (.refl _), h.one_active law (fun _ he _ => he) (h.tame.distinct (distinct_of_law law)),
      h.pairwise_of_still law touched, fun e he => h.entryLaw law he⟩

end

end Sys2Proof.Machine
end

section
/-!
Delivered: a change of the mark table and the reports of the step keep the laws of the card together (R48, R160 to R162).
-/

namespace Sys2Proof.Machine

open Sys2Proof.Safety

/-- The marks whose entries a step's reports remove (R162). -/
abbrev removedBy (rs : List Report) : List Nat := (rs.filter fun r => r.change.Removes).map Report.mark

/-- The marks whose entries a step's reports move (R160). -/
abbrev movedBy (rs : List Report) : List Nat := (rs.filter fun r => r.change.Shifts).map Report.mark

/-- What a step's change of the marks from `s` to `u` leaves for its reports to mend: an entry that they do not remove rests
on its marks still, and one that they do not move lies where it did. -/
structure Reported (rs : List Report) (s u : State) : Prop where
  entries : u.punch.entries = s.punch.entries
  rests : ∀ e ∈ s.punch.entries, ¬ Names (removedBy rs) e → EntryMarks u e
  reel : ∀ e ∈ s.punch.entries, e.isActive = true → u.tracker.loaded ≠ none
  still : ∀ e ∈ s.punch.entries, ¬ Names (removedBy rs) e → e.isActive = true ∨ ¬ Names (movedBy rs) e →
    entryIn u e = entryIn s e ∧ entryTop u e = entryTop s e

/-- The state in which the moved entries of a step are judged. -/
def removals (rs : List Report) (u : State) : State := (removedBy rs).foldl removeEntriesOf (rs.foldl reportToMotion u)

theorem deliver_eq (rs : List Report) (u : State) :
    deliver rs u = if rs = [] then u else guardReact (moveEntries (movedBy rs) (removals rs u)) := rfl

theorem removals_marks (rs : List Report) (u : State) : (removals rs u).marks = u.marks :=
  (foldl_keeps State.marks (by simp) _ _).trans (foldl_keeps State.marks (by simp) _ _)

theorem removals_tracker (rs : List Report) (u : State) : (removals rs u).tracker = u.tracker :=
  (foldl_keeps State.tracker (by simp) _ _).trans (foldl_keeps State.tracker (by simp) _ _)

theorem removals_kept (rs : List Report) (u : State) : Kept u (removals rs u) :=
  (Kept.foldl reportToMotion_kept rs u).trans (Kept.foldl removeEntriesOf_kept _ _)

theorem removals_tames (rs : List Report) (u : State) : Tames u (removals rs u) :=
  (Tames.foldl reportToMotion_tames rs u).trans (Tames.foldl removeEntriesOf_tames _ _)

theorem removals_gone (rs : List Report) (u : State) (d : Distinct u.punch.entries) :
    ∀ e ∈ (removals rs u).punch.entries, ¬ Names (removedBy rs) e := by
  intro e he names
  have gone := foldl_removeEntriesOf_gone (removedBy rs) _ ((Tames.foldl reportToMotion_tames rs u d).distinct d)
  rcases names with h | h
  · exact (gone _ h e he).1 rfl
  · exact (gone _ h e he).2 rfl

section
variable {rs : List Report} {s u : State}

theorem Reported.movable (law : MarkLaw s ∧ ArmedLaw s) (h : Reported rs s u) : Movable (movedBy rs) s (removals rs u) := by
  have distinct : Distinct u.punch.entries := h.entries ▸ distinct_of_law law
  have marks := removals_marks rs u
  have loaded : (removals rs u).tracker.loaded = u.tracker.loaded := by rw [removals_tracker]
  have left {e : Entry} (he : e.key ∈ (removals rs u).punch.entries.map Entry.key) : ¬ Names (removedBy rs) e := by
    obtain ⟨f, hf, same⟩ := List.mem_map.mp he
    have keys : f.inMark = e.inMark ∧ f.outMark = e.outMark := by simpa [Entry.key] using same
    have := removals_gone rs u distinct f hf
    rw [Names, keys.1, keys.2] at this
    exact this
  refine ⟨h.entries ▸ removals_tames rs u distinct, fun e he k => ?_, fun e he a => ?_, fun e he k quiet => ?_⟩
  · exact entryMarks_congr marks loaded rfl rfl (h.rests e he (left k))
  · rw [loaded]
    exact h.reel e he a
  · rw [entryIn_congr marks loaded rfl, entryTop_congr marks loaded rfl]
    exact h.still e he (left k) quiet

theorem Reported.armedLaw_of_nil (law : MarkLaw s ∧ ArmedLaw s) (h : Reported [] s u) (marks : MarkLaw u) : ArmedLaw u := by
  have m : Movable (movedBy []) s u := by
    refine ⟨h.entries ▸ ⟨.refl _, fun _ he _ => he⟩, fun e he _ => h.rests e he (by simp [Names]), h.reel,
      fun e he _ => h.still e he (by simp [Names])⟩
  have := m.armedLaw law marks
  rwa [moveEntries_eq, if_neg (by simp [Touched, Names])] at this

theorem moveEntries_loose (moved : List Nat) (s : State) : Loose s (moveEntries moved s) := by
  rw [moveEntries_eq]
  split
  · have drops : Loose s (untangled moved s) := (Kept.foldl dropOverlapping_kept _ s).toLoose
    exact drops.trans ⟨id, id, id, id, id, id, id, id, id, id⟩
  · exact .refl s

theorem Reported.armedLaw (law : MarkLaw s ∧ ArmedLaw s) (h : Reported rs s u) (marks : MarkLaw u) : ArmedLaw (deliver rs u) := by
  rw [deliver_eq]
  split
  next none =>
    subst none
    exact h.armedLaw_of_nil law marks
  · have kept := removals_kept rs u
    have settled := kept.mark marks
    exact (guardReact_kept (.refl _)).armed ⟨(moveEntries_loose _ _).mark settled, (h.movable law).armedLaw law settled⟩

theorem deliver_loose (rs : List Report) (u : State) : Loose u (deliver rs u) := by
  rw [deliver_eq]
  split
  · exact .refl u
  · exact ((removals_kept rs u).toLoose.trans (moveEntries_loose _ _)).trans (guardReact_kept (.refl _)).toLoose

/-- A change of the marks and its reports, taken together. -/
theorem delivered_kept (loose : Loose s u) (reported : MarkLaw s ∧ ArmedLaw s → Reported rs s u)
    (gate : GateLaw s → GateLaw u) (monitor : MonitorLaw s → MonitorLaw u) : Kept s (deliver rs u) := by
  refine { loose.trans (deliver_loose rs u) with armed := fun l => ?_, gate := fun l => ?_, monitor := fun l => ?_ }
  · exact (reported l).armedLaw l (loose.mark l.1)
  · rw [deliver_eq]
    split
    · exact gate l
    · exact gateGuard_gateLaw _
  · rw [deliver_eq]
    split
    · exact monitor l
    · exact gateGuard_monitorLaw _

/-- A change of the mark table alone. -/
theorem loose_onMarks (f : MarkTable → MarkTable) (tables : TableForm s → TableForm (s.onMarks f))
    (mark : MarkLaw s → MarkLaw (s.onMarks f)) : Loose s (s.onMarks f) :=
  ⟨id, id, id, id, id, tables, id, id, id, mark⟩

theorem deliveredMarks_kept (f : MarkTable → MarkTable) (tables : TableForm s → TableForm (s.onMarks f))
    (mark : MarkLaw s → MarkLaw (s.onMarks f)) (reported : MarkLaw s ∧ ArmedLaw s → Reported rs s (s.onMarks f)) :
    Kept s (deliver rs (s.onMarks f)) :=
  delivered_kept (loose_onMarks f tables mark) reported id id

end

end Sys2Proof.Machine
end

section
/-!
Broken: the links and slots that a step removes, with the reports of their removal (R40, R43, R48, R51), as changes of a table.
-/

namespace Sys2Proof.Machine

open Sys2Proof.Safety

/-! ## A table in form -/

/-- The numbers rise and stay below 100. -/
structure Formed (t : MarkTable) : Prop where
  rising : Rising t
  bound : ∀ p ∈ t, p.1 ≤ 99

section
variable {t : MarkTable}

theorem Formed.put (h : Formed t) {n : Nat} (bound : n ≤ 99) (m : Mark) : Formed (slotPut n m t) := by
  refine ⟨slotPut_rising h.rising, fun p hp => ?_⟩
  rcases slotPut_mem hp with rfl | hp
  · exact bound
  · exact h.bound p hp

theorem Formed.drop (h : Formed t) (n : Nat) : Formed (slotDrop n t) :=
  ⟨slotDrop_rising h.rising, fun p hp => h.bound p (List.mem_filter.mp hp).1⟩

theorem Formed.map (h : Formed t) (f : Nat → Mark → Mark) : Formed (slotMap f t) := by
  refine ⟨slotMap_rising h.rising, fun p hp => ?_⟩
  obtain ⟨q, hq, rfl⟩ := List.mem_map.mp hp
  exact h.bound q hq

/-! ## One link removed -/

/-- The record of slot `n`, if any, without its partner. -/
def clearedTable (n : Nat) (t : MarkTable) : MarkTable :=
  match slotGet n t with
  | some m => slotPut n { m with partner := none } t
  | none => t

/-- The partner of mark `n`. -/
def linkOf (n : Nat) (t : MarkTable) : Option Nat := (slotGet n t).bind Mark.partner

/-- The link of mark `n` removed from both marks. -/
def unlinkedTable (n : Nat) (t : MarkTable) : MarkTable :=
  match linkOf n t with
  | some p => clearedTable n (clearedTable p t)
  | none => t

/-- Its reports. -/
def linkReports (n : Nat) (t : MarkTable) : List Report :=
  match linkOf n t with
  | some p => [{ mark := n, change := .unpaired }, { mark := p, change := .unpaired }]
  | none => []

/-- Mark `n` and its partner. -/
abbrev LinkSet (n : Nat) (t : MarkTable) (k : Nat) : Prop := k = n ∨ linkOf n t = some k

theorem clearPartner_eq (n : Nat) (s : State) : clearPartner n s = s.onMarks (clearedTable n) := by
  unfold clearPartner clearedTable markAt State.onMarks
  dsimp only
  cases slotGet n s.marks <;> rfl

theorem partnerOf_eq (n : Nat) (s : State) : partnerOf s n = linkOf n s.marks := by
  unfold partnerOf linkOf markAt
  cases slotGet n s.marks <;> rfl

theorem unlink_eq (n : Nat) (s : State) : unlink n s = s.onMarks (unlinkedTable n) := by
  unfold unlink unlinkedTable State.onMarks
  rw [partnerOf_eq]
  dsimp only
  cases linkOf n s.marks with
  | none => rfl
  | some p => simp only [clearPartner_eq, State.onMarks]

theorem unlinkReports_eq (n : Nat) (s : State) : unlinkReports n s = linkReports n s.marks := by
  have same := partnerOf_eq n s
  unfold unlinkReports linkReports
  cases linked : linkOf n s.marks <;> rw [linked] at same <;> simp only [same]

theorem slotGet_clearedTable (k n : Nat) (t : MarkTable) : slotGet k (clearedTable n t) =
    if k = n then (slotGet k t).map fun m => { m with partner := none } else slotGet k t := by
  unfold clearedTable
  by_cases h : k = n
  · subst h
    cases old : slotGet k t <;> simp [old]
  · cases slotGet n t <;> simp [slotGet_slotPut_other, h]

theorem linkOf_eq_some {n p : Nat} : linkOf n t = some p ↔ ∃ m, slotGet n t = some m ∧ m.partner = some p := by
  simp [linkOf, Option.bind_eq_some_iff]

theorem slotGet_unlinkedTable (k n : Nat) (t : MarkTable) : slotGet k (unlinkedTable n t) =
    if LinkSet n t k then (slotGet k t).map fun m => { m with partner := none } else slotGet k t := by
  unfold unlinkedTable LinkSet
  cases h : linkOf n t with
  | some p =>
    simp only [slotGet_clearedTable, Option.some.injEq]
    by_cases hn : k = n
    · subst hn
      by_cases hp : k = p <;> cases slotGet k t <;> simp [hp]
    · by_cases hp : k = p
      · subst hp
        simp [hn]
      · simp [hn, hp, Ne.symm hp]
  | none =>
    simp only [reduceCtorEq, or_false]
    by_cases hn : k = n
    · subst hn
      cases old : slotGet k t with
      | none => simp
      | some m =>
        have : m.partner = none := by simpa [linkOf, old] using h
        cases m
        simp_all
    · simp [hn]

theorem clearedTable_formed (h : Formed t) (n : Nat) : Formed (clearedTable n t) := by
  unfold clearedTable
  split
  next m old => exact h.put (h.bound _ (slotGet_mem old)) _
  · exact h

theorem unlinkedTable_formed (h : Formed t) (n : Nat) : Formed (unlinkedTable n t) := by
  unfold unlinkedTable
  split
  · exact clearedTable_formed (clearedTable_formed h _) _
  · exact h

theorem clearedTable_rising (h : Rising t) (n : Nat) : Rising (clearedTable n t) := by
  unfold clearedTable
  split
  · exact slotPut_rising h
  · exact h

theorem unlinkedTable_rising (h : Rising t) (n : Nat) : Rising (unlinkedTable n t) := by
  unfold unlinkedTable
  split
  · exact clearedTable_rising (clearedTable_rising h _) _
  · exact h

theorem unlinkedTable_erases (h : Rising t) (n : Nat) : Erases (LinkSet n t) t (unlinkedTable n t) where
  rising := unlinkedTable_rising h n
  inside hk hm := by
    rw [slotGet_unlinkedTable, if_pos hk] at hm
    obtain ⟨m, old, rfl⟩ := Option.map_eq_some_iff.mp hm
    exact ⟨m, old, rfl⟩
  outside hk := by rw [slotGet_unlinkedTable, if_neg hk]

theorem linkSet_closed (law : LinkLaw t) {n k q : Nat} {m : Mark} (hk : slotGet k t = some m) (hq : m.partner = some q)
    (h : LinkSet n t k) : LinkSet n t q := by
  rcases h with rfl | h
  · exact .inr (linkOf_eq_some.mpr ⟨m, hk, hq⟩)
  · obtain ⟨x, hx, partner⟩ := linkOf_eq_some.mp h
    obtain ⟨y, hy, back, -⟩ := law.linked hx partner
    rw [hk] at hy
    cases hy
    rw [hq] at back
    exact .inl (Option.some.inj back)

theorem unlinkedTable_unpaired {n : Nat} {m : Mark} (h : slotGet n (unlinkedTable n t) = some m) : m.partner = none := by
  rw [slotGet_unlinkedTable, if_pos (.inl rfl)] at h
  obtain ⟨x, -, rfl⟩ := Option.map_eq_some_iff.mp h
  rfl

/-! ## Slots freed -/

/-- Slot `n` freed, its partner's link to it removed. -/
def freedTable (n : Nat) (t : MarkTable) : MarkTable := slotDrop n (unlinkedTable n t)

theorem freeSlot_eq (n : Nat) (s : State) : freeSlot n s = s.onMarks (freedTable n) := by
  unfold freeSlot
  rw [unlink_eq]
  rfl

end

/-! ## A step's removals -/

/-- A pair of marks of the table. -/
abbrev Paired (t : MarkTable) (a b : Nat) : Prop := ∃ m, slotGet a t = some m ∧ m.partner = some b

/-- `t'` comes from `t` by removals that `rs` reports. -/
structure Broken (t : MarkTable) (rs : List Report) (t' : MarkTable) : Prop where
  formed : Formed t → Formed t'
  law : ∀ {l tag spb}, TableLaw l t tag spb → TableLaw l t' tag spb
  gets : ∀ {a b}, LinkLaw t → Paired t a b → a ∉ removedBy rs → b ∉ removedBy rs →
    slotGet a t' = slotGet a t ∧ slotGet b t' = slotGet b t
  link : LinkLaw t → LinkLaw t'

section
variable {t u v : MarkTable} {rs rs' : List Report}

theorem Broken.refl (t : MarkTable) : Broken t [] t := ⟨id, id, fun _ _ _ _ => ⟨rfl, rfl⟩, id⟩

theorem removedBy_append : removedBy (rs ++ rs') = removedBy rs ++ removedBy rs' := by simp [removedBy]

theorem Broken.trans (h : Broken t rs u) (k : Broken u rs' v) : Broken t (rs ++ rs') v where
  formed := k.formed ∘ h.formed
  law l := k.law (h.law l)
  gets l p ha hb := by
    rw [removedBy_append, List.mem_append, not_or] at ha hb
    obtain ⟨sameA, sameB⟩ := h.gets l p ha.1 hb.1
    obtain ⟨m, hm, partner⟩ := p
    rw [← sameA, ← sameB]
    exact k.gets (h.link l) ⟨m, sameA.trans hm, partner⟩ ha.2 hb.2
  link := k.link ∘ h.link

theorem Paired.not_linkSet (law : LinkLaw t) {n a b : Nat} (h : Paired t a b) (ha : a ≠ n) (hb : b ≠ n) :
    ¬ LinkSet n t a ∧ ¬ LinkSet n t b := by
  obtain ⟨m, hm, partner⟩ := h
  obtain ⟨o, ho, back, -⟩ := law.linked hm partner
  constructor
  · rintro (k | k)
    · exact ha k
    · obtain ⟨x, hx, px⟩ := linkOf_eq_some.mp k
      obtain ⟨y, hy, bx, -⟩ := law.linked hx px
      rw [hm] at hy
      cases hy
      exact hb (Option.some.inj (partner.symm.trans bx))
  · rintro (k | k)
    · exact hb k
    · obtain ⟨x, hx, px⟩ := linkOf_eq_some.mp k
      obtain ⟨y, hy, bx, -⟩ := law.linked hx px
      rw [ho] at hy
      cases hy
      exact ha (Option.some.inj (back.symm.trans bx))

/-- A paired mark is among the reports of its own unlinking. -/
theorem mem_removedBy_linkReports {n k : Nat} (h : linkOf n t = some k) : n ∈ removedBy (linkReports n t) := by
  simp [removedBy, linkReports, h]

theorem unlinkedTable_broken (t : MarkTable) (n : Nat) : Broken t (linkReports n t) (unlinkedTable n t) where
  formed h := unlinkedTable_formed h n
  law l := l.erase (unlinkedTable_erases l.rising n) fun hk hq => linkSet_closed l.toLinkLaw hk hq
  link l := l.erase (unlinkedTable_erases l.rising n) fun hk hq => linkSet_closed l hk hq
  gets {a b} l p ha hb := by
    cases h : linkOf n t with
    | none =>
      have same : unlinkedTable n t = t := by simp [unlinkedTable, h]
      rw [same]
      exact ⟨rfl, rfl⟩
    | some k =>
      have named := mem_removedBy_linkReports h
      obtain ⟨outA, outB⟩ := p.not_linkSet l (n := n) (fun e => ha (e ▸ named)) (fun e => hb (e ▸ named))
      exact ⟨(unlinkedTable_erases l.rising n).outside outA, (unlinkedTable_erases l.rising n).outside outB⟩

theorem freedTable_erases (h : Rising t) (n : Nat) : Erases (LinkSet n t) t (freedTable n t) where
  rising := slotDrop_rising (unlinkedTable_rising h n)
  inside hk hm := by
    unfold freedTable at hm
    rw [slotGet_slotDrop] at hm
    split at hm
    · cases hm
    · exact (unlinkedTable_erases h n).inside hk hm
  outside {k} hk := by
    have ne : k ≠ n := fun e => hk (.inl e)
    unfold freedTable
    rw [slotGet_slotDrop, if_neg ne]
    exact (unlinkedTable_erases h n).outside hk

theorem freedTable_broken (t : MarkTable) (n : Nat) :
    Broken t ({ mark := n, change := .retired } :: linkReports n t) (freedTable n t) where
  formed h := (unlinkedTable_formed h n).drop n
  law l := l.erase (freedTable_erases l.rising n) fun hk hq => linkSet_closed l.toLinkLaw hk hq
  link l := l.erase (freedTable_erases l.rising n) fun hk hq => linkSet_closed l hk hq
  gets {a b} l p ha hb := by
    have named : n ∈ removedBy ({ mark := n, change := .retired } :: linkReports n t) := by simp [removedBy]
    obtain ⟨outA, outB⟩ := p.not_linkSet l (n := n) (fun e => ha (e ▸ named)) (fun e => hb (e ▸ named))
    exact ⟨(freedTable_erases l.rising n).outside outA, (freedTable_erases l.rising n).outside outB⟩

end

end Sys2Proof.Machine
end

section
/-!
MarksKept: every change of the mark table, with its reports, keeps the laws of the card (chapter 2).
-/

namespace Sys2Proof.Machine

open Sys2Proof.Safety

section
variable {s : State}

/-! ## The table's laws at the card -/

theorem formed_of_tableForm (h : TableForm s) : Formed s.marks := ⟨h.1, h.2.1⟩

theorem tableForm_onMarks {f : MarkTable → MarkTable} (h : Formed s.marks → Formed (f s.marks)) (l : TableForm s) :
    TableForm (s.onMarks f) := by
  obtain ⟨rising, bound, retry⟩ := l
  obtain ⟨rising', bound'⟩ := h ⟨rising, bound⟩
  exact ⟨rising', bound', retry⟩

theorem markLaw_onMarks {f : MarkTable → MarkTable}
    (h : TableLaw [] s.marks (loadedTag s) (spb s) → TableLaw [] (f s.marks) (loadedTag s) (spb s)) (l : MarkLaw s) :
    MarkLaw (s.onMarks f) := by
  obtain ⟨table, rest⟩ := markLaw_iff.mp l
  exact markLaw_iff.mpr ⟨h table, rest⟩

theorem tableLaw_of (l : MarkLaw s) : TableLaw [] s.marks (loadedTag s) (spb s) := (markLaw_iff.mp l).1

theorem entry_paired (law : MarkLaw s ∧ ArmedLaw s) {e : Entry} (he : e ∈ s.punch.entries) :
    Paired s.marks e.inMark e.outMark := by
  obtain ⟨m, hm, o, ho, kind, partner, -⟩ := (law.2.2.2.2 e he).1
  exact ⟨m, hm, partner⟩

theorem paired_symm {t : MarkTable} (law : LinkLaw t) {a b : Nat} (h : Paired t a b) : Paired t b a := by
  obtain ⟨m, hm, partner⟩ := h
  obtain ⟨o, ho, back, -⟩ := law.linked hm partner
  exact ⟨o, ho, back⟩

/-- No armed entry rests on an unpaired mark. -/
theorem entry_ne_of_unpaired (law : MarkLaw s ∧ ArmedLaw s) {n : Nat} (alone : ∀ m, markAt s n = some m → m.partner = none)
    {e : Entry} (he : e ∈ s.punch.entries) : e.inMark ≠ n ∧ e.outMark ≠ n := by
  have paired := (entry_paired law he)
  have back := paired_symm (tableLaw_of law.1).toLinkLaw paired
  constructor
  · rintro rfl
    obtain ⟨m, hm, partner⟩ := paired
    rw [alone m hm] at partner
    cases partner
  · rintro rfl
    obtain ⟨m, hm, partner⟩ := back
    rw [alone m hm] at partner
    cases partner

/-- Where a step leaves the marks of an entry as they are, unless it removes the entry. -/
theorem reported_of_gets {u : State} {rs : List Report} (law : MarkLaw s ∧ ArmedLaw s) (entries : u.punch.entries = s.punch.entries)
    (loaded : u.tracker.loaded = s.tracker.loaded)
    (same : ∀ e ∈ s.punch.entries, ¬ Names (removedBy rs) e →
      markAt u e.inMark = markAt s e.inMark ∧ markAt u e.outMark = markAt s e.outMark) : Reported rs s u := by
  refine ⟨entries, fun e he k => ?_, fun e he a => ?_, fun e he k _ => ?_⟩
  · obtain ⟨hin, hout⟩ := same e he k
    unfold EntryMarks loadedTag
    rw [hin, hout, loaded]
    exact (law.2.2.2.2 e he).1
  · rw [loaded]
    exact (law.2.2.2.2 e he).2.1 a
  · obtain ⟨hin, hout⟩ := same e he k
    have tick {n : Nat} (h : markAt u n = markAt s n) : markTick u n = markTick s n := by
      unfold markTick tickValue
      rw [h, spb_congr loaded]
    exact ⟨tick hin, congrArg (· + 100) (tick hout)⟩

theorem reported_of_broken {rs : List Report} {f : MarkTable → MarkTable} (h : Broken s.marks rs (f s.marks))
    (law : MarkLaw s ∧ ArmedLaw s) : Reported rs s (s.onMarks f) := by
  refine reported_of_gets law rfl rfl fun e he k => ?_
  simp only [Names, not_or] at k
  exact h.gets (tableLaw_of law.1).toLinkLaw (entry_paired law he) k.1 k.2

/-- A step's removals with their reports. -/
theorem broken_kept {rs : List Report} {f : MarkTable → MarkTable} (h : Broken s.marks rs (f s.marks)) :
    Kept s (deliver rs (s.onMarks f)) :=
  deliveredMarks_kept f (tableForm_onMarks h.formed) (markLaw_onMarks h.law) (reported_of_broken h)

end

section
variable (s : State)

/-! ## Unlinking and retiring (R42 to R44) -/

theorem unlink_kept (n : Nat) : Kept s (deliver (unlinkReports n s) (unlink n s)) := by
  rw [unlink_eq, unlinkReports_eq]
  exact broken_kept (unlinkedTable_broken s.marks n)

/-- One mark of a retiring step, at the table. -/
def retireTable (acc : MarkTable × List Report) (n : Nat) : MarkTable × List Report :=
  (freedTable n acc.1, acc.2 ++ { mark := n, change := .retired } :: linkReports n acc.1)

theorem foldl_retireTable_broken (ns : List Nat) {t : MarkTable} (acc : MarkTable × List Report) (h : Broken t acc.2 acc.1) :
    Broken t (ns.foldl retireTable acc).2 (ns.foldl retireTable acc).1 := by
  induction ns generalizing acc with
  | nil => exact h
  | cons n r ih => exact ih _ (h.trans (freedTable_broken acc.1 n))

theorem foldl_retireOne_eq (ns : List Nat) (acc : MarkTable × List Report) :
    ns.foldl retireOne (s.onMarks fun _ => acc.1, acc.2) =
      (s.onMarks fun _ => (ns.foldl retireTable acc).1, (ns.foldl retireTable acc).2) := by
  induction ns generalizing acc with
  | nil => rfl
  | cons n r ih =>
    rw [List.foldl_cons, List.foldl_cons, ← ih]
    congr 1
    unfold retireOne retireTable
    rw [freeSlot_eq, unlinkReports_eq]
    rfl

theorem retireMarks_kept (ns : List Nat) : Kept s (retireMarks ns s) := by
  unfold retireMarks
  have fold := foldl_retireOne_eq s ns (s.marks, [])
  change ns.foldl retireOne (s, []) = _ at fold
  rw [fold]
  exact broken_kept (f := fun _ => (ns.foldl retireTable (s.marks, [])).1) (foldl_retireTable_broken ns _ (.refl _))

/-! ## Marks written (R31, R35, R36) -/

theorem capture_provisional {st : Standing} {sp : Option Nat} (h : capture s = some (st, sp)) (p : ∃ c, st = .provisional c) :
    s.tracker.map ≠ [] ∧ sp ≠ none := by
  unfold capture at h
  obtain ⟨c, rfl⟩ := p
  split at h
  · simp at h
  next q =>
    simp only [Option.some.injEq, Prod.mk.injEq] at h
    exact ⟨map_ne_nil_of_quality (by rw [q]; simp), h.2 ▸ by simp⟩
  · cases h

/-- A captured mark is PROVISIONAL only on a loaded reel, and then carries a spread. -/
theorem captured_provisional {s : State} (law : MarkLaw s) {m : Mark} (tag : m.tag = loadedTag s)
    (standing : m.standing = .firm ∨ capture s = some (m.standing, m.spread)) (h : m.isProvisional = true) :
    loadedTag s ≠ none ∧ m.tag = loadedTag s ∧ m.spread ≠ none := by
  have provisional : ∃ c, m.standing = .provisional c := by
    unfold Mark.isProvisional at h
    split at h
    · cases h
    next c hc => exact ⟨c, hc⟩
  rcases standing with firm | captured
  · obtain ⟨c, hc⟩ := provisional
    rw [firm] at hc
    cases hc
  · obtain ⟨map, spread⟩ := capture_provisional s captured provisional
    exact ⟨loadedTag_eq_none.not.mpr (loaded_of_map law map), tag, spread⟩

/-- An unpaired mark put in a slot outside every pair. -/
theorem setMark_kept {n : Nat} {m : Mark} {rs : List Report} (bound : n ≤ 99)
    (alone : MarkLaw s → ∀ x, markAt s n = some x → x.partner = none) (partner : m.partner = none)
    (zero : n = 0 → m.owner = 0 ∧ m.locked = false)
    (tag : m.tag = loadedTag s) (standing : m.standing = .firm ∨ capture s = some (m.standing, m.spread)) :
    Kept s (deliver rs (setMark n m s)) := by
  refine deliveredMarks_kept _ (tableForm_onMarks fun h => h.put bound m) (fun l => ?_) fun law => ?_
  · exact markLaw_onMarks (fun t => t.put bound (alone l) partner zero (captured_provisional l tag standing)) l
  · refine reported_of_gets law rfl rfl fun e he _ => ?_
    obtain ⟨hin, hout⟩ := entry_ne_of_unpaired law (alone law.1) he
    exact ⟨slotGet_slotPut_other hin _ _, slotGet_slotPut_other hout _ _⟩

theorem captureReturn_kept : Kept s (captureReturn s) := by
  unfold captureReturn
  split
  next st sp captured =>
    exact setMark_kept s (by omega) (fun l x hx => ((tableLaw_of l).zero hx).2.2) rfl (fun _ => ⟨rfl, rfl⟩) rfl (.inr captured)
  · exact .refl s

theorem writeMark_kept {n : Nat} {m : Mark} (low : n ≠ 0) (high : n ≤ 99) (tag : m.tag = loadedTag s) (partner : m.partner = none)
    (standing : m.standing = .firm ∨ capture s = some (m.standing, m.spread)) : Kept s (writeMark n m s) := by
  unfold writeMark
  split
  next old found =>
    rw [unlink_eq, unlinkReports_eq]
    have broken := unlinkedTable_broken s.marks n
    refine deliveredMarks_kept (fun t => slotPut n { m with locked := old.locked } (unlinkedTable n t))
      (tableForm_onMarks fun h => (broken.formed h).put high _) (fun l => ?_) fun law => ?_
    · exact markLaw_onMarks (fun t => (broken.law t).put high (fun x hx => unlinkedTable_unpaired hx) partner (fun h => absurd h low)
        (captured_provisional (m := { m with locked := old.locked }) l tag standing)) l
    · refine reported_of_gets law rfl rfl fun e he k => ?_
      simp only [Names, removedBy, not_or] at k
      have away : n ≠ e.inMark ∧ n ≠ e.outMark := by
        constructor <;> rintro rfl <;> simp at k
      have out : e.inMark ∉ removedBy (linkReports n s.marks) ∧ e.outMark ∉ removedBy (linkReports n s.marks) := by
        simp_all [removedBy]
      have gets := broken.gets (tableLaw_of law.1).toLinkLaw (entry_paired law he) out.1 out.2
      exact ⟨(slotGet_slotPut_other away.1.symm _ _).trans gets.1, (slotGet_slotPut_other away.2.symm _ _).trans gets.2⟩
  next free =>
    exact setMark_kept s high (fun _ x hx => by rw [free] at hx; cases hx) partner (fun h => absurd h low) tag standing

end

end Sys2Proof.Machine
end

section
/-!
MarksChanged: marks moved, relabelled and linked, and the re-evaluations that a change of the map or of the loaded reel starts,
keep the laws of the card (R37 to R41, R49 to R53).
-/

namespace Sys2Proof.Machine

open Sys2Proof.Safety

section
variable {s : State}

/-! ## One mark changed (R34, R37 to R39) -/

/-- The one ACTIVE entry is the one that `activeEntry` finds. -/
theorem activeEntry_of_active (law : ArmedLaw s) {e : Entry} (he : e ∈ s.punch.entries) (a : e.isActive = true) :
    activeEntry s = some e := by
  obtain ⟨f, hf⟩ : ∃ f, activeEntry s = some f := by
    rw [← Option.isSome_iff_exists]
    exact List.find?_isSome.mpr ⟨e, he, a⟩
  obtain ⟨memF, activeF⟩ := activeEntry_spec hf
  have one := law.2.1
  have inE : e ∈ s.punch.entries.filter Entry.isActive := List.mem_filter.mpr ⟨he, a⟩
  have inF : f ∈ s.punch.entries.filter Entry.isActive := List.mem_filter.mpr ⟨memF, activeF⟩
  generalize s.punch.entries.filter Entry.isActive = k at *
  match k, one with
  | [_], _ => rw [hf, List.mem_singleton.mp inE, List.mem_singleton.mp inF]
  | [], _ => cases inE

/-- A mark changed but for kind, tag and partner, no less precise than before: where its address changes its entries are
moved, and none of them is ACTIVE. -/
theorem changeMark_reported {n : Nat} {m m' : Mark} {rs : List Report} (law : MarkLaw s ∧ ArmedLaw s) (old : markAt s n = some m)
    (kind : m'.kind = m.kind) (tag : m'.tag = m.tag) (partner : m'.partner = m.partner)
    (precise : m.imprecise = false → m'.imprecise = false)
    (quiet : m'.addr = m.addr ∨ (n ∈ movedBy rs ∧ ¬ InUse s n)) : Reported rs s (setMark n m' s) := by
  have get (k : Nat) : markAt (setMark n m' s) k = if k = n then some m' else markAt s k := by
    by_cases h : k = n
    · subst h
      rw [if_pos rfl]
      exact slotGet_slotPut_same _ _ _
    · rw [if_neg h]
      exact slotGet_slotPut_other h _ _
  refine ⟨rfl, fun e he _ => ?_, fun e he a => (law.2.2.2.2 e he).2.1 a, fun e he _ free => ?_⟩
  · obtain ⟨x, hx, o, ho, rest⟩ := (law.2.2.2.2 e he).1
    obtain ⟨inKind, inPartner, inTag, inPrecise, outPrecise⟩ := rest
    have out : ∃ o' ∈ markAt (setMark n m' s) e.outMark, o'.imprecise = false := by
      rw [get]
      split
      next h =>
        rw [h, old] at ho
        cases ho
        exact ⟨m', rfl, precise outPrecise⟩
      · exact ⟨o, ho, outPrecise⟩
    obtain ⟨o', ho', precise'⟩ := out
    unfold EntryMarks
    rw [get e.inMark]
    split
    next h =>
      rw [h, old] at hx
      cases hx
      exact ⟨m', rfl, o', ho', kind.trans inKind, partner.trans inPartner, tag.trans inTag, precise inPrecise, precise'⟩
    · exact ⟨x, hx, o', ho', inKind, inPartner, inTag, inPrecise, precise'⟩
  · have tick {k : Nat} (h : m'.addr = m.addr ∨ k ≠ n) : markTick (setMark n m' s) k = markTick s k := by
      unfold markTick
      rw [get]
      by_cases hk : k = n
      · rw [if_pos hk, hk, old]
        exact congrArg (tickOf · (spb s)) (h.resolve_right fun ne => ne hk)
      · rw [if_neg hk]
        rfl
    have still : m'.addr = m.addr ∨ (e.inMark ≠ n ∧ e.outMark ≠ n) := by
      rcases quiet with same | ⟨moved, idle⟩
      · exact .inl same
      · refine .inr ?_
        rcases free with a | free
        · rw [InUse, activeEntry_of_active law.2 he a] at idle
          simpa using idle
        · simp only [Names, not_or] at free
          exact ⟨fun h => free.1 (h ▸ moved), fun h => free.2 (h ▸ moved)⟩
    exact ⟨tick (still.imp id And.left), congrArg (· + 100) (tick (still.imp id And.right))⟩

theorem readdress_kept {n : Nat} {m m' : Mark} (h : Readdressed s n m m') :
    Kept s (deliver [{ mark := n, change := .address }] (setMark n m' s)) := by
  obtain ⟨old, low, high, current, free, pair, same, spread⟩ := h
  have firm : m'.standing = .firm := by rw [same]
  have kind : m'.kind = m.kind := by rw [same]
  have tag : m'.tag = m.tag := by rw [same]
  have partner : m'.partner = m.partner := by rw [same]
  refine deliveredMarks_kept _ (tableForm_onMarks fun h => h.put high m') (fun l => ?_) fun law => ?_
  · refine markLaw_onMarks (fun t => t.replace old kind tag partner (fun h => absurd h low) (fun q hq o ho _ => ?_) fun p => ?_) l
    · exact .inl (pair q (partner ▸ hq) o ho)
    · simp [Mark.isProvisional, firm] at p
  · refine changeMark_reported law old kind tag partner (fun p => ?_) (.inr ⟨by simp [movedBy], free⟩)
    rcases spread with none | ⟨-, kept⟩
    · simp [Mark.imprecise, Mark.isProvisional, firm, none]
    · simp only [Mark.imprecise, Bool.or_eq_false_iff] at p
      simp [Mark.imprecise, Mark.isProvisional, firm, kept, p.2]

theorem relabel_kept {n : Nat} {m : Mark} (label : Label) (locked : Bool) (low : n ≠ 0) (high : n ≤ 99)
    (old : markAt s n = some m) : Kept s (setMark n { m with label := label, locked := locked } s) := by
  have kept : Kept s (deliver [] (setMark n { m with label := label, locked := locked } s)) := by
    refine deliveredMarks_kept _ (tableForm_onMarks fun h => h.put high _) (fun l => ?_) fun law => ?_
    · have order := fun {q o} => (tableLaw_of l).order (q := q) (o := o) old
      have provisional := (tableLaw_of l).provisional old
      exact markLaw_onMarks (fun t => t.replace old rfl rfl rfl (fun h => absurd h low)
        (fun q hq o ho current => order current hq ho) provisional) l
    · exact changeMark_reported law old rfl rfl rfl id (.inl rfl)
  exact kept

/-! ## Two marks linked (R41) -/

/-- The table after a MARK PAIR. -/
def linkedPair (a b : Nat) (x y : Mark) (t : MarkTable) : MarkTable :=
  slotPut a { x with partner := some b } (slotPut b { y with partner := some a } (unlinkedTable b (unlinkedTable a t)))

theorem linkMarks_eq (a b : Nat) (x y : Mark) (s : State) : linkMarks a b x y s =
    deliver (linkReports a s.marks ++ linkReports b (unlinkedTable a s.marks) ++
      [{ mark := a, change := .paired }, { mark := b, change := .paired }]) (s.onMarks (linkedPair a b x y)) := by
  unfold linkMarks
  rw [unlink_eq, unlink_eq, unlinkReports_eq, unlinkReports_eq]
  rfl

/-- Marks unlinked one after the other stand unpaired. -/
theorem slotGet_unlinked_twice {t : MarkTable} {a b n : Nat} {m : Mark} (h : slotGet n t = some m) (named : n = a ∨ n = b) :
    slotGet n (unlinkedTable b (unlinkedTable a t)) = some { m with partner := none } := by
  rw [slotGet_unlinkedTable, slotGet_unlinkedTable, h]
  rcases named with rfl | rfl
  · have own : LinkSet n t n := .inl rfl
    rw [if_pos own]
    split <;> rfl
  · rw [if_pos (.inl rfl)]
    split <;> rfl

theorem linkMarks_kept {a b : Nat} {x y : Mark} (lowA : a ≠ 0) (highA : a ≤ 99) (lowB : b ≠ 0) (highB : b ≤ 99)
    (oldA : markAt s a = some x) (oldB : markAt s b = some y) (currentA : IsCurrent s x) (currentB : IsCurrent s y) (ne : a ≠ b)
    (kinds : kindsPair x.kind y.kind = true) (order : OrderHolds x.kind (tickValue s x) y.kind (tickValue s y)) :
    Kept s (linkMarks a b x y s) := by
  rw [linkMarks_eq]
  have broken := (unlinkedTable_broken s.marks a).trans (unlinkedTable_broken _ b)
  have getA := slotGet_unlinked_twice (b := b) oldA (.inl rfl)
  have getB := slotGet_unlinked_twice (a := a) oldB (.inr rfl)
  refine deliveredMarks_kept _ (tableForm_onMarks fun h => ((broken.formed h).put highB _).put highA _) (fun l => ?_) fun law => ?_
  · exact markLaw_onMarks (fun t => (broken.law t).link ne lowA lowB getA getB (currentA.trans currentB.symm) kinds order) l
  · refine reported_of_gets law rfl rfl fun e he k => ?_
    rw [Names, removedBy_append, removedBy_append] at k
    simp only [List.mem_append, not_or] at k
    have paired := entry_paired law he
    have table := (tableLaw_of law.1).toLinkLaw
    have gets := broken.gets table paired (by simp only [removedBy_append, List.mem_append, not_or]; exact k.1.1)
      (by simp only [removedBy_append, List.mem_append, not_or]; exact k.2.1)
    /- Both marks of the entry stand paired still, so neither is one of the two. -/
    have away {n q : Nat} (h : Paired s.marks n q)
        (get : slotGet n (unlinkedTable b (unlinkedTable a s.marks)) = slotGet n s.marks) : n ≠ a ∧ n ≠ b := by
      obtain ⟨m, hm, partner⟩ := h
      constructor
      · rintro rfl
        rw [slotGet_unlinked_twice hm (.inl rfl), hm] at get
        have unpaired := congrArg Mark.partner (Option.some.inj get)
        rw [partner] at unpaired
        cases unpaired
      · rintro rfl
        rw [slotGet_unlinked_twice hm (.inr rfl), hm] at get
        have unpaired := congrArg Mark.partner (Option.some.inj get)
        rw [partner] at unpaired
        cases unpaired
    have awayIn := away paired gets.1
    have awayOut := away (paired_symm table paired) gets.2
    have same {n : Nat} (h : n ≠ a ∧ n ≠ b) (get : slotGet n (unlinkedTable b (unlinkedTable a s.marks)) = slotGet n s.marks) :
        slotGet n (linkedPair a b x y s.marks) = slotGet n s.marks := by
      rw [linkedPair, slotGet_slotPut_other h.1, slotGet_slotPut_other h.2, get]
    exact ⟨same awayIn gets.1, same awayOut gets.2⟩

end

end Sys2Proof.Machine
end

section
/-!
Reevaluation: the marks under a new map or a newly loaded reel, and at unthread (R49 to R53).
-/

namespace Sys2Proof.Machine

open Sys2Proof.Safety

/-! ## Pairs tested (R51) -/

/-- The ordering of the pair that a mark forms with its partner in a table holds. -/
abbrev PairOrdered (spb : Nat) (t : MarkTable) (m : Mark) : Prop :=
  ∀ p ∈ m.partner, ∀ o ∈ slotGet p t, OrderHolds m.kind (tickOf m.addr spb) o.kind (tickOf o.addr spb)

/-- The pair of mark `n` broken if its ordering no longer holds, at the table. -/
def breakTable (spb : Nat) (acc : MarkTable × List Report) (n : Nat) : MarkTable × List Report :=
  match slotGet n acc.1 with
  | some m => if PairOrdered spb acc.1 m then acc else (unlinkedTable n acc.1, acc.2 ++ linkReports n acc.1)
  | none => acc

theorem foldl_breakPair_eq (s : State) (ns : List Nat) (acc : MarkTable × List Report) :
    ns.foldl breakPair (s.onMarks fun _ => acc.1, acc.2) =
      (s.onMarks fun _ => (ns.foldl (breakTable (spb s)) acc).1, (ns.foldl (breakTable (spb s)) acc).2) := by
  induction ns generalizing acc with
  | nil => rfl
  | cons n r ih =>
    rw [List.foldl_cons, List.foldl_cons, ← ih]
    congr 1
    unfold breakPair breakTable
    change (match slotGet n acc.1 with
      | some m => _
      | none => _) = _
    cases found : slotGet n acc.1 with
    | none => rfl
    | some m =>
      dsimp only
      rw [unlink_eq, unlinkReports_eq]
      by_cases h : PairOrdered (spb s) acc.1 m
      · rw [if_pos h]
        exact if_pos h
      · rw [if_neg h]
        exact if_neg h

theorem TableLaw.close {n : Nat} {l : List Nat} {t : MarkTable} {tag : Option Nat} {spb : Nat} (law : TableLaw (n :: l) t tag spb)
    (h : ∀ m, slotGet n t = some m → PairOrdered spb t m) : TableLaw l t tag spb := by
  refine { law with order := fun hm ht hq ho => ?_ }
  rcases law.order hm ht hq ho with k | k | k
  · exact .inl k
  · rcases List.mem_cons.mp k with rfl | k
    · exact .inl (h _ hm _ hq _ ho)
    · exact .inr (.inl k)
  · rcases List.mem_cons.mp k with rfl | k
    · obtain ⟨o', ho', back, -⟩ := law.linked hm hq
      rw [ho] at ho'
      cases ho'
      exact .inl (orderHolds_comm.mp (h _ ho _ back _ hm))
    · exact .inr (.inr k)

/-- The table after the tests of the given marks' pairs, with the reports. -/
theorem foldl_breakTable {spb : Nat} {t : MarkTable} (ns : List Nat) (acc : MarkTable × List Report) (h : Broken t acc.2 acc.1) :
    Broken t (ns.foldl (breakTable spb) acc).2 (ns.foldl (breakTable spb) acc).1 ∧
    ∀ {tag}, TableLaw ns acc.1 tag spb → TableLaw [] (ns.foldl (breakTable spb) acc).1 tag spb := by
  induction ns generalizing acc with
  | nil => exact ⟨h, id⟩
  | cons n r ih =>
    rw [List.foldl_cons]
    have first : Broken t (breakTable spb acc n).2 (breakTable spb acc n).1 ∧
        ∀ {tag}, TableLaw (n :: r) acc.1 tag spb → TableLaw r (breakTable spb acc n).1 tag spb := by
      unfold breakTable
      split
      next m found =>
        split
        next holds =>
          refine ⟨h, fun l => l.close fun x hx => ?_⟩
          rw [found] at hx
          cases hx
          exact holds
        next =>
          have broken := unlinkedTable_broken acc.1 n
          refine ⟨h.trans broken, fun l => (broken.law l).close fun x hx q hq => ?_⟩
          rw [unlinkedTable_unpaired hx] at hq
          cases hq
      next none =>
        refine ⟨h, fun l => l.close fun x hx => ?_⟩
        rw [none] at hx
        cases hx
    obtain ⟨rest, law⟩ := ih _ first.1
    exact ⟨rest, fun l => law (first.2 l)⟩

/-- The tests of a step's pairs from the table `t`. -/
def breaks (spb : Nat) (tested : List Nat) (t : MarkTable) : MarkTable × List Report := tested.foldl (breakTable spb) (t, [])

theorem breaks_broken (spb : Nat) (tested : List Nat) (t : MarkTable) :
    Broken t (breaks spb tested t).2 (breaks spb tested t).1 := (foldl_breakTable tested (t, []) (.refl t)).1

theorem breaks_law {spb : Nat} {tested : List Nat} {t : MarkTable} {tag : Option Nat} (law : TableLaw tested t tag spb) :
    TableLaw [] (breaks spb tested t).1 tag spb := (foldl_breakTable tested (t, []) (.refl t)).2 law

theorem settlePairs_eq (tested : List Nat) (rs : List Report) (u : State) : settlePairs tested rs u =
    deliver (rs ++ (breaks (spb u) tested u.marks).2) (raiseIf (decide ((breaks (spb u) tested u.marks).2 ≠ [])) .pairBroken
      (u.onMarks fun t => (breaks (spb u) tested t).1)) := by
  unfold settlePairs
  have fold := foldl_breakPair_eq u tested (u.marks, [])
  change tested.foldl breakPair (u, []) = _ at fold
  rw [fold]
  rfl

/-- Removals after a change of the marks, and their reports after those of the change. -/
theorem Reported.break {rs rs' : List Report} {s u : State} (h : Reported rs s u) (link : LinkLaw u.marks)
    {f : MarkTable → MarkTable} (broken : Broken u.marks rs' (f u.marks)) : Reported (rs ++ rs') s (u.onMarks f) := by
  have split {e : Entry} (k : ¬ Names (removedBy (rs ++ rs')) e) : ¬ Names (removedBy rs) e ∧ ¬ Names (removedBy rs') e := by
    rw [Names, removedBy_append] at k
    simp only [List.mem_append] at k
    exact ⟨fun n => k (n.imp .inl .inl), fun n => k (n.imp .inr .inr)⟩
  have gets {e : Entry} (he : e ∈ s.punch.entries) (k : ¬ Names (removedBy (rs ++ rs')) e) :
      markAt (u.onMarks f) e.inMark = markAt u e.inMark ∧ markAt (u.onMarks f) e.outMark = markAt u e.outMark := by
    obtain ⟨m, hm, o, ho, kind, partner, rest⟩ := h.rests e he (split k).1
    have away := (split k).2
    simp only [Names, not_or] at away
    exact broken.gets link ⟨m, hm, partner⟩ away.1 away.2
  refine ⟨h.entries, fun e he k => ?_, h.reel, fun e he k free => ?_⟩
  · have rests := h.rests e he (split k).1
    unfold EntryMarks at rests ⊢
    rw [(gets he k).1, (gets he k).2]
    exact rests
  · have moved : movedBy (rs ++ rs') = movedBy rs ++ movedBy rs' := by simp [movedBy]
    have free' : e.isActive = true ∨ ¬ Names (movedBy rs) e := by
      refine free.imp_right fun n k => n ?_
      rw [Names, moved]
      simp only [List.mem_append]
      exact k.imp .inl .inl
    have tick {n : Nat} (same : markAt (u.onMarks f) n = markAt u n) : markTick (u.onMarks f) n = markTick u n := by
      unfold markTick
      rw [same]
      rfl
    obtain ⟨tickIn, top⟩ := h.still e he (split k).1 free'
    exact ⟨(tick (gets he k).1).trans tickIn, (congrArg (· + 100) (tick (gets he k).2)).trans top⟩

/-- A change of the marks (and of what is loaded) whose pairs are tested in the same step. -/
theorem settlePairs_kept {s u : State} {tested : List Nat} {rs : List Report}
    (loose : Loose s (u.onMarks fun t => (breaks (spb u) tested t).1)) (link : MarkLaw s → LinkLaw u.marks)
    (reported : MarkLaw s ∧ ArmedLaw s → Reported rs s u) (gate : GateLaw s → GateLaw u) (monitor : MonitorLaw s → MonitorLaw u) :
    Kept s (settlePairs tested rs u) := by
  rw [settlePairs_eq]
  have broken := breaks_broken (spb u) tested u.marks
  have raised := raiseIf_kept (u.onMarks fun t => (breaks (spb u) tested t).1)
    (decide ((breaks (spb u) tested u.marks).2 ≠ [])) .pairBroken
  refine delivered_kept (loose.trans raised.toLoose) (fun l => ?_) (fun l => raised.gate (gate l)) fun l => raised.monitor (monitor l)
  have h := (reported l).break (f := fun t => (breaks (spb u) tested t).1) (link l.1) broken
  unfold raiseIf
  split
  · exact ⟨h.entries, h.rests, h.reel, h.still⟩
  · exact h

/-! ## The marks under a changed map (R49, R50) -/

section
variable (s : State)

theorem reMark_firm {m : Mark} (h : m.standing = .firm) : reMark s m = m := by
  unfold reMark
  rw [h]

theorem reMark_keeps (m : Mark) : reMark s m =
    { reMark s m with kind := m.kind, partner := m.partner, owner := m.owner, locked := m.locked, tag := m.tag } := by
  unfold reMark
  split
  · rfl
  · dsimp only
    split <;> rfl

theorem reMark_provisional {m : Mark} (h : (reMark s m).isProvisional = true) :
    m.isProvisional = true ∧ (m.spread ≠ none → (reMark s m).spread ≠ none) := by
  unfold reMark at h ⊢
  split at h
  next firm => simp [Mark.isProvisional, firm] at h
  next c provisional =>
    refine ⟨by simp [Mark.isProvisional, provisional], ?_⟩
    dsimp only at h ⊢
    split at h
    · cases h
    next far =>
      rw [if_neg far]
      simp

/-- The numbers of the marks that a re-evaluation moves. -/
def shifted (s : State) : List Nat := (s.marks.filter fun p => (reMark s p.2).addr ≠ p.2.addr).map Prod.fst

theorem reMark_tableLaw (law : MarkLaw s) :
    TableLaw (shifted s) (slotMap (fun _ m => reMark s m) s.marks) (loadedTag s) (spb s) := by
  have table := tableLaw_of law
  have kind (m : Mark) : (reMark s m).kind = m.kind := by rw [reMark_keeps]
  have tag (m : Mark) : (reMark s m).tag = m.tag := by rw [reMark_keeps]
  have partner (m : Mark) : (reMark s m).partner = m.partner := by rw [reMark_keeps]
  have old {n : Nat} {m' : Mark} (hm : slotGet n (slotMap (fun _ m => reMark s m) s.marks) = some m') :
      ∃ m, slotGet n s.marks = some m ∧ m' = reMark s m := by
    rw [slotGet_slotMap] at hm
    obtain ⟨m, was, rfl⟩ := Option.map_eq_some_iff.mp hm
    exact ⟨m, was, rfl⟩
  have stays {n : Nat} {m : Mark} (hm : slotGet n s.marks = some m) (h : n ∉ shifted s) : (reMark s m).addr = m.addr := by
    by_contra moved
    exact h (List.mem_map.mpr ⟨(n, m), List.mem_filter.mpr ⟨slotGet_mem hm, by simpa using moved⟩, rfl⟩)
  refine { table.toLinkLaw.map (reMark s) (fun m => ?_) (fun m o h => ?_) with
    order := fun hm ht hq ho => ?_, provisional := fun hm hv => ?_ }
  · conv_lhs => rw [reMark_keeps]
    dsimp only
    rw [tag]
  · rw [tag, tag, h]
  · obtain ⟨m, was, rfl⟩ := old hm
    obtain ⟨o, wasO, rfl⟩ := old ho
    refine or_iff_not_imp_right.mpr fun still => ?_
    obtain ⟨stillM, stillO⟩ := not_or.mp still
    rw [kind, kind, stays was stillM, stays wasO stillO]
    exact (table.order was (tag m ▸ ht) (partner m ▸ hq) wasO).resolve_right (by simp)
  · obtain ⟨m, was, rfl⟩ := old hm
    obtain ⟨provisional, spread⟩ := reMark_provisional s hv
    obtain ⟨reel, same, some⟩ := table.provisional was provisional
    exact ⟨reel, (tag m).trans same, spread some⟩

theorem firm_of_precise {m : Mark} (h : m.imprecise = false) : m.standing = .firm := by
  simp only [Mark.imprecise, Mark.isProvisional, Bool.or_eq_false_iff] at h
  cases standing : m.standing with
  | firm => rfl
  | provisional c => simp [standing] at h

theorem reevaluate_kept : Kept s (reevaluate s) := by
  have broken := breaks_broken (spb s) (shifted s) (slotMap (fun _ m => reMark s m) s.marks)
  refine settlePairs_kept (s := s) (u := s.onMarks (slotMap fun _ m => reMark s m)) (tested := shifted s) ?_
    (fun l => (reMark_tableLaw s l).toLinkLaw) (fun law => ?_) id id
  · exact loose_onMarks (fun t => (breaks (spb s) (shifted s) (slotMap (fun _ m => reMark s m) t)).1)
      (tableForm_onMarks fun h => broken.formed (h.map _))
      fun l => markLaw_onMarks (fun _ => breaks_law (reMark_tableLaw s l)) l
  · refine reported_of_gets law rfl rfl fun e he _ => ?_
    obtain ⟨m, hm, o, ho, -, -, -, precise, precise'⟩ := (law.2.2.2.2 e he).1
    have same {n : Nat} {x : Mark} (hx : markAt s n = some x) (h : x.imprecise = false) :
        markAt (s.onMarks (slotMap fun _ m => reMark s m)) n = markAt s n := by
      have get : markAt (s.onMarks (slotMap fun _ m => reMark s m)) n = (markAt s n).map (reMark s) :=
        slotGet_slotMap (fun _ m => reMark s m) n s.marks
      rw [get, hx, Option.map_some, reMark_firm s (firm_of_precise h)]
    exact ⟨same hm precise, same ho precise'⟩

end

/-! ## The marks at identification (R10, R52) -/

section
variable (s : State)

theorem claimMark_keeps (tag : Nat) (m : Mark) : claimMark s tag m =
    { m with tag := (claimMark s tag m).tag, addr := (claimMark s tag m).addr } := by
  unfold claimMark
  dsimp only
  by_cases h : m.tag = none
  · simp only [h, if_true]
    split <;> rfl
  · simp only [h, if_false]
    split <;> rfl

theorem claimMark_tag (tag : Nat) (m : Mark) : (claimMark s tag m).tag = if m.tag = none then some tag else m.tag := by
  unfold claimMark
  dsimp only
  by_cases h : m.tag = none
  · simp only [h, if_true]
    split <;> rfl
  · simp only [h, if_false]
    split <;> rfl

/-- Every mark that is of the tag after claiming is reported. -/
theorem mem_claimReports {tag n : Nat} {m : Mark} (hm : slotGet n s.marks = some m) (h : (claimMark s tag m).tag = some tag) :
    n ∈ (claimReports s tag).map Report.mark := by
  rw [claimMark_tag] at h
  unfold claimReports
  refine List.mem_map.mpr ?_
  by_cases free : m.tag = none
  · exact ⟨_, List.mem_flatMap.mpr ⟨(n, m), slotGet_mem hm, by rw [if_pos free]; exact List.mem_singleton.mpr rfl⟩, rfl⟩
  · rw [if_neg free] at h
    by_cases out : spb s ≤ m.addr.sample
    · exact ⟨_, List.mem_flatMap.mpr ⟨(n, m), slotGet_mem hm, by rw [if_neg free, if_pos h, if_pos out]; exact List.mem_cons_self⟩, rfl⟩
    · exact ⟨_, List.mem_flatMap.mpr ⟨(n, m), slotGet_mem hm, by rw [if_neg free, if_pos h, if_neg out]; exact List.mem_cons_self⟩, rfl⟩

/-- The card as the identity of a reel is loaded. -/
def loadedReel (id : ReelId) (s : State) : State := s.onTracker fun t => { t with loaded := some id, candidate := none }

variable {s} (absent : s.tracker.loaded = none) (id : ReelId)
include absent

theorem claimMark_tableLaw (law : MarkLaw s) :
    TableLaw ((claimReports (loadedReel id s) id.tag).map Report.mark)
      (slotMap (fun _ m => claimMark (loadedReel id s) id.tag m) s.marks) (some id.tag) (spb (loadedReel id s)) := by
  have table := tableLaw_of law
  have noTag : loadedTag s = none := loadedTag_eq_none.mpr absent
  have old {n : Nat} {m' : Mark} (hm : slotGet n (slotMap (fun _ m => claimMark (loadedReel id s) id.tag m) s.marks) = some m') :
      ∃ m, slotGet n s.marks = some m ∧ m' = claimMark (loadedReel id s) id.tag m := by
    rw [slotGet_slotMap] at hm
    obtain ⟨m, was, rfl⟩ := Option.map_eq_some_iff.mp hm
    exact ⟨m, was, rfl⟩
  refine { table.toLinkLaw.map (claimMark (loadedReel id s) id.tag) (fun m => ?_) (fun m o h => ?_) with
    order := fun hm ht _ _ => ?_, provisional := fun hm hv => ?_ }
  · conv_lhs => rw [claimMark_keeps]
    conv_rhs => rw [claimMark_keeps]
  · rw [claimMark_tag, claimMark_tag, h]
  · obtain ⟨m, was, rfl⟩ := old hm
    exact .inr (.inl (mem_claimReports (loadedReel id s) was ht))
  · obtain ⟨m, was, rfl⟩ := old hm
    rw [claimMark_keeps] at hv
    exact absurd noTag (table.provisional was hv).1

theorem claim_kept : Kept s (claim id.tag (loadedReel id s)) := by
  have tested := claimMark_tableLaw absent id
  have broken := breaks_broken (spb (loadedReel id s)) ((claimReports (loadedReel id s) id.tag).map Report.mark)
    (slotMap (fun _ m => claimMark (loadedReel id s) id.tag m) s.marks)
  refine settlePairs_kept (u := (loadedReel id s).onMarks (slotMap fun _ m => claimMark (loadedReel id s) id.tag m)) ?_
    (fun l => (tested l).toLinkLaw) (fun law => ?_) (fun l => l) (fun l => l)
  · refine ⟨fun l => l, fun l => l, fun l => l, fun l => l, fun l => l, fun l => ?_, fun l => l, fun l => l, fun l => l, fun l => ?_⟩
    · obtain ⟨rising, bound⟩ := broken.formed ((formed_of_tableForm l).map _)
      exact ⟨rising, bound, l.2.2⟩
    · obtain ⟨-, map, saved⟩ := markLaw_iff.mp l
      exact markLaw_iff.mpr ⟨breaks_law (tested l), fun _ => by simp [loadedReel], saved⟩
  · have unclaimed {e : Entry} (he : e ∈ s.punch.entries) : ∃ m, markAt s e.inMark = some m ∧ m.tag = none ∧
        ∃ o, markAt s e.outMark = some o ∧ m.kind = .punchIn ∧ m.partner = some e.outMark ∧ m.imprecise = false ∧
        o.imprecise = false := by
      obtain ⟨m, hm, o, ho, kind, partner, tag, precise, precise'⟩ := (law.2.2.2.2 e he).1
      exact ⟨m, hm, tag.trans (loadedTag_eq_none.mpr absent), o, ho, kind, partner, precise, precise'⟩
    have keeps := claimMark_keeps (loadedReel id s) id.tag
    have precise (m : Mark) : (claimMark (loadedReel id s) id.tag m).imprecise = m.imprecise := by
      rw [keeps]
      rfl
    have get (n : Nat) : markAt ((loadedReel id s).onMarks (slotMap fun _ m => claimMark (loadedReel id s) id.tag m)) n =
        (markAt s n).map (claimMark (loadedReel id s) id.tag) :=
      slotGet_slotMap (fun _ m => claimMark (loadedReel id s) id.tag m) n s.marks
    refine ⟨rfl, fun e he _ => ?_, fun e he a => absurd absent ((law.2.2.2.2 e he).2.1 a), fun e he _ free => ?_⟩
    · obtain ⟨m, hm, tag, o, ho, kind, partner, firm, firm'⟩ := unclaimed he
      refine ⟨claimMark (loadedReel id s) id.tag m, by rw [get, hm]; rfl, claimMark (loadedReel id s) id.tag o,
        by rw [get, ho]; rfl, ?_, ?_, ?_, (precise m).trans firm, (precise o).trans firm'⟩
      · rw [keeps]
        exact kind
      · rw [keeps]
        exact partner
      · rw [claimMark_tag, if_pos tag]
        rfl
    · obtain ⟨m, hm, tag, -⟩ := unclaimed he
      refine absurd free ?_
      rw [not_or, not_not]
      refine ⟨fun a => (law.2.2.2.2 e he).2.1 a absent, .inl (List.mem_map.mpr ⟨{ mark := e.inMark, change := .address },
        List.mem_filter.mpr ⟨List.mem_flatMap.mpr ⟨(e.inMark, m), slotGet_mem hm, ?_⟩, by simp⟩, rfl⟩)⟩
      rw [if_pos tag]
      exact List.mem_singleton.mpr rfl

end

end Sys2Proof.Machine
end

section
/-!
ReferenceKept: the capstan's reference, the reel servo and the sensor scanner keep the laws of the card (chapters 5 to 7).
-/

namespace Sys2Proof.Machine

open Sys2Proof.Safety

/-! ## The capstan driven anew (R138, R140, R142, R143) -/

/-- The lock is UNLOCKED with both counts 0 and no correction. -/
abbrev Capstan.Idle (c : Capstan) : Prop := c.lock = false ∧ c.lockCount = 0 ∧ c.missed = 0 ∧ c.correction = 0

section
variable (s : State)

/-- The capstan changed and driven again as its mode asks. -/
theorem driven_lawful (f : Capstan → Capstan) (idle : ¬ InRun s → s.capstan.Idle → (f s.capstan).Idle) :
    Lawful s (driveCapstan (s.onCapstan f)) :=
  lawful_onCapstan s (fun c => (f c).driven s.motion.mode) fun l running =>
    ⟨rfl, rfl, fun h => idle h ((l running).2.2 h)⟩

theorem driven_kept (f : Capstan → Capstan) (lock : (f s.capstan).lock = s.capstan.lock)
    (idle : ¬ InRun s → s.capstan.Idle → (f s.capstan).Idle) : Kept s (driveCapstan (s.onCapstan f)) :=
  kept_onCapstan s (fun c => (f c).driven s.motion.mode) lock fun l running =>
    ⟨rfl, rfl, fun h => idle h ((l running).2.2 h)⟩

/-- A change of the reference in use with all it brings. -/
theorem referenceTurned_kept (f : Capstan → Capstan) : Kept s (referenceTurned (raise .referenceChange (s.onCapstan f))) := by
  have turned := driven_lawful (raise .referenceChange s) (fun c => (f c).unlocked) fun _ _ => ⟨rfl, rfl, rfl, rfl⟩
  exact ((raise_kept s .referenceChange).toLawful.trans turned).gateGuard

theorem moveRefState_kept (r : RefState) : Kept s (moveRefState r s) := by
  unfold moveRefState
  split
  · exact .refl s
  · split
    · exact referenceTurned_kept s _
    · exact (kept_reference s _ rfl).trans (raise_kept _ _)

theorem enterExternal_kept (p : Nat) (t : Count32) : Kept s (enterExternal p t s) := referenceTurned_kept s _

theorem referenceEdge_kept : Kept s (referenceEdge s) := by
  unfold referenceEdge
  split
  next run =>
    split
    · exact (driven_lawful s _ fun h => absurd run h).gateGuard
    · refine kept_onCapstan s _ rfl fun l running => ?_
      obtain ⟨enable, command, -⟩ := l running
      exact ⟨enable, command, fun h => absurd run h⟩
  · exact .refl s

theorem restartDivider_kept : Kept s (restartDivider s) := kept_reference s _ rfl

theorem restartQualification_kept : Kept s (restartQualification s) :=
  (restartDivider_kept s).trans (kept_reference _ _ rfl)

theorem internalEdge_kept : Kept s (internalEdge s) := by
  have timed : Kept s (s.onCapstan fun c =>
      { c with lastInternal := c.lastInternal + 10000, timebase := c.lastInternal + 10000 }) := kept_reference s _ rfl
  refine timed.trans ?_
  unfold internalEdge
  dsimp only
  generalize (s.onCapstan fun c => { c with lastInternal := c.lastInternal + 10000, timebase := c.lastInternal + 10000 }) = s
  split
  · exact .refl s
  · have edged : Kept s (s.onCapstan fun c => { c with lastEdge := c.lastInternal }) := kept_reference s _ rfl
    exact edged.trans (referenceEdge_kept _)

theorem derivedPeriod_kept (p : Nat) (t : Count32) : Kept s (derivedPeriod p t s) := by
  have noted : Kept s (s.onCapstan fun c => { c with latest := some p }) := kept_reference s _ rfl
  refine noted.trans ?_
  unfold derivedPeriod
  dsimp only
  generalize (s.onCapstan fun c => { c with latest := some p }) = s
  split
  · split
    · have driven := driven_kept s (fun c => { c with period := p, lastEdge := t, vRef := refSpeed p }) rfl fun _ h => h
      exact driven.trans (referenceEdge_kept _)
    · exact (kept_reference s _ rfl).trans (moveRefState_kept _ _)
  · split
    · split
      · exact enterExternal_kept s p t
      · exact kept_reference s _ rfl
    · exact kept_reference s _ rfl

theorem derivedEdge_kept (t : Count32) : Kept s (derivedEdge t s) := by
  unfold derivedEdge
  split
  · exact kept_reference s _ rfl
  · exact (kept_reference s _ rfl).trans (derivedPeriod_kept _ _ _)

theorem wordClockEdge_kept (t : Count32) : Kept s (wordClockEdge t s) := by
  have timed : Kept s (s.onCapstan fun c => { c with timebase := t }) := kept_reference s _ rfl
  refine timed.trans ?_
  unfold wordClockEdge
  dsimp only
  generalize (s.onCapstan fun c => { c with timebase := t }) = s
  split
  · exact .refl s
  · have heard : Kept s (s.onCapstan fun c => { c with silence := some t }) := kept_reference s _ rfl
    refine heard.trans ?_
    generalize (s.onCapstan fun c => { c with silence := some t }) = s
    split
    · exact (kept_reference s _ rfl).trans (derivedEdge_kept _ t)
    · exact kept_reference s _ rfl

theorem silenceTimeout_kept : Kept s (silenceTimeout s) := by
  have turns (s : State) : Kept s (if s.capstan.refState = .external then moveRefState .fallback s else s) := by
    split
    · exact moveRefState_kept s _
    · exact .refl s
  unfold silenceTimeout
  split
  · exact .refl s
  · exact ((turns s).trans (restartQualification_kept _)).trans (kept_reference _ _ rfl)

theorem spbChanged_kept : Kept s (spbChanged s) := by
  unfold spbChanged
  split
  · exact .refl s
  · exact (moveRefState_kept s _).trans (restartQualification_kept _)

theorem phaseEvent_kept (t : Count32) : Kept s (phaseEvent t s) := by
  have noted : Kept s (s.onCapstan fun c => { c with lastPhase := some (phaseError s.capstan t) }) := kept_reference s _ rfl
  refine noted.trans ?_
  unfold phaseEvent
  dsimp only
  split
  next run => exact (driven_lawful _ _ fun h => absurd run h).gateGuard
  · exact .refl _

theorem selectInternal_kept : Kept s (selectInternal s) := by
  have selected : Kept s (s.onCapstan fun c => { c with selection := .internal }) := kept_reference s _ rfl
  refine selected.trans ?_
  unfold selectInternal
  dsimp only
  split
  · exact .refl _
  · exact ((moveRefState_kept _ _).trans (restartQualification_kept _)).trans (kept_reference _ _ rfl)

theorem selectWordClock_kept : Kept s (selectWordClock s) :=
  ((kept_reference s _ rfl).trans (moveRefState_kept _ _)).trans (restartQualification_kept _)

/-! ## START (R96, R145) -/

theorem startEdge_kept : Kept s (startEdge s) := by
  unfold startEdge
  split
  · split
    · exact ((endLocate_kept s _).trans (enterPlay_kept _)).trans (captureReturn_kept _)
    · exact .refl s
  · exact .refl s

theorem startSample_kept (high : Bool) : Kept s (startSample high s) := by
  unfold startSample
  split
  · exact kept_reference s _ rfl
  · split
    · exact (kept_reference s _ rfl).trans (startEdge_kept _)
    · exact kept_reference s _ rfl

/-! ## The reel servo (R102 to R116) -/

theorem measureSpeed_kept : Kept s (measureSpeed s) := kept_servoFigures s _ rfl
theorem restartWindow_kept : Kept s (restartWindow s) := kept_servoFigures s _ rfl
theorem midpointRadii_kept (p : Profile) : Kept s (midpointRadii p s) := kept_servoFigures s _ rfl
theorem tensionStep_kept : Kept s (tensionStep s) := kept_servoFigures s _ rfl
theorem findStops_kept : Kept s (findStops s) := kept_servoFigures s _ rfl
theorem tachometer_kept (r : Reel) (d : Dir) : Kept s (tachometer r d s) := by
  cases r <;> exact kept_servoFigures s _ rfl

theorem radiusStep_kept : Kept s (radiusStep s) := by
  unfold radiusStep
  split
  · exact (kept_servoFigures s _ rfl : Kept s (formRadii s)).trans (restartWindow_kept _)
  · exact kept_servoFigures s _ rfl

/-- A command within the limit stays within it (R110). -/
theorem torqueCommand_bounds (p : Profile) {prev : Int} (h : mag prev ≤ p.torque) (target : Int) :
    mag (torqueCommand p prev target) ≤ p.torque := by
  have clamp := clampInt_bounds (lo := -(p.torque : Int)) (hi := p.torque) (by omega) target
  have move := moveToward_bounds (prev := prev) (target := clampInt (-(p.torque : Int)) p.torque target)
    (step := p.slew) (Int.natCast_nonneg _)
  rw [mag_le_iff] at h ⊢
  unfold torqueCommand
  omega

theorem torqueStep_kept : Kept s (torqueStep s) := by
  unfold torqueStep
  dsimp only
  refine kept_onServo s _ fun l => ?_
  obtain ⟨supply, takeUp, rest⟩ := l
  have zero : mag 0 ≤ ((activeProfile s).torque : Int) := by simp [mag]
  unfold TorqueLaw
  rw [State.onServo_servo, State.onServo_motion, activeProfile_congr (s := s) rfl]
  by_cases h : s.motion.mode.forcedZero = true
  · simp only [h, if_true]
    exact ⟨zero, zero, fun _ => ⟨trivial, trivial, (rest h).2.2⟩⟩
  · simp only [h]
    exact ⟨torqueCommand_bounds _ supply _, torqueCommand_bounds _ takeUp _, fun k => absurd k (by simp)⟩

theorem servoFigures_kept : Kept s (servoFigures s) :=
  ((((measureSpeed_kept s).trans (radiusStep_kept _)).trans (tensionStep_kept _)).trans (findStops_kept _)).trans
    (torqueStep_kept _)

theorem readyStep_kept : Kept s (readyStep s) := by
  unfold readyStep
  split
  · split
    · exact enterStoppedFull_kept s
    · exact kept_servoFigures s _ rfl
  · exact .refl s

theorem judgeStep_kept (m : Mode) : Kept s (judgeStep m s) := by
  unfold judgeStep
  split
  · have judged : Kept s (judged s) := kept_servoFigures s _ rfl
    exact ((judged.trans (reportIf_kept _ _ _)).trans (reportIf_kept _ _ _)).trans (reportIf_kept _ _ _)
  · exact kept_servoFigures s _ rfl

theorem compute_kept : Kept s (compute s) := ((servoFigures_kept s).trans (readyStep_kept _)).trans (judgeStep_kept _ _)

/-! ## The sensor scanner (R120 to R128) -/

theorem scanStart_kept : Kept s (scanStart s) := kept_onScanner s _
theorem writeScan_kept (c : ScanCodes) : Kept s (writeScan c s) := kept_onScanner s _

theorem judgeChannel_kept (p code : Nat) : Kept s (judgeChannel p code s) := by
  unfold judgeChannel
  split
  · exact (kept_onMonitor s _ id).trans (reportIf_kept _ _ _)
  · split
    · exact (kept_onMonitor s _ id).trans (reportIf_kept _ _ _)
    · split
      · exact (kept_onMonitor s _ id).trans (reportIf_kept _ _ _)
      · split
        · refine Kept.trans (kept_onMonitor s (supplyAfter (channelValue 5 code)) fun l => ?_) (reportIf_kept _ _ _)
          have faults : (supplyAfter (channelValue 5 code) s.monitor).faults = s.monitor.faults := by
            unfold supplyAfter
            split
            · split <;> rfl
            · split <;> rfl
          unfold FaultSetForm
          rw [State.onMonitor_monitor, faults]
          exact l
        · exact .refl s

theorem judgeDue_kept : Kept s (judgeDue s) := by
  unfold judgeDue
  split
  · exact (kept_onMonitor s _ id).trans (judgeChannel_kept _ _ _)
  · exact .refl s

theorem scanCompletion_kept (c : ScanCodes) : Kept s (scanCompletion c s) := by
  have written := (judgeDue_kept s).trans (writeScan_kept _ c)
  refine written.trans ?_
  unfold scanCompletion
  dsimp only
  split
  · exact kept_onMonitor _ _ id
  · exact judgeChannel_kept _ _ _

theorem servoComputation_kept : Kept s (servoComputation s) := (compute_kept s).trans (judgeDue_kept _)

end

end Sys2Proof.Machine
end

section
/-!
RequestsKept: what the requests of the link bring about in their blocks keeps the laws of the card (section 10.3).
-/

namespace Sys2Proof.Machine

open Sys2Proof.Safety

section
variable (s : State)

/-! ## Motions begun (R62 to R72, R83) -/

theorem beginPlay_kept : Kept s (beginPlay s) := (endLocate_kept s _).trans (enterPlay_kept _)

theorem beginCue_kept (w : Int) : Kept s (beginCue w s) :=
  ((endLocate_kept s _).trans (enterMode_kept .cue _ (by simp))).trans (kept_onMotion _ _ rfl)

theorem beginWind_kept (w : Int) : Kept s (beginWind w s) :=
  ((endLocate_kept s _).trans (enterMode_kept .wind _ (by simp))).trans (kept_onMotion _ _ rfl)

theorem beginLocate_kept (c : LocCtx) : Kept s (beginLocate c s) := by
  have ended := endLocate_kept s .superseded
  unfold beginLocate
  dsimp only
  exact ((ended.trans (setLoc_kept _ c)).trans (enterMode_kept (.locate _) _ (by simp))).trans (kept_onMotion _ _ rfl)

theorem beginHeld_kept (h : Held) : Kept s (beginHeld h s) := by
  cases h with
  | play => exact beginPlay_kept s
  | cue w => exact beginCue_kept s w
  | wind w => exact beginWind_kept s w
  | locate c => exact beginLocate_kept s _

theorem holdRequest_kept (h : Held) : Kept s (holdRequest h s) := by
  have dropped := dropHeld_kept s .superseded
  unfold holdRequest
  dsimp only
  split
  · exact dropped.trans (kept_onMotion _ _ rfl)
  · exact ((dropped.trans (enterMode_kept (.stopped .restoring) _ (by simp))).trans (kept_onMotion _ _ rfl)).trans
      (kept_onMotion _ _ rfl)

theorem stopEffect_kept : Kept s (stopEffect s) := by
  unfold stopEffect
  split
  · exact enterStopping_kept s _
  · exact enterStopping_kept s _
  · exact enterStopping_kept s _
  · exact (endLocate_kept s _).trans (enterStopping_kept _ _)
  · exact kept_onMotion s _ rfl
  · exact dropHeld_kept s _
  · exact .refl s

/-! ## Profiles (R62, R168, R171) -/

/-- In EMPTY and RELEASED any profile may become the active one: both torques and v_cmd are 0 there. -/
theorem kept_parked_profile (parked : Parked s) (f : Store → Store)
    (saved : (f s.store).user = s.store.user ∧ (f s.store).save = s.store.save) : Kept s (s.onStore f) := by
  refine ⟨⟨⟨fun l => ?_, fun l => ?_, id, id, id, id, id, id, id, fun l => ?_⟩, And.right⟩, id, id⟩
  · have forced : s.motion.mode.forcedZero = true := by rcases parked with h | h <;> rw [h] <;> rfl
    obtain ⟨-, -, rest⟩ := l
    obtain ⟨supply, takeUp, drives⟩ := rest forced
    have zero : mag 0 ≤ ((activeProfile (s.onStore f)).torque : Int) := by simp [mag]
    unfold TorqueLaw
    rw [State.onStore_servo, supply, takeUp]
    exact ⟨zero, zero, fun _ => ⟨rfl, rfl, drives⟩⟩
  · obtain ⟨-, -, rest⟩ := l
    unfold SpeedLaw
    rw [State.onStore_motion, rest parked]
    exact ⟨by simp [mag], fun _ => by simp [mag, Config.headContact], fun _ => rfl⟩
  · exact markLaw_congr (s := s) (t := s.onStore f) rfl rfl rfl (congrArg (fun u => u.image.marks) saved.1) saved.2 l

theorem beginEngage_kept (n : Nat) (mode : s.motion.mode = .released) : Kept s (beginEngage n s) := by
  have chosen := kept_parked_profile s (.inr mode) (fun c => { c with active := n }) ⟨rfl, rfl⟩
  unfold beginEngage
  dsimp only
  generalize (s.onStore fun c => { c with active := n }) = s at chosen
  have entered := (enterMode_kept .engaging s (by simp)).trans (kept_standstill _
    (fun x => { x with vCmd := 0, leader := none, rampK := 0, engageTimer := 0, setpoint := 0 }) rfl)
  refine (chosen.trans entered).trans ?_
  refine ((kept_onServo _ _ fun l => ?_).trans (midpointRadii_kept _ _)).trans (restartWindow_kept _)
  have zero (p : Profile) : mag 0 ≤ (p.torque : Int) := by simp [mag]
  exact ⟨zero _, zero _, fun h => by simp [Motion.entering, Mode.forcedZero] at h⟩

theorem writeProfile_kept (n : Nat) (p : Profile) (idle : n ≠ s.store.active ∨ Parked s) : Kept s (writeProfile n p s) := by
  have written : Kept s (s.onStore fun c => { c with profiles := c.profiles.set n p }) := by
    rcases idle with other | parked
    · refine kept_onStore s _ ?_ fun l => markLaw_congr rfl rfl rfl rfl rfl l
      simp [activeProfile, List.getD, other]
    · exact kept_parked_profile s parked _ ⟨rfl, rfl⟩
  unfold writeProfile
  dsimp only
  split
  · exact written.trans (midpointRadii_kept _ _)
  · exact written

/-! ## Saving (R174, R175) -/

theorem savedTable_snapshot {s : State} (law : MarkLaw s) : SavedTable (snapshot s).marks := by
  have table := (tableLaw_of law).toLinkLaw
  have get (n : Nat) : slotGet n (snapshot s).marks =
      ((slotGet n s.marks).filter fun m => decide (n ≠ 0 ∧ m.tag ≠ none)).map savedMark := by
    rw [snapshot, slotGet_slotMap, slotGet_filter table.rising]
  have old {n : Nat} {m' : Mark} (h : slotGet n (snapshot s).marks = some m') :
      ∃ m, slotGet n s.marks = some m ∧ (n ≠ 0 ∧ m.tag ≠ none) ∧ m' = savedMark m := by
    rw [get] at h
    obtain ⟨m, hm, rfl⟩ := Option.map_eq_some_iff.mp h
    obtain ⟨hm, claimed⟩ := Option.filter_eq_some_iff.mp hm
    exact ⟨m, hm, of_decide_eq_true claimed, rfl⟩
  have rising : Rising (snapshot s).marks := by
    unfold snapshot
    dsimp only
    exact slotMap_rising (filter_rising table.rising)
  refine ⟨linkedTable_iff.mpr ⟨rising, fun h => ?_, fun h hq => ?_, fun h => ?_⟩, fun p hp => ?_⟩
  · obtain ⟨m, hm, -⟩ := old h
    exact table.bound hm
  · obtain ⟨m, hm, ⟨low, claimed⟩, rfl⟩ := old h
    obtain ⟨o, ho, back, tag, kinds⟩ := table.linked hm hq
    refine ⟨savedMark o, ?_, back, tag, kinds⟩
    have other : ∀ {q}, slotGet q s.marks = some o → q ≠ 0 := by
      rintro q ho rfl
      rw [(table.zero ho).2.2] at back
      cases back
    rw [get, ho, Option.filter_some, if_pos (decide_eq_true ⟨other ho, tag ▸ claimed⟩)]
    rfl
  · obtain ⟨m, hm, ⟨low, -⟩, -⟩ := old h
    exact absurd rfl low
  · obtain ⟨m, hm, claimed, same⟩ := old ((slotGet_iff_mem rising).mpr hp)
    rw [same]
    exact claimed

theorem markLaw_onStore (f : Store → Store) (user : MarkLaw s → SavedTable (f s.store).user.image.marks)
    (save : MarkLaw s → ∀ v ∈ (f s.store).save, SavedTable v.snapshot.marks) (l : MarkLaw s) : MarkLaw (s.onStore f) := by
  obtain ⟨table, map, -⟩ := markLaw_iff.mp l
  exact markLaw_iff.mpr ⟨table, map, user l, save l⟩

theorem startSave_kept : Kept s (s.onStore fun c =>
    { c with save := some { stage := 1, snapshot := snapshot s }, sectorFlag := false, user := { c.user with marker := false } }) := by
  refine kept_onStore s _ rfl (markLaw_onStore s _ (fun l => (markLaw_iff.mp l).2.2.1) fun l v hv => ?_)
  cases hv
  exact savedTable_snapshot l

theorem stageWritten_marks (k : Nat) (i : Image) (u : UserSector) :
    (stageWritten k i u).image.marks = i.marks ∨ (stageWritten k i u).image.marks = u.image.marks := by
  unfold stageWritten
  split
  · exact .inr rfl
  · split
    · exact .inl rfl
    · exact .inr rfl

theorem saveStageEnd_kept (agrees : Bool) : Kept s (saveStageEnd agrees s) := by
  unfold saveStageEnd
  split
  · exact .refl s
  next v saving =>
    have snap (l : MarkLaw s) : SavedTable v.snapshot.marks := (markLaw_iff.mp l).2.2.2 v saving
    split
    · refine kept_onStore s _ rfl (markLaw_onStore s _ (fun l => ?_) fun l w hw => ?_)
      · rcases stageWritten_marks v.stage v.snapshot s.store.user with same | same
        · exact same ▸ snap l
        · exact same ▸ (markLaw_iff.mp l).2.2.1
      · cases hw
        exact snap l
    · refine (kept_onStore s _ rfl (markLaw_onStore s _ (fun l => ?_) fun l w hw => ?_)).trans (raise_kept _ _)
      · dsimp only
        split
        · exact snap l
        · exact (markLaw_iff.mp l).2.2.1
      · cases hw

/-! ## ARM (R152, R153) -/

/-- What a new entry rests on. -/
theorem armedEntry_law {n p : Nat} {m : Mark} (law : MarkLaw s) (partner : armPartner s n = some (m, p))
    (precise : m.imprecise = false) (precise' : ∀ o ∈ markAt s p, o.imprecise = false) (t : Tracks) (r : Bool) :
    EntryLaw s (armedEntry s n p t r) := by
  have pair : markAt s n = some m ∧ IsCurrent s m ∧ m.kind = .punchIn ∧ m.partner = some p := by
    unfold armPartner at partner
    split at partner
    next x found =>
      split at partner
      next fit =>
        split at partner
        next q hq =>
          simp only [Option.some.injEq, Prod.mk.injEq] at partner
          obtain ⟨rfl, rfl⟩ := partner
          exact ⟨found, fit.1, fit.2, hq⟩
        · cases partner
      · cases partner
    · cases partner
  obtain ⟨found, current, kind, hq⟩ := pair
  obtain ⟨o, ho, -⟩ := (tableLaw_of law).linked found hq
  exact ⟨⟨m, found, o, ho, kind, hq, current, precise, precise' o ho⟩, fun a => Bool.noConfusion a, fun _ _ _ h => by cases h⟩

theorem arm_kept {n p : Nat} {t : Tracks} {r : Bool} {m : Mark} (partner : armPartner s n = some (m, p))
    (precise : m.imprecise = false) (precise' : ∀ o ∈ markAt s p, o.imprecise = false)
    (apart : ∀ f ∈ s.punch.entries.filter (fun f => f.inMark ≠ n), ¬ RangesOverlap s (armedEntry s n p t r) f)
    (room : entryFor s n = none → s.punch.entries.length < 4) :
    Kept s (s.onPunch fun q => { q with
      entries := orderEntries s (s.punch.entries.filter (fun f => f.inMark ≠ n) ++ [armedEntry s n p t r]) }) := by
  refine kept_onPunch s _ rfl fun law => ?_
  have perm := sortByKey_perm (key := entryIn s) (s.punch.entries.filter (fun f => f.inMark ≠ n) ++ [armedEntry s n p t r])
  have sorted := sortByKey_sorted (key := entryIn s) (s.punch.entries.filter (fun f => f.inMark ≠ n) ++ [armedEntry s n p t r])
  rw [← orderEntries] at perm sorted
  have mem {e : Entry} (he : e ∈ orderEntries s (s.punch.entries.filter (fun f => f.inMark ≠ n) ++ [armedEntry s n p t r])) :
      (e ∈ s.punch.entries ∧ e.inMark ≠ n) ∨ e = armedEntry s n p t r := by
    simpa using perm.mem_iff.mp he
  have entry := armedEntry_law s law.1 partner precise precise' t r
  have inMark : (armedEntry s n p t r).inMark = n := (restage_keys s _).1
  have laws {e : Entry} (he : e ∈ orderEntries s (s.punch.entries.filter (fun f => f.inMark ≠ n) ++ [armedEntry s n p t r])) :
      EntryLaw s e := by
    rcases mem he with ⟨he, -⟩ | rfl
    · exact law.2.2.2.2 e he
    · exact entry
  have distinct : Distinct (orderEntries s (s.punch.entries.filter (fun f => f.inMark ≠ n) ++ [armedEntry s n p t r])) := by
    refine (perm.map _).nodup_iff.mpr ?_
    rw [List.map_append, List.nodup_append]
    refine ⟨(distinct_of_law law).sublist (List.filter_sublist.map _), List.nodup_singleton _, fun a ha b hb => ?_⟩
    obtain ⟨e, he, rfl⟩ := List.mem_map.mp ha
    rw [List.map_singleton, List.mem_singleton, inMark] at hb
    rw [hb]
    simpa using (List.mem_filter.mp he).2
  refine ⟨?_, ?_, ?_, fun e he => laws he⟩
  · change (orderEntries s _).length ≤ 4
    rw [perm.length_eq, List.length_append, List.length_singleton]
    have room' := law.2.1
    cases found : entryFor s n with
    | none =>
      have := List.length_filter_le (fun f : Entry => decide (f.inMark ≠ n)) s.punch.entries
      have := room found
      omega
    | some f =>
      obtain ⟨hf, same⟩ := entryFor_spec found
      have : (s.punch.entries.filter fun f => decide (f.inMark ≠ n)).length < s.punch.entries.length :=
        List.length_filter_lt_length_iff_exists.mpr ⟨f, hf, by simp [same]⟩
      omega
  · have quiet : (armedEntry s n p t r).isActive = false := rfl
    change ((orderEntries s _).filter Entry.isActive).length ≤ 1
    rw [(perm.filter _).length_eq, List.filter_append, List.length_append, List.filter_singleton, quiet]
    exact ((List.filter_sublist.filter _).length_le).trans law.2.2.1
  · refine (sorted.and (List.pairwise_map.mp distinct)).imp_of_mem fun {e f} he hf k => ?_
    obtain ⟨le, ne⟩ := k
    have top := entryIn_le_entryTop law.1 (laws hf).1
    have clear : ¬ RangesOverlap s e f := by
      rcases mem he with ⟨he, awayE⟩ | rfl
      · rcases mem hf with ⟨hf, -⟩ | rfl
        · rcases pairwise_or law.2.2.2.1 he hf with same | lt | lt
          · exact absurd (congrArg Entry.inMark same) ne
          · unfold RangesOverlap; omega
          · unfold RangesOverlap; omega
        · exact fun overlap => apart e (List.mem_filter.mpr ⟨he, by simpa using awayE⟩) overlap.symm
      · rcases mem hf with ⟨hf, awayF⟩ | rfl
        · exact apart f (List.mem_filter.mpr ⟨hf, by simpa using awayF⟩)
        · exact absurd rfl ne
    change entryTop s e < entryIn s f
    unfold RangesOverlap at clear
    omega

/-- A mask below bit 11 names none but the eleven events. -/
theorem ofNat_low_bits {m : Nat} (h : m ≤ 0x07FF) : BitVec.ofNat 16 m &&& 0xF800#16 = 0 := by
  refine BitVec.eq_of_getLsbD_eq fun i hi => ?_
  rw [BitVec.getLsbD_and, BitVec.getLsbD_ofNat]
  by_cases low : i < 11
  · have : (0xF800#16).getLsbD i = false := by
      interval_cases i <;> rfl
    simp [this]
  · have : m.testBit i = false := Nat.testBit_lt_two_pow (lt_of_le_of_lt h (lt_of_lt_of_le (by norm_num : 0x07FF < 2 ^ 11)
      (Nat.pow_le_pow_right (by norm_num) (not_lt.mp low))))
    simp [this]

/-- What a request carries out keeps the laws. -/
theorem carries_kept {s t : State} (reset : ∀ s : State, Kept s (warmReset s)) (h : Carries s t) : Kept s t := by
  cases h with
  | nothing => exact .refl s
  | engage n mode faults low => exact beginEngage_kept s n mode
  | releaseStopped l mode => exact (enterReleasing_kept s).trans (dropHeld_kept _ _)
  | releaseEngaging mode => exact enterReleasing_kept s
  | stop => exact stopEffect_kept s
  | playHeld gate => exact (captureReturn_kept s).trans (holdRequest_kept _ _)
  | playAgain p mode => exact captureReturn_kept s
  | play gate => exact (captureReturn_kept s).trans (beginPlay_kept _)
  | hold h gate => exact holdRequest_kept s h
  | cue w gate => exact beginCue_kept s w
  | wind w gate => exact beginWind_kept s w
  | locate c gate => exact beginLocate_kept s c
  | selectInternal => exact selectInternal_kept s
  | selectWordClock => exact selectWordClock_kept s
  | faultClear =>
    refine kept_onMonitor s _ fun l => ?_
    obtain ⟨order, counts⟩ := l
    exact ⟨order.sublist (List.filter_sublist.map _), fun r hr => counts r (List.mem_filter.mp hr).1⟩
  | writeMark n m low high tag partner standing => exact writeMark_kept s low high tag partner standing
  | readdress n m m' h => exact readdress_kept h
  | relabel n m label locked low high old => exact relabel_kept label locked low high old
  | link a b x y lowA highA lowB highB oldA oldB currentA currentB ne kinds order =>
    exact linkMarks_kept lowA highA lowB highB oldA oldB currentA currentB ne kinds order
  | unlink n => exact unlink_kept s n
  | retire ns => exact retireMarks_kept s ns
  | arm n p t r m partner precise precise' idle apart room => exact arm_kept s partner precise precise' apart room
  | disarm n => exact removeEntry_kept s n
  | disarmAll => exact foldl_removeEntry_kept s _
  | safe a b => exact (lawful_lines s _ rfl).gateGuard
  | manual m pending => exact setManual_kept s m
  | profile n p idle => exact writeProfile_kept s n p idle
  | save free => exact startSave_kept s
  | summary => exact kept_onLink s _ id fun l => ⟨by simp, l.2⟩
  | mask m h =>
    refine kept_onLink s _ id fun l => ⟨l.1, ?_⟩
    exact ofNat_low_bits h
  | poll slot cond sense => exact kept_onLink s _ id id
  | slot c => exact kept_onLink s _ id id
  | warmReset parked => exact reset s

end

end Sys2Proof.Machine
end

section
/-!
MapKept: a placement keeps the law of the anchor map (R12, R16 to R20).
-/

namespace Sys2Proof.Machine

open Sys2Proof.Safety

/-! ## Below is an order -/

theorem Below.trans {a b c : Anchor} (h : Below a b) (k : Below b c) : Below a c := by
  obtain ⟨ticks, count, low, high⟩ := h
  obtain ⟨ticks', count', low', high'⟩ := k
  refine ⟨ticks.trans ticks', count.trans count', ?_, ?_⟩ <;> omega

/-- Neighbours in order are all in order. -/
theorem mapOrdered_iff {map : List Anchor} : MapOrdered map ↔ map.Pairwise Below :=
  haveI : IsTrans Anchor Below := ⟨fun _ _ _ => Below.trans⟩
  List.isChain_iff_pairwise

/-- Every anchor's ticks lie on the tape. -/
abbrev OnTape (map : List Anchor) : Prop := ∀ a ∈ map, 0 ≤ a.ticks ∧ a.ticks ≤ 104857500

/-- No anchor is the live one. -/
abbrev AllSettled (map : List Anchor) : Prop := ∀ a ∈ map, a.live = false

/-! ## Before a placement (R18) -/

theorem beforePlacement_ordered {map : List Anchor} (c : Int) (h : map.Pairwise Below) : (beforePlacement c map).Pairwise Below := by
  unfold beforePlacement
  split
  · split
    · exact h.sublist List.filter_sublist
    · exact List.pairwise_map.mpr h
  · exact h

theorem beforePlacement_settled (c : Int) (map : List Anchor) : AllSettled (beforePlacement c map) := by
  unfold beforePlacement
  split
  · split
    · intro a ha
      simpa using (List.mem_filter.mp ha).2
    · intro a ha
      obtain ⟨b, -, rfl⟩ := List.mem_map.mp ha
      rfl
  next none =>
    intro a ha
    simpa using List.find?_eq_none.mp none a ha

theorem beforePlacement_onTape {map : List Anchor} (c : Int) (h : OnTape map) : OnTape (beforePlacement c map) := by
  unfold beforePlacement
  split
  · split
    · exact fun a ha => h a (List.mem_filter.mp ha).1
    · intro a ha
      obtain ⟨b, hb, rfl⟩ := List.mem_map.mp ha
      exact h b hb
  · exact h

theorem beforePlacement_length (c : Int) (map : List Anchor) : (beforePlacement c map).length ≤ map.length := by
  unfold beforePlacement
  split
  · split
    · exact List.length_filter_le _ _
    · exact (List.length_map _).le
  · exact le_rfl

/-! ## Insertion and cleanup (R18, R19) -/

/-- The anchors below a new one that its cleanup leaves. -/
def lowerPart (r : Anchor) (map : List Anchor) : List Anchor :=
  ((map.filter fun a => decide (a.count ≤ r.count)).reverse.dropWhile fun a => decide (¬ Below a r)).reverse

/-- The anchors above it that the cleanup leaves. -/
def upperPart (r : Anchor) (map : List Anchor) : List Anchor :=
  (map.filter fun a => decide (r.count < a.count)).dropWhile fun a => decide (¬ Below r a)

theorem insertClean_eq (r : Anchor) (map : List Anchor) : insertClean r map = lowerPart r map ++ r :: upperPart r map := rfl

theorem lowerPart_sublist (r : Anchor) (map : List Anchor) :
    (lowerPart r map).Sublist (map.filter fun a => decide (a.count ≤ r.count)) := by
  have := (List.dropWhile_sublist (fun a => decide (¬ Below a r))
    (l := (map.filter fun a => decide (a.count ≤ r.count)).reverse)).reverse
  rwa [List.reverse_reverse] at this

theorem upperPart_sublist (r : Anchor) (map : List Anchor) :
    (upperPart r map).Sublist (map.filter fun a => decide (r.count < a.count)) := List.dropWhile_sublist _

theorem head_dropWhile {α : Type} {q : α → Bool} {l : List α} {a : α} {t : List α} (h : l.dropWhile q = a :: t) : q a = false := by
  have := List.head_dropWhile_not q (by simp [h] : l.dropWhile q ≠ [])
  simpa [h] using this

theorem upperPart_below {r : Anchor} {map : List Anchor} (h : map.Pairwise Below) : ∀ a ∈ upperPart r map, Below r a := by
  have ordered : (upperPart r map).Pairwise Below := (h.sublist List.filter_sublist).sublist (upperPart_sublist r map)
  intro a ha
  cases part : upperPart r map with
  | nil => simp [part] at ha
  | cons b t =>
    have first : Below r b := by simpa using head_dropWhile part
    rw [part] at ha ordered
    rcases List.mem_cons.mp ha with rfl | ha
    · exact first
    · exact first.trans ((List.pairwise_cons.mp ordered).1 a ha)

theorem lowerPart_below {r : Anchor} {map : List Anchor} (h : map.Pairwise Below) : ∀ a ∈ lowerPart r map, Below a r := by
  have ordered : (lowerPart r map).Pairwise Below := (h.sublist List.filter_sublist).sublist (lowerPart_sublist r map)
  intro a ha
  cases part : (map.filter fun a => decide (a.count ≤ r.count)).reverse.dropWhile fun a => decide (¬ Below a r) with
  | nil =>
    rw [lowerPart, part] at ha
    cases ha
  | cons b t =>
    have last : Below b r := by simpa using head_dropWhile part
    rw [lowerPart, part, List.reverse_cons] at ha ordered
    rcases List.mem_append.mp ha with ha | ha
    · exact ((List.pairwise_append.mp ordered).2.2 a ha b List.mem_cons_self).trans last
    · rw [List.mem_singleton.mp ha]
      exact last

theorem insertClean_ordered {r : Anchor} {map : List Anchor} (h : map.Pairwise Below) : (insertClean r map).Pairwise Below := by
  have lower : (lowerPart r map).Pairwise Below := (h.sublist List.filter_sublist).sublist (lowerPart_sublist r map)
  have upper : (upperPart r map).Pairwise Below := (h.sublist List.filter_sublist).sublist (upperPart_sublist r map)
  rw [insertClean_eq]
  refine List.pairwise_append.mpr ⟨lower, List.pairwise_cons.mpr ⟨upperPart_below h, upper⟩, fun a ha b hb => ?_⟩
  rcases List.mem_cons.mp hb with rfl | hb
  · exact lowerPart_below h a ha
  · exact (lowerPart_below h a ha).trans (upperPart_below h b hb)

theorem mem_insertClean {r a : Anchor} {map : List Anchor} (h : a ∈ insertClean r map) : a = r ∨ a ∈ map := by
  rw [insertClean_eq, List.mem_append, List.mem_cons] at h
  rcases h with h | rfl | h
  · exact .inr (List.mem_filter.mp ((lowerPart_sublist r map).mem h)).1
  · exact .inl rfl
  · exact .inr (List.mem_filter.mp ((upperPart_sublist r map).mem h)).1

theorem insertClean_length (r : Anchor) (map : List Anchor) : (insertClean r map).length ≤ map.length + 1 := by
  have lower := (lowerPart_sublist r map).length_le
  have upper := (upperPart_sublist r map).length_le
  have split : (map.filter fun a => decide (a.count ≤ r.count)).length + (map.filter fun a => decide (r.count < a.count)).length =
      map.length := by
    rw [List.length_eq_length_filter_add (l := map) fun a => decide (a.count ≤ r.count)]
    simp only [← not_lt, decide_not, Bool.not_not]
  rw [insertClean_eq, List.length_append, List.length_cons]
  omega

theorem insertClean_live {r : Anchor} {map : List Anchor} (live : r.live = true) (h : AllSettled map) :
    ((insertClean r map).filter fun a => a.live) = [r] := by
  have settled {l : List Anchor} (sub : ∀ a ∈ l, a ∈ map) : (l.filter fun a => a.live) = [] :=
    List.filter_eq_nil_iff.mpr fun a ha => by simp [h a (sub a ha)]
  have lower := settled fun a ha => (List.mem_filter.mp ((lowerPart_sublist r map).mem ha)).1
  have upper := settled fun a ha => (List.mem_filter.mp ((upperPart_sublist r map).mem ha)).1
  rw [insertClean_eq, List.filter_append, List.filter_cons, if_pos live, lower, upper]
  rfl

/-! ## Thinning (R20) -/

theorem interiorGaps_length (map : List Anchor) :
    map.length ≤ (interiorGaps map).length + (map.tail.filter fun a => a.live).length + 2 := by
  fun_induction interiorGaps map with
  | case1 a b c r ih =>
    cases live : b.live with
    | true =>
      simp only [List.tail_cons, List.length_cons, List.filter_cons, live, if_true, List.nil_append] at ih ⊢
      omega
    | false =>
      simp only [List.tail_cons, List.length_cons, List.filter_cons, live, List.length_append] at ih ⊢
      simp only [Bool.false_eq_true, if_false, List.length_cons, List.length_nil] at ih ⊢
      omega
  | case2 map short =>
    match map, short with
    | [], _ => simp
    | [_], _ => simp
    | [_, _], _ => simp
    | a :: b :: c :: r, short => exact absurd rfl (short a b c r)

theorem mem_interiorGaps {map : List Anchor} {p : Int × Int} (h : p ∈ interiorGaps map) :
    ∃ a ∈ map, a.live = false ∧ a.count = p.1 := by
  fun_induction interiorGaps map with
  | case1 a b c r ih =>
    rcases List.mem_append.mp h with h | h
    · split at h
      · cases h
      next live =>
        rw [List.mem_singleton.mp h]
        exact ⟨b, by simp, by simpa using live, rfl⟩
    · obtain ⟨x, hx, rest⟩ := ih h
      exact ⟨x, List.mem_cons_of_mem _ hx, rest⟩
  | case2 map short => cases h

/-- The candidate that thinning takes is one of those given, and there is one where any is given. -/
theorem thinnest_spec {l : List (Int × Int)} (h : l ≠ []) : ∃ p ∈ l, thinnest l = some p.1 := by
  have some_of : ∀ (r : List (Int × Int)) (acc : Int × Int), ∃ p ∈ acc :: r,
      r.foldl (fun acc p =>
        match acc with
        | none => some p
        | some b => if p.2 < b.2 then some p else acc) (some acc) = some p := by
    intro r
    induction r with
    | nil => exact fun acc => ⟨acc, List.mem_cons_self, rfl⟩
    | cons q r ih =>
      intro acc
      obtain ⟨p, hp, eq⟩ := ih (if q.2 < acc.2 then q else acc)
      refine ⟨p, ?_, ?_⟩
      · split at hp <;> simp only [List.mem_cons] at hp ⊢ <;> tauto
      · rw [List.foldl_cons, ← eq]
        dsimp only
        split <;> rfl
  cases l with
  | nil => exact absurd rfl h
  | cons q r =>
    obtain ⟨p, hp, eq⟩ := some_of r q
    exact ⟨p, hp, congrArg (Option.map Prod.fst) eq⟩

/-- Thinning takes out one settled anchor of a map that has grown too long, and nothing otherwise. -/
theorem thin_spec {map : List Anchor} (long : map.length ≤ Config.maxAnchors + 1) (ordered : map.Pairwise Below)
    (live : (map.filter fun a => a.live).length = 1) :
    (thin map).length ≤ Config.maxAnchors ∧ (thin map).Sublist map ∧ ((thin map).filter fun a => a.live).length = 1 := by
  unfold thin
  split
  next fits => exact ⟨fits, .refl _, live⟩
  next grown =>
    have gaps : interiorGaps map ≠ [] := by
      intro none
      have count := interiorGaps_length map
      have tail := ((List.tail_sublist map).filter fun a => a.live).length_le
      rw [none, List.length_nil] at count
      simp only [Config.maxAnchors] at grown
      omega
    obtain ⟨p, hp, chosen⟩ := thinnest_spec gaps
    obtain ⟨a, ha, settled, count⟩ := mem_interiorGaps hp
    rw [chosen]
    dsimp only
    refine ⟨?_, List.filter_sublist, ?_⟩
    · have : (map.filter fun b => decide (b.count ≠ p.1)).length < map.length :=
        List.length_filter_lt_length_iff_exists.mpr ⟨a, ha, by simp [count]⟩
      omega
    · rw [← live, List.filter_filter]
      congr 1
      refine List.filter_congr fun b hb => ?_
      by_cases same : b.count = p.1
      · have : b = a := by
          rcases pairwise_or ordered hb ha with e | lt | lt
          · exact e
          · exact absurd lt.2.1 (by rw [same, count]; exact lt_irrefl _)
          · exact absurd lt.2.1 (by rw [same, count]; exact lt_irrefl _)
        rw [this, settled]
        rfl
      · simp [same]

/-! ## A placement -/

/-- The law of a map (R12). -/
abbrev MapOk (map : List Anchor) : Prop :=
  map.length ≤ Config.maxAnchors ∧ MapOrdered map ∧ (map ≠ [] → (map.filter fun a => a.live).length = 1) ∧ OnTape map

theorem placeAnchor_ok {r : Anchor} {map : List Anchor} (h : MapOk map) (live : r.live = true)
    (tape : 0 ≤ r.ticks ∧ r.ticks ≤ 104857500) : MapOk (placeAnchor r map) := by
  obtain ⟨room, chain, -, onTape⟩ := h
  have ordered := insertClean_ordered (r := r) (beforePlacement_ordered r.count (mapOrdered_iff.mp chain))
  have one := insertClean_live live (beforePlacement_settled r.count map)
  have length := insertClean_length r (beforePlacement r.count map)
  have length' := beforePlacement_length r.count map
  obtain ⟨room', sub, one'⟩ := thin_spec (by omega) ordered (by rw [one]; rfl)
  refine ⟨room', mapOrdered_iff.mpr (ordered.sublist sub), fun _ => one', fun a ha => ?_⟩
  rcases mem_insertClean (sub.mem ha) with rfl | ha
  · exact tape
  · exact beforePlacement_onTape r.count onTape a ha

theorem readAnchor_ok {r : TapeRead} (h : r.block ≤ Config.maxBlock) : MapOk [readAnchor r] := by
  refine ⟨by simp [Config.maxAnchors], .singleton _, fun _ => rfl, fun a ha => ?_⟩
  rw [List.mem_singleton.mp ha]
  simp only [readAnchor, Config.maxBlock] at h ⊢
  omega

end Sys2Proof.Machine
end

section
/-!
TrackerKept: roller counts, address reads and the clearing of the tracker keep the laws of the card (chapter 1).
-/

namespace Sys2Proof.Machine

open Sys2Proof.Safety

section
variable (s : State)

/-! ## The roller counter (R3) -/

theorem stepCounter_bounds (d : Dir) {c : Int} (h : Config.counterMin ≤ c ∧ c ≤ Config.counterMax) :
    Config.counterMin ≤ stepCounter d c ∧ stepCounter d c ≤ Config.counterMax := by
  unfold stepCounter
  cases d with
  | forward =>
    dsimp only
    split <;> omega
  | reverse =>
    dsimp only
    split <;> omega

/-- The tracker with the loaded reel as it is. -/
theorem lawful_onTracker (f : Tracker → Tracker) (loaded : (f s.tracker).loaded = s.tracker.loaded)
    (counter : CounterLaw s → CounterLaw (s.onTracker f)) (map : MapOk s.tracker.map → MapOk (f s.tracker).map)
    (reel : (s.tracker.map ≠ [] → s.tracker.loaded ≠ none) → (f s.tracker).map ≠ [] → s.tracker.loaded ≠ none) :
    Lawful s (s.onTracker f) := by
  have tag : loadedTag (s.onTracker f) = loadedTag s := congrArg (Option.map ReelId.tag) loaded
  refine ⟨⟨id, id, id, id, map, id, id, counter, id, fun l => ?_⟩, fun l => ?_⟩
  · obtain ⟨table, known, saved⟩ := markLaw_iff.mp l
    refine markLaw_iff.mpr ⟨?_, fun h => ?_, saved⟩
    · rw [tag, spb_congr loaded]
      exact table
    · rw [State.onTracker_tracker, loaded]
      exact reel known h
  · exact armedLaw_congr (s := s) (t := s.onTracker f) rfl loaded rfl l.2

theorem rollerCount_kept (d : Dir) : Kept s (rollerCount d s) := by
  have counted : Lawful s (servoRoller d (s.onTracker fun t => { t with counter := stepCounter d t.counter })) := by
    refine Lawful.trans (lawful_onTracker s (fun t => { t with counter := stepCounter d t.counter }) rfl
      (stepCounter_bounds d) id id) ?_
    exact (kept_servoFigures _ _ rfl : Kept _ (servoRoller d _)).toLawful
  have motion : (servoRoller d (s.onTracker fun t => { t with counter := stepCounter d t.counter })).motion = s.motion := rfl
  have punch : (servoRoller d (s.onTracker fun t => { t with counter := stepCounter d t.counter })).punch = s.punch := rfl
  unfold rollerCount
  generalize servoRoller d (s.onTracker fun t => { t with counter := stepCounter d t.counter }) = u at counted motion punch ⊢
  by_cases run : InRun u
  · exact positionTest_kept counted run
  · rw [positionTest, if_neg run]
    unfold InRun at run
    rw [motion] at run
    refine counted.kept_of_not_run run (fun g => ?_) fun m => ?_
    · unfold GateOn at g ⊢
      rwa [punch] at g
    · unfold MonitorOn at m ⊢
      rwa [punch] at m

/-! ## Address reads (R8 to R10, R16 to R18, R21) -/

theorem rejectRead_kept : Kept s (rejectRead s) := by
  unfold rejectRead
  split
  · exact (kept_onTracker s _ rfl).trans (raiseIf_kept _ _ _)
  · exact .refl s

/-- A re-evaluation either judges the gates or leaves modes and lines alone. -/
theorem reevaluate_judges : (GateLaw (reevaluate s) ∧ MonitorLaw (reevaluate s)) ∨
    ((reevaluate s).motion = s.motion ∧ (reevaluate s).punch = s.punch) := by
  unfold reevaluate
  rw [settlePairs_eq, deliver_eq]
  split
  · exact .inr (by simp)
  · exact .inl ⟨gateGuard_gateLaw _, gateGuard_monitorLaw _⟩

/-- A changed map handed on, whatever the estimate now is. -/
theorem handOn_kept {s u : State} (r : TapeRead) (h : Lawful s u) (motion : u.motion = s.motion) (punch : u.punch = s.punch) :
    Kept s (handOn r u) := by
  have settled := h.trans (reevaluate_kept u).toLawful
  refine Kept.trans (t := blockEdge r.block (reevaluate u)) ?_ (phaseEvent_kept _ _)
  by_cases run : InRun (reevaluate u)
  · exact blockEdge_kept _ settled run
  · rw [blockEdge, if_neg run]
    rcases reevaluate_judges u with ⟨gates, monitors⟩ | ⟨motion', punch'⟩
    · exact { settled with gate := fun _ => gates, monitor := fun _ => monitors }
    · have away : ¬ InRun s := by
        unfold InRun at run ⊢
        rwa [motion', motion] at run
      refine settled.kept_of_not_run away (fun g => ?_) fun m => ?_
      · unfold GateOn at g ⊢
        rwa [punch', punch] at g
      · unfold MonitorOn at m ⊢
        rwa [punch', punch] at m

theorem placed_lawful (reel : s.tracker.loaded ≠ none) (j : Option Jump) (g : List Anchor → List Anchor)
    (ok : MapOk s.tracker.map → MapOk (g s.tracker.map)) : Lawful s (s.onTracker fun t => { t with jump := j, map := g t.map }) :=
  lawful_onTracker s _ rfl (fun l => l) ok fun _ _ => reel

variable (r : TapeRead) (block : r.block ≤ Config.maxBlock)
include block

theorem freshRead_kept (reel : s.tracker.loaded ≠ none) : Kept s (freshRead r s) := by
  unfold freshRead
  split
  · exact kept_onTracker s _ rfl
  · have placed := placed_lawful s reel s.tracker.jump (placeAnchor (readAnchor r)) fun h =>
      placeAnchor_ok h rfl ((readAnchor_ok block).2.2.2 _ List.mem_cons_self)
    exact handOn_kept r placed rfl rfl

theorem rebase_kept (reel : s.tracker.loaded ≠ none) : Kept s (rebase r s) := by
  have placed := placed_lawful s reel none (fun _ => [readAnchor r]) fun _ => readAnchor_ok block
  unfold rebase
  exact handOn_kept r (placed.trans (raise_kept _ _).toLawful) rfl rfl

theorem acceptRead_kept (reel : s.tracker.loaded ≠ none) : Kept s (acceptRead r s) := by
  have noted : Kept s (s.onTracker fun t => { t with rejects := 0 }) := kept_onTracker s _ rfl
  refine noted.trans ?_
  unfold acceptRead
  dsimp only
  split
  · split
    · exact rebase_kept _ r block reel
    · exact (kept_onTracker _ _ rfl).trans (freshRead_kept _ r block reel)
  · exact freshRead_kept _ r block reel

end

section
variable (s : State)

theorem adoptReel_kept (absent : s.tracker.loaded = none) (id : ReelId) : Kept s (adoptReel id s) := by
  have known := ((claim_kept absent id).trans (identifyTarget_kept _)).trans (raise_kept _ .reelIdentified)
  unfold adoptReel
  dsimp only
  split
  · exact known.trans (spbChanged_kept _)
  · exact known

theorem adoptReel_loaded (id : ReelId) : (adoptReel id s).tracker.loaded = some id := by
  unfold adoptReel
  dsimp only
  split <;> simp

theorem identifyRead_kept (r : TapeRead) (block : r.block ≤ Config.maxBlock) (absent : s.tracker.loaded = none) :
    Kept s (identifyRead r s) := by
  unfold identifyRead
  split
  · refine (adoptReel_kept s absent _).trans (acceptRead_kept _ r block ?_)
    rw [adoptReel_loaded]
    simp
  · exact (kept_onTracker s _ rfl).trans (rejectRead_kept _)

theorem addressRead_kept (r : TapeRead) : Kept s (addressRead r s) := by
  have stamped : Kept s (s.onCapstan fun c => { c with timebase := r.time }) := kept_reference s _ rfl
  refine stamped.trans ?_
  unfold addressRead
  dsimp only
  generalize (s.onCapstan fun c => { c with timebase := r.time }) = s
  split
  next good =>
    obtain ⟨-, -, -, block⟩ := good
    split
    next absent => exact identifyRead_kept s r block absent
    next id loaded =>
      split
      · exact acceptRead_kept s r block (by rw [loaded]; simp)
      · exact rejectRead_kept s
  · exact rejectRead_kept s

end

end Sys2Proof.Machine
end

section
/-!
UpdateKept: the profile update keeps the laws of the card (R58 and what it calls for), with what unthread clears.
-/

namespace Sys2Proof.Machine

open Sys2Proof.Safety

section
variable (s : State)

/-! ## The phases of a locate (R90 to R97) -/

theorem settle_kept (c : LocCtx) : Kept s (settle c s) := by
  unfold settle
  split
  · exact setLoc_kept s _
  · exact .refl s

theorem closeIn_kept (c : LocCtx) : Kept s (closeIn c s) := by
  have entered := toApproach_kept s c
  unfold closeIn
  dsimp only
  split
  · exact entered.trans (settle_kept _ _)
  · exact entered

theorem searchPhase_kept (c : LocCtx) : Kept s (searchPhase c s) := by
  unfold searchPhase
  split
  · split
    · exact closeIn_kept s c
    · exact toLocateRun_kept s c
  · split
    · exact (endLocate_kept s _).trans (enterStopping_kept _ _)
    · exact .refl s

theorem runPhase_kept (c : LocCtx) : Kept s (runPhase c s) := by
  unfold runPhase
  split
  · exact closeIn_kept s c
  · exact .refl s

theorem approachPhase_kept (c : LocCtx) : Kept s (approachPhase c s) := by
  unfold approachPhase
  split
  · exact toLocateRun_kept s c
  · exact settle_kept s c

theorem creepPhase_kept (c : LocCtx) : Kept s (creepPhase c s) := by
  unfold creepPhase
  split
  · exact toLocateRun_kept s c
  · split
    · split
      · exact setLoc_kept s _
      · exact .refl s
    · exact .refl s

theorem holdPhase_kept (c : LocCtx) : Kept s (holdPhase c s) := by
  unfold holdPhase
  split
  · exact toLocateRun_kept s c
  · split
    · exact (endLocate_kept s _).trans (enterStoppedFull_kept _)
    · exact setLoc_kept s _

theorem phaseTests_kept : Kept s (phaseTests s) := by
  unfold phaseTests
  split
  · exact searchPhase_kept s _
  · exact runPhase_kept s _
  · exact approachPhase_kept s _
  · exact creepPhase_kept s _
  · exact holdPhase_kept s _
  · exact .refl s

/-! ## The speed command (R58, R75, R76) -/

theorem isqrtInt_nonneg (x : Int) : 0 ≤ isqrtInt x := Int.natCast_nonneg _

theorem capMag_le {cap v : Int} (h : 0 ≤ cap) : mag (capMag cap v) ≤ cap := by
  rw [mag_le_iff]
  exact clampInt_bounds (by omega) v

/-- A cap makes no magnitude greater. -/
theorem capMag_shrinks {cap v c : Int} (h : 0 ≤ cap) (k : mag v ≤ c) : mag (capMag cap v) ≤ c := by
  rw [mag_le_iff] at k ⊢
  unfold capMag clampInt
  omega

theorem endZoneCap_shrinks {v c : Int} (d : Dir) (k : mag v ≤ c) : mag (endZoneCap s d v) ≤ c := by
  unfold endZoneCap
  split
  · exact capMag_shrinks (by norm_num) k
  · split
    · exact capMag_shrinks (isqrtInt_nonneg _) k
    · exact k

theorem applyCaps_bounds (w v : Int) : mag (applyCaps s w v) ≤ ((activeProfile s).windMax : Int) * 100 ∧
    (s.motion.liftersUp = false → mag (applyCaps s w v) ≤ Config.headContact) := by
  have wind : mag (capMag (((activeProfile s).windMax : Int) * 100) v) ≤ ((activeProfile s).windMax : Int) * 100 :=
    capMag_le (by omega)
  have contact {u c : Int} (k : mag u ≤ c) : mag (if s.motion.liftersUp then u else capMag Config.headContact u) ≤ c := by
    split
    · exact k
    · exact capMag_shrinks (by norm_num [Config.headContact]) k
  have zone {u c : Int} (k : mag u ≤ c) : mag (match directionOf u w with
      | some d => endZoneCap s d u
      | none => u) ≤ c := by
    split
    · exact endZoneCap_shrinks s _ k
    · exact k
  have zero {u c : Int} (k : mag u ≤ c) : mag (if zeroCap s then 0 else u) ≤ c := by
    split
    · have : 0 ≤ mag u := by unfold mag; split <;> omega
      have : mag 0 = 0 := rfl
      omega
    · exact k
  refine ⟨zero (zone (contact wind)), fun down => zero (zone ?_)⟩
  rw [down]
  exact capMag_le (by norm_num [Config.headContact])

theorem nextSpeed_law : mag (nextSpeed s) ≤ ((activeProfile s).windMax : Int) * 100 ∧
    (s.motion.liftersUp = false → mag (nextSpeed s) ≤ Config.headContact) ∧ (Parked s → nextSpeed s = 0) := by
  unfold nextSpeed
  split
  · exact ⟨by simp [mag], fun _ => by simp [mag, Config.headContact], fun _ => rfl⟩
  next moving =>
    obtain ⟨wind, contact⟩ := applyCaps_bounds s (wantedSpeed s) (ramped s (wantedSpeed s))
    refine ⟨wind, contact, fun parked => absurd ?_ moving⟩
    rcases parked with h | h <;> rw [h] <;> rfl

theorem noteDirection_kept : Kept s (noteDirection s) := by
  unfold noteDirection
  split
  · split
    · exact setLoc_kept s _
    · exact .refl s
  · exact .refl s

/-- Noting the direction changes the locate context at most. -/
theorem noteDirection_eq : ∃ l, noteDirection s = s.onMotion fun x => { x with loc := l } := by
  unfold noteDirection
  split
  · split
    · exact ⟨_, rfl⟩
    · exact ⟨s.motion.loc, rfl⟩
  · exact ⟨s.motion.loc, rfl⟩

theorem lowerLifters_kept : Kept s (lowerLifters s) := by
  unfold lowerLifters
  split
  next low =>
    obtain ⟨row, -, speed⟩ := low
    refine ⟨⟨⟨id, fun l => ?_, fun l r => ?_, id, id, id, id, id, id, id⟩, And.right⟩, id, id⟩
    · exact ⟨l.1, fun _ => speed, l.2.2⟩
    · obtain ⟨pinch, brakes, -⟩ := l r
      refine ⟨pinch, brakes, fun up => ?_⟩
      rw [State.onMotion_motion, row] at up
      cases up
  · exact .refl s

theorem formSpeed_kept : Kept s (formSpeed s) := by
  unfold formSpeed
  refine Kept.trans (Kept.trans (noteDirection_kept s) (kept_speed _ (fun x => { x with vCmd := nextSpeed s }) ⟨_, rfl⟩ fun _ => ?_))
    ((noteDirection_kept _).trans (lowerLifters_kept _))
  obtain ⟨l, same⟩ := noteDirection_eq s
  rw [same]
  exact nextSpeed_law s

/-! ## Tape ends (R61) -/

theorem noteEnd_kept (d : Dir) : Kept s (noteEnd d s) := (kept_onMotion s _ rfl).trans (raise_kept _ _)

theorem tapeEnd_kept : Kept s (tapeEnd s) := by
  unfold tapeEnd
  split
  · exact kept_onMotion s _ rfl
  · split
    · exact .refl s
    · split
      · exact ((noteEnd_kept s _).trans (endLocate_kept _ _)).trans (enterStopping_kept _ _)
      · split
        · exact noteEnd_kept s _
        · exact .refl s

theorem speedPart_kept : Kept s (speedPart s) := ((phaseTests_kept s).trans (formSpeed_kept _)).trans (tapeEnd_kept _)

/-! At rest the update forms a speed command of 0. -/

theorem phaseTests_of_rest {s : State} (h : s.motion.mode.atRest = true) : phaseTests s = s := by
  unfold phaseTests
  split <;> simp_all [Mode.atRest]

theorem lowerLifters_vCmd : (lowerLifters s).motion.vCmd = s.motion.vCmd := by
  unfold lowerLifters
  split <;> rfl

theorem noteDirection_vCmd : (noteDirection s).motion.vCmd = s.motion.vCmd := by
  obtain ⟨l, same⟩ := noteDirection_eq s
  rw [same]
  rfl

theorem formSpeed_vCmd : (formSpeed s).motion.vCmd = nextSpeed s := by
  unfold formSpeed
  rw [lowerLifters_vCmd, noteDirection_vCmd]
  rfl

theorem tapeEnd_vCmd : (tapeEnd s).motion.vCmd = s.motion.vCmd := by
  have ended (r : LocEnd) (s : State) : (endLocate r s).motion.vCmd = s.motion.vCmd := by
    unfold endLocate
    split <;> rfl
  unfold tapeEnd
  split
  · rfl
  · split
    · rfl
    · split
      · rw [enterStopping, State.onMotion_motion, enterMode_motion]
        exact ended _ _
      · split <;> rfl

theorem speedPart_vCmd_of_rest {s : State} (h : s.motion.mode.atRest = true) : (speedPart s).motion.vCmd = 0 := by
  rw [speedPart, phaseTests_of_rest h, tapeEnd_vCmd, formSpeed_vCmd, nextSpeed, if_pos h]

end

end Sys2Proof.Machine
end

section
/-!
Stripped: what unthread and a warm reset leave of the mark table (R53): the claimed marks from 1 up, FIRM.
-/

namespace Sys2Proof.Machine

open Sys2Proof.Safety

/-! ## Slots freed one after another -/

section
variable {t : MarkTable}

theorem slotGet_freedTable (n k : Nat) (t : MarkTable) : slotGet n (freedTable k t) =
    if n = k then none
    else if linkOf k t = some n then (slotGet n t).map fun m => { m with partner := none } else slotGet n t := by
  unfold freedTable
  rw [slotGet_slotDrop, slotGet_unlinkedTable]
  by_cases h : n = k <;> simp [h, LinkSet]

theorem freedTable_broken_link (law : LinkLaw t) (k : Nat) : LinkLaw (freedTable k t) := (freedTable_broken t k).link law

/-- Freeing a slot leaves a mark of another slot in place, but for its partner; under the law of links, with its partner. -/
theorem freedTable_other {n k : Nat} {m : Mark} (hm : slotGet n t = some m) (ne : n ≠ k) :
    (∃ p, slotGet n (freedTable k t) = some { m with partner := p }) ∧
    (LinkLaw t → m.partner ≠ some k → slotGet n (freedTable k t) = some m) := by
  rw [slotGet_freedTable, if_neg ne]
  refine ⟨?_, fun law away => ?_⟩
  · split
    · exact ⟨none, by rw [hm]; rfl⟩
    · exact ⟨m.partner, hm⟩
  · split
    next linked =>
      obtain ⟨x, hx, partner⟩ := linkOf_eq_some.mp linked
      obtain ⟨o, ho, back, -⟩ := law.linked hx partner
      rw [hm] at ho
      cases ho
      exact absurd back away
    · exact hm

/-- A mark left after slots are freed stood there before, and its slot is none of them. -/
theorem foldl_freedTable_origin {ks : List Nat} {n : Nat} {m : Mark}
    (h : slotGet n (ks.foldl (fun t k => freedTable k t) t) = some m) :
    n ∉ ks ∧ ∃ p, ∃ x, slotGet n t = some x ∧ m = { x with partner := p } := by
  induction ks generalizing t with
  | nil => exact ⟨by simp, m.partner, m, h, rfl⟩
  | cons k r ih =>
    obtain ⟨away, p, x, hx, rfl⟩ := ih h
    rw [slotGet_freedTable] at hx
    split at hx
    · cases hx
    next ne =>
      refine ⟨by simp [ne, away], p, ?_⟩
      split at hx
      · obtain ⟨y, hy, rfl⟩ := Option.map_eq_some_iff.mp hx
        exact ⟨y, hy, rfl⟩
      · exact ⟨x, hx, rfl⟩

theorem foldl_freedTable_other {ks : List Nat} {n : Nat} {m : Mark} (hm : slotGet n t = some m) (away : n ∉ ks) :
    (∃ p, slotGet n (ks.foldl (fun t k => freedTable k t) t) = some { m with partner := p }) ∧
    (LinkLaw t → (∀ k ∈ ks, m.partner ≠ some k) → slotGet n (ks.foldl (fun t k => freedTable k t) t) = some m) := by
  induction ks generalizing t m with
  | nil => exact ⟨⟨m.partner, hm⟩, fun _ _ => hm⟩
  | cons k r ih =>
    obtain ⟨ne, away⟩ := not_or.mp (List.mem_cons.not.mp away)
    obtain ⟨⟨p, hp⟩, same⟩ := freedTable_other hm ne
    refine ⟨(ih hp away).1, fun law free => ?_⟩
    exact (ih (same law (free k List.mem_cons_self)) away).2 (freedTable_broken_link law k)
      fun j hj => free j (List.mem_cons_of_mem _ hj)

theorem foldl_freedTable_link {ks : List Nat} (law : LinkLaw t) : LinkLaw (ks.foldl (fun t k => freedTable k t) t) :=
  List.foldlRecOn (motive := LinkLaw) ks _ law fun _ h k _ => freedTable_broken_link h k

theorem foldl_freedTable_formed {ks : List Nat} (h : Formed t) : Formed (ks.foldl (fun t k => freedTable k t) t) :=
  List.foldlRecOn (motive := Formed) ks _ h fun t h k _ => (freedTable_broken t k).formed h

/-! ## The table after unthread -/

/-- The numbers of the unclaimed marks. -/
def unclaimed (t : MarkTable) : List Nat := (t.filter fun p => p.2.tag = none).map Prod.fst

/-- The table without the unclaimed marks and slot 0, every mark FIRM. -/
def strippedTable (t : MarkTable) : MarkTable :=
  freedTable 0 ((unclaimed t).foldl (fun t k => freedTable k t) (slotMap (fun _ m => freeze m) t))

theorem strippedTable_eq_foldl (t : MarkTable) :
    strippedTable t = (unclaimed t ++ [0]).foldl (fun t k => freedTable k t) (slotMap (fun _ m => freeze m) t) := by
  rw [List.foldl_append]
  rfl

theorem mem_unclaimed {n : Nat} {m : Mark} (h : slotGet n t = some m) (free : m.tag = none) : n ∈ unclaimed t :=
  List.mem_map.mpr ⟨(n, m), List.mem_filter.mpr ⟨slotGet_mem h, decide_eq_true free⟩, rfl⟩

theorem claimed_of_not_mem (rising : Rising t) {n : Nat} {m : Mark} (h : slotGet n t = some m) (claimed : m.tag ≠ none) :
    n ∉ unclaimed t := by
  intro mem
  obtain ⟨⟨k, x⟩, hx, rfl⟩ := List.mem_map.mp mem
  obtain ⟨hx, free⟩ := List.mem_filter.mp hx
  rw [(slotGet_iff_mem rising).mpr hx] at h
  cases h
  exact claimed (of_decide_eq_true free)

theorem strippedTable_get {n : Nat} {m : Mark} (h : slotGet n (strippedTable t) = some m) :
    n ≠ 0 ∧ m.tag ≠ none ∧ m.standing = .firm := by
  rw [strippedTable_eq_foldl] at h
  obtain ⟨away, p, x, hx, rfl⟩ := foldl_freedTable_origin h
  rw [slotGet_slotMap] at hx
  obtain ⟨y, hy, rfl⟩ := Option.map_eq_some_iff.mp hx
  simp only [List.mem_append, List.mem_singleton, not_or] at away
  exact ⟨away.2, fun free => away.1 (mem_unclaimed hy free), rfl⟩

theorem strippedTable_keeps (rising : Rising t) {n : Nat} {m : Mark} (low : n ≠ 0) (h : slotGet n t = some m)
    (claimed : m.tag ≠ none) : ∃ p, slotGet n (strippedTable t) = some { m with standing := .firm, partner := p } ∧
      (LinkLaw t → p = m.partner) := by
  have away : n ∉ unclaimed t ++ [0] := by
    simp only [List.mem_append, List.mem_singleton, not_or]
    exact ⟨claimed_of_not_mem rising h claimed, low⟩
  have frozen : slotGet n (slotMap (fun _ m => freeze m) t) = some (freeze m) := by
    rw [slotGet_slotMap, h]
    rfl
  rw [strippedTable_eq_foldl]
  obtain ⟨⟨p, hp⟩, same⟩ := foldl_freedTable_other frozen away
  refine ⟨p, hp, fun law => ?_⟩
  have kept := same (law.map freeze (fun _ => rfl) fun _ _ h => h) fun k hk partner => by
    obtain ⟨o, ho, back, tag, -⟩ := law.linked h partner
    rcases List.mem_append.mp hk with hk | hk
    · exact claimed_of_not_mem rising ho (tag ▸ claimed) hk
    · rw [List.mem_singleton.mp hk] at ho
      rw [(law.zero ho).2.2] at back
      cases back
  rw [hp] at kept
  exact congrArg Mark.partner (Option.some.inj kept)

theorem strippedTable_formed (h : Formed t) : Formed (strippedTable t) := by
  rw [strippedTable_eq_foldl]
  exact foldl_freedTable_formed (h.map _)

/-- No mark left is unclaimed, so none is current while no reel is loaded. -/
theorem strippedTable_law (law : LinkLaw t) (spb : Nat) : TableLaw [] (strippedTable t) none spb := by
  have link : LinkLaw (strippedTable t) := by
    rw [strippedTable_eq_foldl]
    exact foldl_freedTable_link (law.map freeze (fun _ => rfl) fun _ _ h => h)
  refine { link with order := fun hm ht _ _ => absurd ht (strippedTable_get hm).2.1, provisional := fun hm hv => ?_ }
  simp [Mark.isProvisional, (strippedTable_get hm).2.2] at hv

end

/-! ## Unthread processing (R53) and the tracker cleared (R22) -/

section
variable (s : State)

theorem foldl_freeSlot_eq (ks : List Nat) (f : MarkTable → MarkTable) :
    ks.foldl (fun s n => freeSlot n s) (s.onMarks f) =
      s.onMarks fun t => ks.foldl (fun t k => freedTable k t) (f t) := by
  induction ks generalizing f with
  | nil => rfl
  | cons k r ih =>
    rw [List.foldl_cons, freeSlot_eq]
    exact ih fun t => freedTable k (f t)

theorem unthreadMarks_eq : unthreadMarks s =
    raiseIf (decide (unclaimed s.marks ≠ [])) .marksLost (s.onMarks fun _ => strippedTable s.marks) := by
  unfold unthreadMarks
  dsimp only
  rw [foldl_freeSlot_eq, freeSlot_eq]
  unfold raiseIf unclaimed
  split <;> rfl

/-- The tracker without reel, map and counts. -/
def clearedTracker : Tracker := { counter := 0, map := [], jump := none, loaded := none, candidate := none, rejects := 0 }

theorem clearTracker_eq : clearTracker s =
    if spb s = 480 then s.onTracker fun _ => clearedTracker else spbChanged (s.onTracker fun _ => clearedTracker) := by
  unfold clearTracker
  have new : spb (s.onTracker fun _ => clearedTracker) = 480 := rfl
  change (if spb (s.onTracker fun _ => clearedTracker) ≠ spb s then spbChanged (s.onTracker fun _ => clearedTracker)
    else s.onTracker fun _ => clearedTracker) = _
  rw [new]
  by_cases h : spb s = 480
  · rw [if_pos h, if_neg (by simp [h])]
  · rw [if_neg h, if_pos (Ne.symm h)]

theorem counterLaw_zero : Config.counterMin ≤ 0 ∧ 0 ≤ Config.counterMax := by
  simp [Config.counterMin, Config.counterMax]

/-- The tape's own data gone: marks stripped and the tracker cleared. -/
theorem clearTracker_loose : Loose s (clearTracker (unthreadMarks s)) := by
  have stripped : Loose s ((unthreadMarks s).onTracker fun _ => clearedTracker) := by
    rw [unthreadMarks_eq]
    refine Loose.trans (t := (s.onMarks fun _ => strippedTable s.marks).onTracker fun _ => clearedTracker) ?_ ?_
    · refine ⟨id, id, id, id, fun _ => ?_, fun l => ?_, id, fun _ => ?_, id, fun l => ?_⟩
      · exact ⟨by simp [clearedTracker], .nil, fun h => absurd rfl h, fun a ha => by cases ha⟩
      · obtain ⟨rising, bound⟩ := strippedTable_formed (formed_of_tableForm l)
        exact ⟨rising, bound, l.2.2⟩
      · exact counterLaw_zero
      · obtain ⟨table, -, saved⟩ := markLaw_iff.mp l
        exact markLaw_iff.mpr ⟨strippedTable_law table.toLinkLaw _, fun h => absurd rfl h, saved⟩
    · unfold raiseIf
      split
      · exact (raise_kept ((s.onMarks fun _ => strippedTable s.marks).onTracker fun _ => clearedTracker) .marksLost).toLoose
      · exact .refl _
  rw [clearTracker_eq]
  split
  · exact stripped
  · exact stripped.trans (spbChanged_kept _).toLoose

/-- With the armed list emptied and every line off, what broke the armed list's law and the gates' laws is mended. -/
theorem clearPunch_kept {s u : State} (h : Loose s u) (f : Punch → Punch) (entries : (f u.punch).entries = [])
    (off : (f u.punch).gateA = false ∧ (f u.punch).gateB = false ∧ (f u.punch).monA = false ∧ (f u.punch).monB = false) :
    Kept s (u.onPunch f) := by
  obtain ⟨gateA, gateB, monA, monB⟩ := off
  refine Lawful.kept_of_off { h.trans ⟨id, id, id, id, id, id, id, id, id, id⟩ with armed := fun _ => ?_ } ?_ ?_
  · unfold ArmedLaw
    rw [State.onPunch_punch, entries]
    exact ⟨Nat.zero_le _, Nat.zero_le _, .nil, fun e he => by cases he⟩
  · simp [GateOn, gateA, gateB]
  · simp [MonitorOn, monA, monB]

theorem unthreadTape_kept (h : s.motion.vCmd = 0) : Kept s (unthreadTape s) := by
  have cleared : Kept s (recomputeZones (clearPunch (clearTracker (unthreadMarks s)))) :=
    clearPunch_kept (clearTracker_loose s)
      (fun p => { p with gateA := false, gateB := false, monA := false, monB := false, offset := 0, entries := [], manual := .off
                         zones := zonesOf (clearPunch (clearTracker (unthreadMarks s))) }) rfl ⟨rfl, rfl, rfl, rfl⟩
  unfold unthreadTape
  refine (cleared.trans (enterMode_kept _ _ fun _ => ?_)).trans (kept_standstill _
    (fun x => { x with leader := none, vCmd := 0, tapeTimer := 0, idle := 0, rampK := 0, engageTimer := 0, held := none, loc := none })
    ?_)
  · simp [h]
  · rfl

theorem threadTape_kept (h : s.motion.vCmd = 0) (mode : s.motion.mode = .empty) : Kept s (threadTape s) := by
  have zeroed : Lawful s (s.onTracker fun t => { t with counter := 0 }) :=
    lawful_onTracker s _ rfl (fun _ => counterLaw_zero) id id
  exact (zeroed.kept_of_not_run (by simp [InRun, mode]) id id).trans (enterReleased_kept _ h)

end

end Sys2Proof.Machine
end

section
/-!
LawsKept: the ends of the modes, the resets, and so every act of the card keep its laws; the obligations on those laws.
-/

namespace Sys2Proof.Machine

open Sys2Proof.Safety

section
variable (s : State)

/-! ## The timers and counts that end a mode (R60 to R69, R78, R93) -/

theorem emptyUpdate_kept (h : s.motion.vCmd = 0) (mode : s.motion.mode = .empty) : Kept s (emptyUpdate s) := by
  unfold emptyUpdate
  dsimp only
  split
  · exact threadTape_kept s h mode
  · exact kept_onMotion s _ rfl

theorem releasedUpdate_kept (h : s.motion.vCmd = 0) : Kept s (releasedUpdate s) := by
  unfold releasedUpdate
  dsimp only
  split
  · exact unthreadTape_kept s h
  · exact kept_onMotion s _ rfl

/-- The ramp of an update of ENGAGING (R63). -/
def engageRamp (s : State) : State :=
  s.onMotion fun x => { x with
    rampK := min 200 (s.motion.rampK + 1), engageTimer := x.engageTimer + 1
    setpoint := ((activeProfile s).tPlay : Int) * (min 200 (s.motion.rampK + 1) : Nat) / 200 }

/-- With the ramp-complete flag at its end. -/
def engageRamped (s : State) : State :=
  if min 200 (s.motion.rampK + 1) = 200 then (engageRamp s).onServo fun v => { v with rampDone := true } else engageRamp s

theorem engagingUpdate_eq : engagingUpdate s =
    if 3000 ≤ (engageRamped s).motion.engageTimer then faultReport .engageTimeout (engageRamped s) else engageRamped s := rfl

theorem engagingUpdate_kept : Kept s (engagingUpdate s) := by
  have ramped : Kept s (engageRamped s) := by
    have ramp : Kept s (engageRamp s) := kept_onMotion s _ rfl
    unfold engageRamped
    split
    · exact ramp.trans (kept_servoFigures _ _ rfl)
    · exact ramp
  rw [engagingUpdate_eq]
  split
  · exact ramped.trans (faultReport_kept _ _)
  · exact ramped

theorem easeLevel_kept : Kept s (easeLevel s) :=
  (enterMode_kept (.stopped .eased) s (by simp)).trans (kept_onMotion _ _ rfl)

theorem stoppedUpdate_kept : Kept s (stoppedUpdate s) := by
  unfold stoppedUpdate
  dsimp only
  split
  · exact .refl s
  · split
    · exact easeLevel_kept s
    · exact kept_onMotion s _ rfl

theorem restoreEnd_kept : Kept s (restoreEnd s) := by
  have full : Kept s ((enterStoppedFull s).onMotion fun x => { x with held := none, restoreK := 0 }) :=
    (enterStoppedFull_kept s).trans (kept_onMotion _ _ rfl)
  unfold restoreEnd
  dsimp only
  split
  · exact full.trans (beginHeld_kept _ _)
  · exact full

theorem restoreUpdate_kept : Kept s (restoreUpdate s) := by
  unfold restoreUpdate
  dsimp only
  split
  · exact (kept_onMotion s _ rfl).trans (restoreEnd_kept _)
  · exact kept_onMotion s _ rfl

theorem entryUpdate_kept : Kept s (entryUpdate s) := by
  unfold entryUpdate
  split
  · split
    · exact (enterMode_kept (.play .run) s (by simp)).trans (kept_onMotion _ _ rfl)
    · exact kept_onMotion s _ rfl
  · exact kept_onMotion s _ rfl

theorem stoppingUpdate_kept (k : StopKind) : Kept s (stoppingUpdate k s) := by
  unfold stoppingUpdate
  split
  · cases k with
    | normal => exact (enterStoppedFull_kept s).trans (kept_onMotion _ _ rfl)
    | safe => exact (enterReleasing_kept s).trans (kept_onMotion _ _ rfl)
  · exact kept_onMotion s _ rfl

theorem creepRun_kept (c : LocCtx) : Kept s (creepRun c s) := by
  unfold creepRun
  dsimp only
  split
  · exact ((setLoc_kept s _).trans (endLocate_kept _ _)).trans (enterStoppedFull_kept _)
  · exact (setLoc_kept s _).trans (enterMode_kept (.locate .creep) _ (by simp))

theorem arrive_kept (c : LocCtx) : Kept s (arrive c s) := by
  unfold arrive
  split
  · exact (endLocate_kept s _).trans (enterStoppedFull_kept _)
  · exact ((endLocate_kept s _).trans (enterPlay_kept _)).trans (captureReturn_kept _)
  · exact (setLoc_kept s _).trans (enterMode_kept (.locate .hold) _ (by simp))

theorem arrivalTest_kept (c : LocCtx) : Kept s (arrivalTest c s) := by
  have counted : Kept s (s.onMotion fun x => { x with still := 0 }) := kept_onMotion s _ rfl
  refine counted.trans ?_
  unfold arrivalTest
  dsimp only
  split
  · exact arrive_kept _ c
  · exact creepRun_kept _ c

theorem settledUpdate_kept : Kept s (settledUpdate s) := by
  unfold settledUpdate
  split
  · split
    · exact arrivalTest_kept s _
    · exact kept_onMotion s _ rfl
  · exact .refl s

/-- The ramp of an update of RELEASING (R64). -/
def releaseRamp (s : State) : State :=
  s.onMotion fun x => { x with
    releaseK := s.motion.releaseK + 1
    setpoint := x.releaseStart - x.releaseStart * ((s.motion.releaseK + 1 : Nat) : Int) / 500 }

theorem releasingUpdate_eq : releasingUpdate s =
    if 500 ≤ s.motion.releaseK + 1 then (enterReleased (releaseRamp s)).onMotion fun x => { x with setpoint := 0, releaseK := 0 }
    else releaseRamp s := rfl

theorem releasingUpdate_kept (h : s.motion.vCmd = 0) : Kept s (releasingUpdate s) := by
  have ramp : Kept s (releaseRamp s) := kept_onMotion s _ rfl
  rw [releasingUpdate_eq]
  split
  · exact (ramp.trans (enterReleased_kept _ h)).trans (kept_onMotion _ _ rfl)
  · exact ramp

theorem haltingUpdate_kept (h : s.motion.vCmd = 0) : Kept s (haltingUpdate s) := by
  unfold haltingUpdate
  dsimp only
  generalize (if mag s.servo.vMeas < 100 then s.motion.haltStill + 1 else 0) = slow
  split
  · exact (enterReleased_kept s h).trans (kept_onMotion _ _ rfl)
  · exact kept_onMotion s _ rfl

theorem modeTests_kept (h : s.motion.mode.atRest = true → s.motion.vCmd = 0) : Kept s (modeTests s) := by
  unfold modeTests
  split
  next mode => exact emptyUpdate_kept s (h (by rw [mode]; rfl)) mode
  next mode => exact releasedUpdate_kept s (h (by rw [mode]; rfl))
  next => exact engagingUpdate_kept s
  next => exact stoppedUpdate_kept s
  next => exact restoreUpdate_kept s
  next => exact .refl s
  next => exact entryUpdate_kept s
  next => exact settledUpdate_kept s
  next => exact settledUpdate_kept s
  next => exact stoppingUpdate_kept s _
  next mode => exact releasingUpdate_kept s (h (by rw [mode]; rfl))
  next mode => exact haltingUpdate_kept s (h (by rw [mode]; rfl))
  next => exact .refl s

theorem profileUpdate_kept : Kept s (profileUpdate s) := by
  have formed := speedPart_kept s
  unfold profileUpdate
  dsimp only
  split
  next same =>
    refine (formed.trans (modeTests_kept _ fun rest => ?_)).trans (lowerLifters_kept _)
    exact speedPart_vCmd_of_rest (same ▸ rest)
  · exact formed.trans (lowerLifters_kept _)

/-! ## Resets (R192, R199) -/

theorem gateGuard_of_noRecording {s : State} (h : NoRecording s) : gateGuard s = s := by
  obtain ⟨gates, monitors, manual⟩ := h
  have kept : ¬ GateLost s := fun l => gates l.1
  have kept' : ¬ MonitorLost s := fun l => monitors l.1
  unfold gateGuard
  dsimp only
  rw [if_neg kept, if_neg kept', dropPending, manual]

theorem referenceTurned_eq {s : State} (h : NoRecording s) :
    referenceTurned s = driveCapstan ((unlockCapstan s).onCapstan fun c => { c with correction := 0 }) :=
  gateGuard_of_noRecording (s := driveCapstan ((unlockCapstan s).onCapstan fun c => { c with correction := 0 })) h

theorem referenceTurned_punch {s : State} (h : NoRecording s) : (referenceTurned s).punch = s.punch := by
  rw [referenceTurned_eq h]
  rfl

theorem moveRefState_punch {s : State} (r : RefState) (h : NoRecording s) : (moveRefState r s).punch = s.punch := by
  unfold moveRefState
  split
  · rfl
  · split
    · exact referenceTurned_punch h
    · rfl

theorem warmPunch_kept {s u : State} (h : Loose s u) : Kept s (warmPunch u) :=
  clearPunch_kept h
    (fun p => { p with gateA := false, gateB := false, monA := false, monB := false, offset := 0, entries := [], manual := .off
                       permit := p.permitPin, last := none
                       zones := zonesOf ((clearPunch u).onPunch fun p => { p with permit := p.permitPin, last := none }) })
    rfl ⟨rfl, rfl, rfl, rfl⟩

theorem warmServo_kept : Kept s (warmServo s) := by
  refine ((kept_onServo s _ fun l => ?_).trans (midpointRadii_kept _ _)).trans (restartWindow_kept _)
  have zero (p : Profile) : mag 0 ≤ (p.torque : Int) := by simp [mag]
  exact ⟨zero _, zero _, fun _ => ⟨rfl, rfl, rfl⟩⟩

theorem warmCapstan_lawful : Lawful s (warmCapstan s) := by
  have moved : Kept s (if s.capstan.refState = .internal then s else moveRefState .qualifying s) := by
    split
    · exact .refl s
    · exact moveRefState_kept s _
  unfold warmCapstan
  dsimp only
  exact (moved.trans (restartQualification_kept _)).toLawful.trans (driven_lawful _ _ fun _ _ => ⟨rfl, rfl, rfl, rfl⟩)

theorem warmCapstan_punch {s : State} (h : NoRecording s) : (warmCapstan s).punch = s.punch := by
  have turned : (warmCapstan s).punch = (if s.capstan.refState = .internal then s else moveRefState .qualifying s).punch := rfl
  rw [turned]
  split
  · rfl
  · exact moveRefState_punch .qualifying h

theorem warmLink_kept : Kept s (warmLink s) :=
  kept_onLink s _ (fun l => ⟨l.1, l.2.1, .nil, fun p hp => by cases hp⟩) fun l => ⟨by simp, l.2⟩

theorem warmMonitor_kept : Kept s (warmMonitor s) :=
  kept_onMonitor s (fun _ => { faults := [], reel2 := 0, reel3 := 0, overload := 0, lowCount := 0
                               supplyLow := false, due := none })
    fun _ => ⟨.nil, fun r hr => by cases hr⟩

theorem warmMotion_kept : Kept s (warmMotion s) :=
  kept_standstill s (fun x => { x with
    vCmd := 0, tapeTimer := 0, leader := none, idle := 0, rampK := 0, engageTimer := 0, held := none, loc := none, result := none })
    rfl

/-- The blocks that a warm reset clears before it turns the capstan. -/
def warmBlocks (s : State) : State := warmServo (warmMotion (warmMonitor (warmPunch (clearTracker (unthreadMarks (warmLink s))))))

theorem warmReset_eq (s : State) : warmReset s = warmCapstan (warmBlocks s) := rfl

theorem warmBlocks_kept : Kept s (warmBlocks s) :=
  (((warmPunch_kept ((warmLink_kept s).toLoose.trans (clearTracker_loose (warmLink s)))).trans (warmMonitor_kept _)).trans
    (warmMotion_kept _)).trans (warmServo_kept _)

theorem warmBlocks_punch (s : State) : (warmBlocks s).punch = (warmPunch (clearTracker (unthreadMarks (warmLink s)))).punch := rfl

theorem warmBlocks_quiet (s : State) : NoRecording (warmBlocks s) := by
  unfold NoRecording GateOn MonitorOn
  rw [warmBlocks_punch]
  simp [warmPunch, clearPunch, recomputeZones]

theorem warmReset_kept : Kept s (warmReset s) := by
  rw [warmReset_eq]
  have quiet := warmBlocks_quiet s
  have lawful := (warmBlocks_kept s).toLawful.trans (warmCapstan_lawful (warmBlocks s))
  refine lawful.kept_of_off ?_ ?_
  · unfold GateOn
    rw [warmCapstan_punch quiet]
    exact quiet.1
  · unfold MonitorOn
    rw [warmCapstan_punch quiet]
    exact quiet.2.1

theorem coldStart_kept : Kept s (coldStart s) := by
  have lawful : Lawful s (coldStart s) := by
    refine ⟨⟨fun l => ?_, fun l => ⟨l.1, fun down => Bool.noConfusion down, l.2.2⟩, fun _ running => Bool.noConfusion running,
      fun _ running => Bool.noConfusion running, id, id, id, fun _ => counterLaw_zero, id, fun l => ?_⟩, And.right⟩
    · have zero (p : Profile) : mag 0 ≤ (p.torque : Int) := by simp [mag]
      exact ⟨zero _, zero _, fun _ => ⟨rfl, rfl, rfl⟩⟩
    · obtain ⟨table, map, user, -⟩ := markLaw_iff.mp l
      exact markLaw_iff.mpr ⟨table, map, user, fun v hv => by cases hv⟩
  exact lawful.kept_of_off (by simp [GateOn, coldStart]) (by simp [MonitorOn, coldStart])

end

/-! ## Start-up (R54, R177, R199) -/

/-- One saved mark placed. -/
def loadMark (t : MarkTable) (p : Nat × Mark) : MarkTable :=
  if 1 ≤ p.1 ∧ p.1 ≤ 99 then slotPut p.1 (savedMark p.2) t else t

theorem loadMarks_eq (l : MarkTable) : loadMarks l = l.foldl loadMark [] := rfl

theorem loadMarks_formed (l : MarkTable) : Formed (loadMarks l) := by
  rw [loadMarks_eq]
  refine List.foldlRecOn (motive := Formed) l loadMark ⟨.nil, fun p hp => by cases hp⟩ fun t h p _ => ?_
  unfold loadMark
  split
  next range => exact h.put range.2 _
  · exact h

/-- Each saved mark stands in its slot, FIRM. -/
theorem slotGet_loadMarks {l : MarkTable} (rising : Rising l) (n : Nat) :
    slotGet n (loadMarks l) = if 1 ≤ n ∧ n ≤ 99 then (slotGet n l).map savedMark else none := by
  have fold : ∀ (l : MarkTable) (t : MarkTable), Rising l → slotGet n (l.foldl loadMark t) =
      if 1 ≤ n ∧ n ≤ 99 then ((slotGet n l).map savedMark).or (slotGet n t) else slotGet n t := by
    intro l
    induction l with
    | nil => simp [slotGet]
    | cons p r ih =>
      intro t h
      obtain ⟨k, m⟩ := p
      obtain ⟨first, rest⟩ := rising_cons.mp h
      rw [List.foldl_cons, ih _ rest]
      have put : slotGet n (loadMark t (k, m)) = if 1 ≤ k ∧ k ≤ 99 ∧ n = k then some (savedMark m) else slotGet n t := by
        unfold loadMark
        by_cases range : 1 ≤ k ∧ k ≤ 99
        · by_cases hn : n = k
          · subst hn
            simp [range]
          · simp [range, hn, slotGet_slotPut_other hn]
        · have : ¬ (1 ≤ k ∧ k ≤ 99 ∧ n = k) := fun h => range ⟨h.1, h.2.1⟩
          simp only [range, this, if_false]
      rw [put]
      by_cases hn : n = k
      · subst hn
        have absent : slotGet n r = none := slotGet_eq_none.mpr fun p hp e => absurd (first p hp) (by omega)
        by_cases range : 1 ≤ n ∧ n ≤ 99
        · simp [range, absent, slotGet]
        · have out : (1 ≤ n ∧ n ≤ 99) = False := eq_false range
          simp only [and_true, out, if_false]
      · simp [hn, Ne.symm hn, slotGet]
  rw [loadMarks_eq, fold l [] rising]
  simp [slotGet]

theorem loadMarks_law {l : MarkTable} (saved : SavedTable l) (spb : Nat) : TableLaw [] (loadMarks l) none spb := by
  obtain ⟨linked, claimed⟩ := saved
  have table := linkedTable_iff.mp linked
  have old {n : Nat} {m' : Mark} (h : slotGet n (loadMarks l) = some m') :
      1 ≤ n ∧ n ≤ 99 ∧ ∃ m, slotGet n l = some m ∧ m' = savedMark m := by
    rw [slotGet_loadMarks table.rising] at h
    split at h
    next range =>
      obtain ⟨m, hm, rfl⟩ := Option.map_eq_some_iff.mp h
      exact ⟨range.1, range.2, m, hm, rfl⟩
    · cases h
  refine ⟨⟨(loadMarks_formed l).rising, fun h => (old h).2.1, fun h hq => ?_, fun h => ?_⟩, fun h ht _ _ => ?_, fun h hv => ?_⟩
  · obtain ⟨-, -, m, hm, rfl⟩ := old h
    obtain ⟨o, ho, back, tag, kinds⟩ := table.linked hm hq
    have range := (claimed _ (slotGet_mem ho)).1
    have bound := table.bound ho
    refine ⟨savedMark o, ?_, back, tag, kinds⟩
    rw [slotGet_loadMarks table.rising, if_pos ⟨Nat.one_le_iff_ne_zero.mpr range, bound⟩, ho]
    rfl
  · obtain ⟨low, -⟩ := old h
    omega
  · obtain ⟨-, -, m, hm, rfl⟩ := old h
    exact absurd ht (claimed _ (slotGet_mem hm)).2
  · obtain ⟨-, -, m, hm, rfl⟩ := old h
    cases hv

theorem bootState_kept (switch : Nat) (s : State) : Kept s (bootState switch s) := by
  have marks : (bootState switch s).marks = if s.store.user.valid then loadMarks s.store.user.image.marks else [] := rfl
  have lawful : Lawful s (bootState switch s) := by
    refine ⟨⟨fun _ => ?_, fun _ => ?_, fun _ _ => ⟨rfl, rfl, fun _ => rfl⟩, fun _ _ => ⟨rfl, rfl, fun _ => ⟨rfl, rfl, rfl, rfl⟩⟩,
      fun _ => ?_, fun _ => ?_, fun _ => ⟨BitVec.zero_and, BitVec.zero_and⟩, fun _ => counterLaw_zero, fun _ => ⟨.nil, fun r hr => by cases hr⟩,
      fun l => ?_⟩, fun _ => ⟨Nat.zero_le _, Nat.zero_le _, .nil, fun e he => by cases he⟩⟩
    · have zero (p : Profile) : mag 0 ≤ (p.torque : Int) := by simp [mag]
      exact ⟨zero _, zero _, fun _ => ⟨rfl, rfl, rfl⟩⟩
    · have zero (p : Profile) : mag 0 ≤ (p.windMax : Int) * 100 := by simp [mag]
      exact ⟨zero _, fun down => Bool.noConfusion down, fun _ => rfl⟩
    · exact ⟨Nat.zero_le _, .nil, fun h => absurd rfl h, fun a ha => by cases ha⟩
    · have formed : Formed (bootState switch s).marks := by
        rw [marks]
        split
        · exact loadMarks_formed _
        · exact ⟨.nil, fun p hp => by cases hp⟩
      exact ⟨formed.rising, formed.bound, .nil, fun p hp => by cases hp⟩
    · obtain ⟨-, -, user, -⟩ := markLaw_iff.mp l
      refine markLaw_iff.mpr ⟨?_, fun h => absurd rfl h, user, fun v hv => by cases hv⟩
      rw [marks]
      split
      · exact loadMarks_law user _
      · have empty : SavedTable [] := ⟨⟨.nil, by simp, by simp [Linked], by simp⟩, by simp⟩
        exact loadMarks_law empty _
  exact lawful.kept_of_off (by rintro (h | h) <;> cases h) (by rintro (h | h) <;> cases h)

/-! ## Every act -/

theorem linkChange_kept (s : State) {f : Link → Link} (h : LinkChange s.link (f s.link)) : Kept s (s.onLink f) := by
  obtain ⟨-, summary, mask, retry⟩ := h
  refine kept_onLink s f (fun l => ?_) fun l => ?_
  · obtain ⟨rising, bound, order, stations⟩ := l
    rcases retry with same | ⟨k, e, station, put⟩
    · unfold TableForm
      rw [State.onLink_link, same]
      exact ⟨rising, bound, order, stations⟩
    · unfold TableForm
      rw [State.onLink_link, put]
      refine ⟨rising, bound, slotPut_rising order, fun p hp => ?_⟩
      rcases slotPut_mem hp with rfl | hp
      · exact station
      · exact stations p hp
  · unfold SummaryLaw
    rw [State.onLink_link, summary, mask]
    exact l

theorem act_kept {s t : State} (h : Act s t) : Kept s t := by
  cases h with
  | coldStart => exact coldStart_kept s
  | boot switch => exact bootState_kept switch s
  | permitPin present => exact kept_onPunch s _ rfl fun l => l.2
  | permitSeen present => exact (lawful_lines s (fun p => { p with permit := present }) rfl).gateGuard
  | link f h => exact linkChange_kept s h
  | warmReset => exact warmReset_kept s
  | request h => exact carries_kept warmReset_kept h
  | profileUpdate => exact profileUpdate_kept s
  | scanStart => exact scanStart_kept s
  | scanCompletion c => exact scanCompletion_kept s c
  | judgeDue => exact judgeDue_kept s
  | servoComputation => exact servoComputation_kept s
  | rollerCount d => exact rollerCount_kept s d
  | tachometer r d => exact tachometer_kept s r d
  | addressRead r => exact addressRead_kept s r
  | internalEdge => exact internalEdge_kept s
  | wordClockEdge n => exact wordClockEdge_kept s n
  | silenceTimeout => exact silenceTimeout_kept s
  | startSample high => exact startSample_kept s high
  | saveStageEnd agrees => exact saveStageEnd_kept s agrees

/-! ## The laws kept by every step -/

/-- Settles O6, act by act. -/
theorem driveLawsKept : Obligations.DriveLawsKept :=
  ⟨fun _ _ l h => step_keeps (I := TorqueLaw) (fun _ _ l => l) (fun _ _ a => (act_kept a).torque) l h,
    fun _ _ l h => step_keeps (I := SpeedLaw) (fun _ _ l => l) (fun _ _ a => (act_kept a).speed) l h⟩

/-- Settles O7, act by act. -/
theorem outputLawsKept : Obligations.OutputLawsKept :=
  ⟨fun _ _ l h => step_keeps (I := SolenoidLaw) (fun _ _ l => l) (fun _ _ a => (act_kept a).solenoid) l h,
    fun _ _ l h => step_keeps (I := CapstanLaw) (fun _ _ l => l) (fun _ _ a => (act_kept a).capstan) l h⟩

/-- Settles O8, act by act: what changes a condition is followed by the judgement of R151. -/
theorem recordingLawsKept : Obligations.RecordingLawsKept :=
  ⟨fun _ _ l h => step_keeps (I := GateLaw) (fun _ _ l => l) (fun _ _ a => (act_kept a).gate) l h,
    fun _ _ l h => step_keeps (I := MonitorLaw) (fun _ _ l => l) (fun _ _ a => (act_kept a).monitor) l h⟩

/-- Settles O9, act by act: only a placement and a re-base change the map's anchors. -/
theorem mapLawKept : Obligations.MapLawKept :=
  fun _ _ l h => step_keeps (I := MapLaw) (fun _ _ l => l) (fun _ _ a => (act_kept a).map) l h

/-- Settles O10, act by act: the armed list rests on the marks, so its law is kept together with theirs. -/
theorem markAndArmedLawsKept : Obligations.MarkAndArmedLawsKept :=
  ⟨fun _ _ l h => step_keeps (I := MarkLaw) (fun _ _ l => l) (fun _ _ a => (act_kept a).mark) l h,
    fun _ _ l h => (step_keeps (I := fun s => MarkLaw s ∧ ArmedLaw s) (fun _ _ l => l)
      (fun _ _ a l => ⟨(act_kept a).mark l.1, (act_kept a).armed l⟩) l h).2⟩

/-- Settles O11, act by act. -/
theorem tablesKept : Obligations.TablesKept :=
  ⟨fun _ _ l h => step_keeps (I := TableForm) (fun _ _ l => l) (fun _ _ a => (act_kept a).tables) l h,
    fun _ _ l h => step_keeps (I := SummaryLaw) (fun _ _ l => l) (fun _ _ a => (act_kept a).summary) l h,
    fun _ _ l h => step_keeps (I := CounterLaw) (fun _ _ l => l) (fun _ _ a => (act_kept a).counter) l h⟩

end Sys2Proof.Machine
end

section
/-!
Faults: while a fault is recorded the transport stays in the modes that R195 allows, a locate context exists only in LOCATE
and a held request only during a restore (R66, R83, R195).
-/

namespace Sys2Proof.Machine

open Sys2Proof.Safety

/-- The laws of faults, of locate contexts and of held requests. -/
structure Sound (s : State) : Prop where
  fault : s.monitor.faults ≠ [] → calm s.motion.mode = true
  loc : s.motion.loc ≠ none → isLocate s.motion.mode = true
  held : s.motion.held ≠ none → s.motion.mode = .stopped .restoring

theorem sound_iff {s : State} : Sound s ↔ FaultLaw s ∧ ContextLaw s :=
  ⟨fun h => ⟨h.fault, h.loc, h.held⟩, fun h => ⟨h.1, h.2.1, h.2.2⟩⟩

/-- Mode and fault set stay, and no locate context and no held request appears. -/
structure Steady (s t : State) : Prop where
  mode : t.motion.mode = s.motion.mode
  loc : t.motion.loc ≠ none → s.motion.loc ≠ none
  held : t.motion.held ≠ none → s.motion.held ≠ none
  faults : t.monitor.faults = s.monitor.faults

section
variable {s t u : State}

theorem Steady.refl (s : State) : Steady s s := ⟨rfl, id, id, rfl⟩

theorem Steady.trans (h : Steady s t) (k : Steady t u) : Steady s u :=
  ⟨k.mode.trans h.mode, h.loc ∘ k.loc, h.held ∘ k.held, k.faults.trans h.faults⟩

theorem Steady.of_blocks (motion : t.motion = s.motion) (monitor : t.monitor = s.monitor) : Steady s t :=
  ⟨by rw [motion], by rw [motion]; exact id, by rw [motion]; exact id, by rw [monitor]⟩

theorem Steady.sound (h : Steady s t) (k : Sound s) : Sound t where
  fault f := h.mode ▸ k.fault (h.faults ▸ f)
  loc l := h.mode ▸ k.loc (h.loc l)
  held l := h.mode ▸ k.held (h.held l)

/-- Whatever becomes of the other blocks. -/
theorem Sound.of_blocks (h : Sound s) (motion : t.motion = s.motion) (monitor : t.monitor = s.monitor) : Sound t :=
  (Steady.of_blocks motion monitor).sound h

/-- The counts of the Fault Monitor. -/
theorem Sound.onMonitor (h : Sound s) (f : Monitor → Monitor) (same : (f s.monitor).faults = s.monitor.faults) :
    Sound (s.onMonitor f) :=
  Steady.sound (s := s) ⟨rfl, id, id, same⟩ h

/-- The counts, timers and setpoints of the Motion Controller. -/
theorem steady_onMotion (s : State) (f : Motion → Motion) (mode : (f s.motion).mode = s.motion.mode)
    (loc : (f s.motion).loc = s.motion.loc) (held : (f s.motion).held = s.motion.held) : Steady s (s.onMotion f) :=
  ⟨mode, fun h => loc ▸ h, fun h => held ▸ h, rfl⟩

theorem Sound.noFault (h : Sound s) (k : calm s.motion.mode = false) : s.monitor.faults = [] := by
  by_contra f
  simp [h.fault f] at k

theorem Sound.noLoc (h : Sound s) (k : isLocate s.motion.mode = false) : s.motion.loc = none := by
  by_contra f
  simp [h.loc f] at k

theorem Sound.noHeld (h : Sound s) (k : s.motion.mode ≠ .stopped .restoring) : s.motion.held = none := by
  by_contra f
  exact k (h.held f)

/-- Where a locate is in progress, no fault is recorded and no request held. -/
theorem Sound.of_loc (h : Sound s) {c : LocCtx} (k : s.motion.loc = some c) :
    (∃ p, s.motion.mode = .locate p) ∧ s.monitor.faults = [] ∧ s.motion.held = none := by
  have locate := h.loc (by simp [k])
  cases m : s.motion.mode with
  | locate p => exact ⟨⟨p, rfl⟩, h.noFault (by rw [m]; rfl), h.noHeld (by rw [m]; simp)⟩
  | _ => simp [m, isLocate] at locate

/-! ## Modes entered -/

@[simp] theorem entering_mode (m : Mode) (x : Motion) : (x.entering m).mode = m := rfl
@[simp] theorem entering_loc (m : Mode) (x : Motion) : (x.entering m).loc = x.loc := rfl
@[simp] theorem entering_held (m : Mode) (x : Motion) : (x.entering m).held = x.held := rfl

theorem sound_enterMode {m : Mode} (fault : s.monitor.faults ≠ [] → calm m = true)
    (loc : s.motion.loc ≠ none → isLocate m = true) (held : s.motion.held ≠ none → m = .stopped .restoring) :
    Sound (enterMode m s) :=
  ⟨by simpa using fault, by simpa using loc, by simpa using held⟩

/-- A mode entered where nothing is located or held: from a mode that a fault allows only if the new one is such too. -/
theorem sound_idleMode {m : Mode} (fault : s.monitor.faults = [] ∨ calm m = true) (loc : s.motion.loc = none)
    (held : s.motion.held = none) : Sound (enterMode m s) :=
  sound_enterMode (fun f => fault.resolve_left f) (fun l => absurd loc l) (fun l => absurd held l)

theorem enterStoppedFull_sound (fault : s.monitor.faults = []) (loc : s.motion.loc = none) (held : s.motion.held = none) :
    Sound (enterStoppedFull s) :=
  (steady_onMotion _ _ rfl rfl rfl).sound (sound_idleMode (.inl fault) loc held)

theorem enterStopping_sound (k : StopKind) (fault : s.monitor.faults = [] ∨ k = .safe) (loc : s.motion.loc = none)
    (held : s.motion.held = none) : Sound (enterStopping k s) :=
  (steady_onMotion _ _ rfl rfl rfl).sound (sound_idleMode (fault.imp_right fun h => by rw [h]; rfl) loc held)

theorem enterReleasing_sound (loc : s.motion.loc = none) (held : s.motion.held = none) : Sound (enterReleasing s) := by
  unfold enterReleasing
  exact (steady_onMotion _ _ rfl rfl rfl).sound (sound_idleMode (.inr rfl) loc held)

theorem enterReleased_sound (loc : s.motion.loc = none) (held : s.motion.held = none) : Sound (enterReleased s) :=
  (steady_onMotion _ _ rfl rfl rfl).sound (sound_idleMode (.inr rfl) loc held)

theorem enterPlay_sound (fault : s.monitor.faults = []) (loc : s.motion.loc = none) (held : s.motion.held = none) :
    Sound (enterPlay s) :=
  (steady_onMotion _ _ rfl rfl rfl).sound (sound_idleMode (.inl fault) loc held)

/-! ## The end of a locate and of a held request -/

@[simp] theorem raise_motion (e : Event) (s : State) : (raise e s).motion = s.motion := by simp
@[simp] theorem raise_monitor (e : Event) (s : State) : (raise e s).monitor = s.monitor := by simp

theorem endLocate_steady (r : LocEnd) (s : State) : Steady s (endLocate r s) := by
  unfold endLocate
  split
  · exact ⟨by simp [writeResult], by simp, by simp [writeResult], by simp⟩
  · exact .refl s

@[simp] theorem endLocate_loc (r : LocEnd) (s : State) : (endLocate r s).motion.loc = none := by
  unfold endLocate
  split
  · rfl
  next h => exact h

@[simp] theorem endLocate_held (r : LocEnd) (s : State) : (endLocate r s).motion.held = s.motion.held := by
  unfold endLocate
  split
  · simp [writeResult]
  · rfl

@[simp] theorem endLocate_mode (r : LocEnd) (s : State) : (endLocate r s).motion.mode = s.motion.mode := (endLocate_steady r s).mode

theorem dropHeld_steady (r : LocEnd) (s : State) : Steady s (dropHeld r s) := by
  unfold dropHeld
  split
  · exact ⟨by simp [writeResult], by simp [writeResult], by simp, by simp⟩
  · exact ⟨rfl, id, fun h => absurd rfl h, rfl⟩
  · exact .refl s

@[simp] theorem dropHeld_held (r : LocEnd) (s : State) : (dropHeld r s).motion.held = none := by
  unfold dropHeld
  split
  · rfl
  · rfl
  next h => exact h

@[simp] theorem dropHeld_loc (r : LocEnd) (s : State) : (dropHeld r s).motion.loc = s.motion.loc := by
  unfold dropHeld
  split
  · simp [writeResult]
  · rfl
  · rfl

@[simp] theorem dropHeld_mode (r : LocEnd) (s : State) : (dropHeld r s).motion.mode = s.motion.mode := (dropHeld_steady r s).mode

/-! ## Orders (R77, R78, R194) -/

/-- A safe stop brings the transport to a mode that a fault allows. -/
theorem safeStop_sound (h : ContextLaw s) : Sound (safeStop s) := by
  obtain ⟨loc, held⟩ := h
  have noLoc (k : isLocate s.motion.mode = false) : s.motion.loc = none := by
    by_contra l
    simp [loc l] at k
  have noHeld (k : s.motion.mode ≠ .stopped .restoring) : s.motion.held = none := by
    by_contra l
    exact k (held l)
  unfold safeStop
  split
  next m => exact enterReleasing_sound (noLoc (by rw [m]; rfl)) (noHeld (by rw [m]; simp))
  next l m => exact enterStopping_sound _ (.inr rfl) (by simpa using noLoc (by rw [m]; rfl)) (by simp)
  next p m => exact enterStopping_sound _ (.inr rfl) (noLoc (by rw [m]; rfl)) (noHeld (by rw [m]; simp))
  next m => exact enterStopping_sound _ (.inr rfl) (noLoc (by rw [m]; rfl)) (noHeld (by rw [m]; simp))
  next m => exact enterStopping_sound _ (.inr rfl) (noLoc (by rw [m]; rfl)) (noHeld (by rw [m]; simp))
  next p m => exact enterStopping_sound _ (.inr rfl) (by simp) (by simpa using noHeld (by rw [m]; simp))
  next m => exact sound_idleMode (.inr rfl) (noLoc (by rw [m]; rfl)) (noHeld (by rw [m]; simp))
  next engaging stopped play cue wind locate stopping =>
    refine ⟨fun _ => ?_, loc, held⟩
    cases m : s.motion.mode with
    | engaging => exact (engaging m).elim
    | stopped l => exact (stopped l m).elim
    | play p => exact (play p m).elim
    | cue => exact (cue m).elim
    | wind => exact (wind m).elim
    | locate p => exact (locate p m).elim
    | stopping k =>
      cases k with
      | normal => exact (stopping m).elim
      | safe => rfl
    | _ => rfl

/-- A halt brings the transport to a mode that a fault allows. -/
theorem haltOrder_sound (h : ContextLaw s) : Sound (haltOrder s) := by
  obtain ⟨loc, held⟩ := h
  unfold haltOrder
  split
  · exact (steady_onMotion _ _ rfl rfl rfl).sound (sound_idleMode (.inr rfl) (by simp) (by simp))
  next drives =>
    refine ⟨fun _ => ?_, loc, held⟩
    cases m : s.motion.mode <;> simp [m, Mode.haltable] at drives <;> rfl

theorem releaseOrder_sound (h : ContextLaw s) (m : s.motion.mode = .engaging) : Sound (releaseOrder s) := by
  obtain ⟨loc, held⟩ := h
  have noLoc : s.motion.loc = none := by
    by_contra l
    simp [m, isLocate] at loc
    exact l loc
  have noHeld : s.motion.held = none := by
    by_contra l
    simp [m] at held
    exact l held
  unfold releaseOrder
  rw [m]
  exact enterReleasing_sound noLoc noHeld

theorem recordFault_motion (c : Cause) (s : State) : (recordFault c s).motion = s.motion := by simp

/-- The report comes with its order, so that the fault it records finds a mode that allows it. ENGAGE_TIMEOUT, whose order acts
in ENGAGING only, is reported only there. -/
theorem faultReport_sound (c : Cause) (h : Sound s) (k : c = .engageTimeout → s.motion.mode = .engaging) :
    Sound (faultReport c s) := by
  have context : ContextLaw (recordFault c s) := by
    unfold ContextLaw
    rw [recordFault_motion]
    exact ⟨h.loc, h.held⟩
  unfold faultReport
  cases c with
  | tensionLoss | speedRunaway | capstanOverload => exact safeStop_sound context
  | armLimit | reelCurrent | supplyLow => exact haltOrder_sound context
  | engageTimeout => exact releaseOrder_sound context (by rw [recordFault_motion]; exact k rfl)

theorem reportIf_sound (b : Bool) (c : Cause) (h : Sound s) (k : c ≠ .engageTimeout) : Sound (reportIf b c s) := by
  unfold reportIf
  split
  · exact faultReport_sound c h fun e => absurd e k
  · exact h

end

end Sys2Proof.Machine
end

section
/-!
FaultActs: every act of the card keeps the laws of faults, of locate contexts and of held requests (R66, R83, R195).
-/

namespace Sys2Proof.Machine

open Sys2Proof.Safety

/-! ## Reports and targets (R84 to R87) -/

/-- What a report leaves the transport in: the laws, the fault set, and the answer it gives a motion request. -/
structure Steered (s t : State) : Prop where
  sound : Sound t
  faults : t.monitor.faults = s.monitor.faults
  gate : motionGate t.motion.mode = motionGate s.motion.mode

section
variable {s t u : State}

theorem Sound.steered (h : Sound s) : Steered s s := ⟨h, rfl, rfl⟩

theorem Steered.trans (h : Steered s t) (k : Steered t u) : Steered s u :=
  ⟨k.sound, k.faults.trans h.faults, k.gate.trans h.gate⟩

theorem Steady.steered (h : Steady s t) (k : Sound s) : Steered s t := ⟨h.sound k, h.faults, by rw [h.mode]⟩

theorem locate_sound (h : Sound s) {p : LocPhase} (m : s.motion.mode = .locate p) (q : LocPhase) (c : LocCtx) :
    Sound (enterMode (.locate q) (setLoc c s)) :=
  sound_enterMode (fun f => absurd (h.noFault (by rw [m]; rfl)) f) (fun _ => rfl)
    fun k => absurd (h.noHeld (by rw [m]; simp)) k

theorem setLoc_sound (h : Sound s) {p : LocPhase} (m : s.motion.mode = .locate p) (c : LocCtx) : Sound (setLoc c s) :=
  ⟨h.fault, fun _ => show isLocate s.motion.mode = true by rw [m]; rfl, h.held⟩

theorem toLocateRun_steered (h : Sound s) {p : LocPhase} (m : s.motion.mode = .locate p) (c : LocCtx) :
    Steered s (toLocateRun c s) :=
  ⟨locate_sound h m _ _, by simp, by simp [toLocateRun, m, motionGate]⟩

theorem toApproach_steered (h : Sound s) {p : LocPhase} (m : s.motion.mode = .locate p) (c : LocCtx) :
    Steered s (toApproach c s) :=
  ⟨(steady_onMotion _ _ rfl rfl rfl).sound (locate_sound h m _ _), by simp, by simp [toApproach, m, motionGate]⟩

theorem setLoc_steered (h : Sound s) {p : LocPhase} (m : s.motion.mode = .locate p) (c : LocCtx) : Steered s (setLoc c s) :=
  ⟨setLoc_sound h m c, rfl, rfl⟩

theorem judgeTarget_steered (h : Sound s) {p : LocPhase} (m : s.motion.mode = .locate p) (c : LocCtx) :
    Steered s (judgeTarget c s) := by
  have run := toLocateRun_steered h m c
  have approach := toApproach_steered h m c
  unfold judgeTarget
  dsimp only
  split
  · split
    · exact run
    · split
      · exact setLoc_steered h m _
      · exact setLoc_steered h m _
  · split
    · exact run
    · split
      · exact approach
      · exact setLoc_steered h m _
  · split
    · exact run
    · split
      · exact approach
      · exact setLoc_steered h m _
  · exact setLoc_steered h m _

theorem reportToLocate_steered (r : Report) (h : Sound s) : Steered s (reportToLocate r s) := by
  unfold reportToLocate
  split
  next c k =>
    obtain ⟨⟨p, m⟩, free, held⟩ := h.of_loc k
    split
    · split
      · exact judgeTarget_steered h m _
      · split
        · refine ⟨enterStopping_sound _ (.inl (by simpa using free)) (by simp) (by simpa using held), by simp, ?_⟩
          simp [enterStopping, m, motionGate]
        · exact h.steered
    · exact h.steered
  · exact h.steered

/-- A held LOCATE formed again. -/
theorem steady_reheld {c : LocCtx} (k : s.motion.held = some (.locate c)) (c' : LocCtx) :
    Steady s (s.onMotion fun x => { x with held := some (.locate c') }) :=
  ⟨rfl, id, fun _ => by simp [k], rfl⟩

theorem reportToHeld_steered (r : Report) (h : Sound s) : Steered s (reportToHeld r s) := by
  unfold reportToHeld
  split
  next c k =>
    split
    · split
      · exact (steady_reheld k _).steered h
      · split
        · exact (dropHeld_steady _ s).steered h
        · exact h.steered
    · exact h.steered
  · exact h.steered

theorem reportsToMotion_steered (rs : List Report) (h : Sound s) : Steered s (rs.foldl reportToMotion s) := by
  induction rs generalizing s with
  | nil => exact h.steered
  | cons r rs ih =>
    have first := (reportToLocate_steered r h).trans (reportToHeld_steered r (reportToLocate_steered r h).sound)
    exact first.trans (ih first.sound)

theorem deliver_steered (rs : List Report) (h : Sound s) : Steered s (deliver rs s) := by
  unfold deliver
  split
  · exact h.steered
  · have told := reportsToMotion_steered rs h
    exact told.trans ((Steady.of_blocks (by simp) (by simp)).steered told.sound)

theorem deliver_after (rs : List Report) (h : Sound s) (k : Steady s t) : Steered s (deliver rs t) :=
  (k.steered h).trans (deliver_steered rs (k.sound h))

theorem captureReturn_steered (h : Sound s) : Steered s (captureReturn s) := by
  unfold captureReturn
  split
  · exact deliver_after _ h (.of_blocks (by simp) (by simp))
  · exact h.steered

theorem settlePairs_sound (tested : List Nat) (rs : List Report) (h : Sound s) (k : Steady s t) :
    Sound (settlePairs tested rs t) := by
  unfold settlePairs
  refine (deliver_steered _ (Steady.sound ?_ h)).sound
  exact k.trans (.of_blocks (by simp) (by simp))

theorem identifyTarget_sound (h : Sound s) : Sound (identifyTarget s) := by
  have located : Sound (identifyLocate s) := by
    unfold identifyLocate
    split
    next c k =>
      obtain ⟨⟨p, m⟩, -⟩ := h.of_loc k
      split
      · exact (judgeTarget_steered h m _).sound
      · exact h
    · exact h
  rw [identifyTarget_eq]
  unfold identifyHeld
  split
  next c k =>
    split
    · exact (steady_reheld k _).sound located
    · exact located
  · exact located

/-! ## Motions begun (R66, R69, R71 to R73, R83) -/

/-- A mode that answers a motion request is none that a fault allows. -/
theorem not_calm_of_gate {m : Mode} (h : motionGate m = .now ∨ motionGate m = .held) : calm m = false := by
  cases m with
  | stopped l => rfl
  | stopping k => cases k <;> simp_all [motionGate, calm]
  | _ => simp_all [motionGate, calm]

theorem not_restoring_of_now {m : Mode} (h : motionGate m = .now) : m ≠ .stopped .restoring := by
  rintro rfl
  cases h

theorem stopped_of_held {m : Mode} (h : motionGate m = .held) : ∃ l, m = .stopped l := by
  cases m with
  | stopped l => exact ⟨l, rfl⟩
  | stopping k => cases k <;> cases h
  | _ => cases h

/-- Where a motion may begin now, no fault is recorded and nothing held. -/
theorem Sound.of_now (h : Sound s) (k : motionGate s.motion.mode = .now) :
    s.monitor.faults = [] ∧ s.motion.held = none :=
  ⟨h.noFault (not_calm_of_gate (.inl k)), h.noHeld (not_restoring_of_now k)⟩

theorem beginPlay_sound (h : Sound s) (k : motionGate s.motion.mode = .now) : Sound (beginPlay s) := by
  obtain ⟨free, held⟩ := h.of_now k
  exact enterPlay_sound (by simpa using free) (by simp) (by simpa using held)

theorem beginCue_sound (w : Int) (h : Sound s) (k : motionGate s.motion.mode = .now) : Sound (beginCue w s) := by
  obtain ⟨free, held⟩ := h.of_now k
  exact (steady_onMotion _ _ rfl rfl rfl).sound (sound_idleMode (.inl (by simpa using free)) (by simp) (by simpa using held))

theorem beginWind_sound (w : Int) (h : Sound s) (k : motionGate s.motion.mode = .now) : Sound (beginWind w s) := by
  obtain ⟨free, held⟩ := h.of_now k
  exact (steady_onMotion _ _ rfl rfl rfl).sound (sound_idleMode (.inl (by simpa using free)) (by simp) (by simpa using held))

theorem beginLocate_sound (c : LocCtx) (h : Sound s) (k : motionGate s.motion.mode = .now) : Sound (beginLocate c s) := by
  obtain ⟨free, held⟩ := h.of_now k
  have entered (p : LocPhase) : Sound (enterMode (.locate p) (setLoc c (endLocate .superseded s))) :=
    sound_enterMode (fun f => absurd (by simpa using free) f) (fun _ => rfl) fun l => absurd (by simpa [setLoc] using held) l
  exact (steady_onMotion _ (fun x => { x with still := 0 }) rfl rfl rfl).sound (entered _)

theorem beginHeld_sound (r : Held) (h : Sound s) (k : motionGate s.motion.mode = .now) : Sound (beginHeld r s) := by
  cases r with
  | play => exact beginPlay_sound h k
  | cue w => exact beginCue_sound w h k
  | wind w => exact beginWind_sound w h k
  | locate c => exact beginLocate_sound _ h k

theorem holdRequest_sound (r : Held) (h : Sound s) (k : motionGate s.motion.mode = .held) : Sound (holdRequest r s) := by
  obtain ⟨l, m⟩ := stopped_of_held k
  have free := h.noFault (not_calm_of_gate (.inr k))
  have loc := h.noLoc (by rw [m]; rfl)
  have restoring : ∀ u : State, u.monitor.faults = [] → u.motion.loc = none → u.motion.mode = .stopped .restoring →
      Sound (u.onMotion fun x => { x with held := some r }) :=
    fun u free loc m => ⟨fun f => absurd free f, fun l => absurd loc l, fun _ => m⟩
  unfold holdRequest
  dsimp only
  split
  next same => exact restoring _ (by simpa using free) (by simpa using loc) same
  · exact restoring _ (by simpa using free) (by simpa using loc) (by simp)

theorem stopEffect_sound (h : Sound s) : Sound (stopEffect s) := by
  unfold stopEffect
  split
  next p m => exact enterStopping_sound _ (.inl (h.noFault (by rw [m]; rfl))) (h.noLoc (by rw [m]; rfl)) (h.noHeld (by rw [m]; simp))
  next m => exact enterStopping_sound _ (.inl (h.noFault (by rw [m]; rfl))) (h.noLoc (by rw [m]; rfl)) (h.noHeld (by rw [m]; simp))
  next m => exact enterStopping_sound _ (.inl (h.noFault (by rw [m]; rfl))) (h.noLoc (by rw [m]; rfl)) (h.noHeld (by rw [m]; simp))
  next p m =>
    exact enterStopping_sound _ (.inl (by simpa using h.noFault (by rw [m]; rfl))) (by simp)
      (by simpa using h.noHeld (by rw [m]; simp))
  · exact (steady_onMotion s _ rfl rfl rfl).sound h
  · exact (dropHeld_steady _ s).sound h
  · exact h

theorem warmReset_sound (s : State) : Sound (warmReset s) :=
  have cleared : (warmReset s).motion.loc = none ∧ (warmReset s).motion.held = none ∧ (warmReset s).monitor.faults = [] := by
    simp [warmReset, warmMotion, warmMonitor]
  ⟨fun f => (f cleared.2.2).elim, fun l => (l cleared.1).elim, fun l => (l cleared.2.1).elim⟩

/-- A block's part of a request. -/
theorem carries_sound (hs : Sound s) (h : Carries s t) : Sound t := by
  cases h with
  | nothing => exact hs
  | engage n mode faults low =>
    have parked := hs.noLoc (by rw [mode]; rfl)
    have nothing := hs.noHeld (by rw [mode]; simp)
    have entered : Sound (enterMode .engaging (s.onStore fun c => { c with active := n })) :=
      sound_idleMode (.inl faults) parked nothing
    have began : Steady (enterMode .engaging (s.onStore fun c => { c with active := n })) (beginEngage n s) := by
      unfold beginEngage
      exact ⟨by simp, by simp, by simp, by simp⟩
    exact began.sound entered
  | releaseStopped l mode =>
    have loc := hs.noLoc (by rw [mode]; rfl)
    refine ⟨fun _ => ?_, fun k => ?_, fun k => absurd (dropHeld_held _ _) k⟩
    · simp [enterReleasing, calm]
    · simp [enterReleasing] at k
      exact absurd loc k
  | releaseEngaging mode => exact enterReleasing_sound (hs.noLoc (by rw [mode]; rfl)) (hs.noHeld (by rw [mode]; simp))
  | stop => exact stopEffect_sound hs
  | playHeld gate =>
    have captured := captureReturn_steered hs
    exact holdRequest_sound _ captured.sound (captured.gate.trans gate)
  | playAgain p mode => exact (captureReturn_steered hs).sound
  | play gate =>
    have captured := captureReturn_steered hs
    exact beginPlay_sound captured.sound (captured.gate.trans gate)
  | hold r gate => exact holdRequest_sound r hs gate
  | cue w gate => exact beginCue_sound w hs gate
  | wind w gate => exact beginWind_sound w hs gate
  | locate c gate => exact beginLocate_sound c hs gate
  | selectInternal => exact hs.of_blocks (by simp) (by simp)
  | selectWordClock => exact hs.of_blocks (by simp) (by simp)
  | faultClear =>
    refine ⟨fun f => hs.fault fun none => f ?_, hs.loc, hs.held⟩
    simp [keptFaults, none]
  | writeMark n m =>
    unfold writeMark
    split
    · exact (deliver_after _ hs (.of_blocks (by simp) (by simp))).sound
    · exact (deliver_after _ hs (.of_blocks (by simp) (by simp))).sound
  | readdress n m m' => exact (deliver_after _ hs (.of_blocks (by simp) (by simp))).sound
  | relabel n m label locked => exact hs.of_blocks (by simp) (by simp)
  | link a b x y => exact (deliver_after _ hs (.of_blocks (by simp) (by simp))).sound
  | unlink n => exact (deliver_after _ hs (.of_blocks (by simp) (by simp))).sound
  | retire ns => exact (deliver_after _ hs (.of_blocks (by simp) (by simp))).sound
  | arm => exact hs.of_blocks rfl rfl
  | disarm n => exact hs.of_blocks (by simp) (by simp)
  | disarmAll => exact hs.of_blocks (by simp) (by simp)
  | safe a b => exact hs.of_blocks (by simp) (by simp)
  | manual m => exact hs.of_blocks rfl rfl
  | profile n p => exact hs.of_blocks (by simp) (by simp)
  | save => exact hs.of_blocks rfl rfl
  | summary => exact hs.of_blocks rfl rfl
  | mask => exact hs.of_blocks rfl rfl
  | poll => exact hs.of_blocks rfl rfl
  | slot => exact hs.of_blocks rfl rfl
  | warmReset => exact warmReset_sound s

/-! ## Scanner and servo (R113 to R115, R126 to R128) -/

theorem judgeChannel_sound (p code : Nat) (h : Sound s) : Sound (judgeChannel p code s) := by
  have count := h.onMonitor
  unfold judgeChannel
  split
  · exact reportIf_sound _ _ (count _ rfl) (by simp)
  · split
    · exact reportIf_sound _ _ (count _ rfl) (by simp)
    · split
      · exact reportIf_sound _ _ (count _ rfl) (by simp)
      · split
        · refine reportIf_sound _ _ (count _ ?_) (by simp)
          unfold supplyAfter
          split
          · split <;> rfl
          · split <;> rfl
        · exact h

theorem judgeDue_sound (h : Sound s) : Sound (judgeDue s) := by
  unfold judgeDue
  split
  · exact judgeChannel_sound _ _ (h.onMonitor _ rfl)
  · exact h

theorem scanCompletion_sound (c : ScanCodes) (h : Sound s) : Sound (scanCompletion c s) := by
  have written : Sound (writeScan c (judgeDue s)) := (judgeDue_sound h).of_blocks (by simp) (by simp)
  unfold scanCompletion
  dsimp only
  split
  · exact written.onMonitor _ rfl
  · exact judgeChannel_sound _ _ written

theorem readyStep_sound (h : Sound s) : Sound (readyStep s) := by
  unfold readyStep
  split
  next m =>
    split
    · exact enterStoppedFull_sound (h.noFault (by rw [m]; rfl)) (h.noLoc (by rw [m]; rfl)) (h.noHeld (by rw [m]; simp))
    · exact h.of_blocks rfl rfl
  · exact h

theorem judgeStep_sound (m : Mode) (h : Sound s) : Sound (judgeStep m s) := by
  unfold judgeStep
  split
  · have judged : Sound (judged s) := h.of_blocks (by simp) (by simp)
    exact reportIf_sound _ _ (reportIf_sound _ _ (reportIf_sound _ _ judged (by simp)) (by simp)) (by simp)
  · exact h.of_blocks (by simp) (by simp)

theorem servoComputation_sound (h : Sound s) : Sound (servoComputation s) :=
  judgeDue_sound (judgeStep_sound _ (readyStep_sound (h.of_blocks (by simp) (by simp))))

/-! ## The profile update (R58 to R97) -/

theorem closeIn_sound (h : Sound s) {p : LocPhase} (m : s.motion.mode = .locate p) (c : LocCtx) : Sound (closeIn c s) := by
  have near := (toApproach_steered h m c).sound
  unfold closeIn
  dsimp only
  split
  next c' k =>
    obtain ⟨⟨q, m'⟩, -⟩ := near.of_loc k
    unfold settle
    split
    · exact setLoc_sound near m' _
    · exact near
  · exact near

theorem phaseTests_sound (h : Sound s) : Sound (phaseTests s) := by
  unfold phaseTests
  split
  next c m k =>
    obtain ⟨-, free, held⟩ := h.of_loc k
    unfold searchPhase
    split
    · split
      · exact closeIn_sound h m c
      · exact (toLocateRun_steered h m c).sound
    · split
      · exact enterStopping_sound _ (.inl (by simpa using free)) (by simp) (by simpa using held)
      · exact h
  next c m k =>
    unfold runPhase
    split
    · exact closeIn_sound h m c
    · exact h
  next c m k =>
    unfold approachPhase settle
    split
    · exact (toLocateRun_steered h m c).sound
    · split
      · exact setLoc_sound h m _
      · exact h
  next c m k =>
    unfold creepPhase
    split
    · exact (toLocateRun_steered h m c).sound
    · split
      · split
        · exact setLoc_sound h m _
        · exact h
      · exact h
  next c m k =>
    obtain ⟨-, free, held⟩ := h.of_loc k
    unfold holdPhase
    split
    · exact (toLocateRun_steered h m c).sound
    · split
      · exact enterStoppedFull_sound (by simpa using free) (by simp) (by simpa using held)
      · exact setLoc_sound h m _
  · exact h

theorem noteDirection_steady (s : State) : Steady s (noteDirection s) := by
  unfold noteDirection
  split
  next k =>
    split
    · exact ⟨rfl, fun _ => by simp [k], id, rfl⟩
    · exact .refl s
  · exact .refl s

theorem lowerLifters_steady (s : State) : Steady s (lowerLifters s) := by
  unfold lowerLifters
  split
  · exact steady_onMotion s _ rfl rfl rfl
  · exact .refl s

theorem formSpeed_steady (s : State) : Steady s (formSpeed s) :=
  (((noteDirection_steady s).trans (steady_onMotion _ _ rfl rfl rfl)).trans (noteDirection_steady _)).trans (lowerLifters_steady _)

theorem noteEnd_steady (d : Dir) (s : State) : Steady s (noteEnd d s) :=
  ⟨by simp [noteEnd], by simp [noteEnd], by simp [noteEnd], by simp⟩

theorem tapeEnd_sound (h : Sound s) : Sound (tapeEnd s) := by
  unfold tapeEnd
  split
  · exact (steady_onMotion s _ rfl rfl rfl).sound h
  · split
    · exact h
    next d _ =>
      have noted := (noteEnd_steady d s).sound h
      have mode := (noteEnd_steady d s).mode
      split
      next runs =>
        have ordinary : calm s.motion.mode = false ∧ s.motion.mode ≠ .stopped .restoring := by
          cases m : s.motion.mode <;> simp [m, Mode.runsTape] at runs <;> simp [calm]
        refine enterStopping_sound _ (.inl ?_) (by simp) ?_
        · simpa using noted.noFault (mode ▸ ordinary.1)
        · simpa using noted.noHeld (mode ▸ ordinary.2)
      · split
        · exact noted
        · exact h

theorem restoreEnd_sound (m : s.motion.mode = .stopped .restoring) (h : Sound s) : Sound (restoreEnd s) := by
  have free := h.noFault (by rw [m]; rfl)
  have loc := h.noLoc (by rw [m]; rfl)
  have full : Sound ((enterStoppedFull s).onMotion fun x => { x with held := none, restoreK := 0 }) := by
    refine ⟨fun f => absurd ?_ f, fun l => absurd ?_ l, fun l => (l rfl).elim⟩
    · simpa using free
    · simpa [enterStoppedFull] using loc
  unfold restoreEnd
  dsimp only
  split
  · exact beginHeld_sound _ full (by simp [enterStoppedFull, motionGate])
  · exact full

theorem creepRun_sound (c : LocCtx) {p : LocPhase} (m : s.motion.mode = .locate p) (h : Sound s) : Sound (creepRun c s) := by
  have free := h.noFault (by rw [m]; rfl)
  have held := h.noHeld (by rw [m]; simp)
  unfold creepRun
  dsimp only
  split
  · exact enterStoppedFull_sound (by simpa using free) (by simp) (by simpa [setLoc] using held)
  · exact locate_sound h m _ _

theorem arrive_sound (c : LocCtx) {p : LocPhase} (m : s.motion.mode = .locate p) (h : Sound s) : Sound (arrive c s) := by
  have free := h.noFault (by rw [m]; rfl)
  have held := h.noHeld (by rw [m]; simp)
  unfold arrive
  split
  · exact enterStoppedFull_sound (by simpa using free) (by simp) (by simpa using held)
  · exact (captureReturn_steered (enterPlay_sound (by simpa using free) (by simp) (by simpa using held))).sound
  · exact locate_sound h m _ _

theorem settledUpdate_sound {p : LocPhase} (m : s.motion.mode = .locate p) (h : Sound s) : Sound (settledUpdate s) := by
  unfold settledUpdate
  split
  · split
    · have still : Sound (s.onMotion fun x => { x with still := 0 }) := (steady_onMotion s _ rfl rfl rfl).sound h
      unfold arrivalTest
      dsimp only
      split
      · exact arrive_sound _ (p := p) m still
      · exact creepRun_sound _ (p := p) m still
    · exact (steady_onMotion s _ rfl rfl rfl).sound h
  · exact h

theorem modeTests_sound (h : Sound s) : Sound (modeTests s) := by
  have counted (f : Motion → Motion) (mode : (f s.motion).mode = s.motion.mode) (loc : (f s.motion).loc = s.motion.loc)
      (held : (f s.motion).held = s.motion.held) : Sound (s.onMotion f) := (steady_onMotion s f mode loc held).sound h
  unfold modeTests
  split
  next m =>
    unfold emptyUpdate
    dsimp only
    split
    · exact enterReleased_sound (h.noLoc (by rw [m]; rfl)) (h.noHeld (by rw [m]; simp))
    · exact counted _ rfl rfl rfl
  next m =>
    unfold releasedUpdate
    dsimp only
    split
    · exact ⟨fun _ => by simp [unthreadTape, calm], fun l => (l rfl).elim, fun l => (l rfl).elim⟩
    · exact counted _ rfl rfl rfl
  next m =>
    have ramp : Steady s (engageRamp s) := steady_onMotion s _ rfl rfl rfl
    have ramped : Steady s (engageRamped s) := by
      unfold engageRamped
      split
      · exact ramp.trans (.of_blocks rfl rfl)
      · exact ramp
    rw [engagingUpdate_eq]
    split
    · exact faultReport_sound _ (ramped.sound h) fun _ => ramped.mode.trans m
    · exact ramped.sound h
  next m =>
    have free := h.noFault (by rw [m]; rfl)
    have loc := h.noLoc (by rw [m]; rfl)
    have held := h.noHeld (by rw [m]; simp)
    unfold stoppedUpdate
    dsimp only
    split
    · exact h
    · split
      · exact (steady_onMotion _ _ rfl rfl rfl).sound (sound_idleMode (.inl free) loc held)
      · exact counted _ rfl rfl rfl
  next m =>
    unfold restoreUpdate
    dsimp only
    split
    · exact restoreEnd_sound m (counted _ rfl rfl rfl)
    · exact counted _ rfl rfl rfl
  · exact h
  next m =>
    have run := sound_idleMode (m := .play .run) (.inl (h.noFault (by rw [m]; rfl))) (h.noLoc (by rw [m]; rfl))
      (h.noHeld (by rw [m]; simp))
    unfold entryUpdate
    split
    · split
      · exact (steady_onMotion _ _ rfl rfl rfl).sound run
      · exact counted _ rfl rfl rfl
    · exact counted _ rfl rfl rfl
  next m => exact settledUpdate_sound m h
  next m => exact settledUpdate_sound m h
  next k m =>
    have loc := h.noLoc (by rw [m]; rfl)
    have held := h.noHeld (by rw [m]; simp)
    unfold stoppingUpdate
    split
    · cases k with
      | normal =>
        exact (steady_onMotion _ _ rfl rfl rfl).sound (enterStoppedFull_sound (h.noFault (by rw [m]; rfl)) loc held)
      | safe => exact (steady_onMotion _ _ rfl rfl rfl).sound (enterReleasing_sound loc held)
    · exact counted _ rfl rfl rfl
  next m =>
    have ramp : Steady s (releaseRamp s) := steady_onMotion s _ rfl rfl rfl
    have ramped := ramp.sound h
    have mode := ramp.mode.trans m
    rw [releasingUpdate_eq]
    split
    · exact (steady_onMotion _ _ rfl rfl rfl).sound
        (enterReleased_sound (ramped.noLoc (by rw [mode]; rfl)) (ramped.noHeld (by rw [mode]; simp)))
    · exact ramped
  next m =>
    unfold haltingUpdate
    dsimp only
    generalize (if mag s.servo.vMeas < 100 then s.motion.haltStill + 1 else 0) = slow
    split
    · exact (steady_onMotion _ (fun x => { x with haltTimer := 0, haltStill := 0 }) rfl rfl rfl).sound
        (enterReleased_sound (h.noLoc (by rw [m]; rfl)) (h.noHeld (by rw [m]; simp)))
    · exact counted _ rfl rfl rfl
  · exact h

theorem profileUpdate_sound (h : Sound s) : Sound (profileUpdate s) := by
  have formed : Sound (speedPart s) := tapeEnd_sound ((formSpeed_steady _).sound (phaseTests_sound h))
  unfold profileUpdate
  dsimp only
  split
  · exact (lowerLifters_steady _).sound (modeTests_sound formed)
  · exact (lowerLifters_steady _).sound formed

/-! ## Reads and START -/

theorem startSample_sound (high : Bool) (h : Sound s) : Sound (startSample high s) := by
  unfold startSample
  split
  · exact h.of_blocks rfl rfl
  · split
    · have sampled : Sound (s.onCapstan fun c =>
          { c with startHigh := false, startCount := 0, startArmed := false, startEdges := (c.startEdges + 1) % 65536 }) :=
        h.of_blocks rfl rfl
      unfold startEdge
      split
      next m =>
        split
        next c k =>
          obtain ⟨-, free, held⟩ := sampled.of_loc k
          exact (captureReturn_steered (enterPlay_sound (by simpa using free) (by simp) (by simpa using held))).sound
        · exact sampled
      · exact sampled
    · exact h.of_blocks rfl rfl

theorem handOn_sound (r : TapeRead) (h : Sound s) : Sound (handOn r s) := by
  have moved : Sound (reevaluate s) := settlePairs_sound _ _ h (.of_blocks (by simp) (by simp))
  exact moved.of_blocks (by simp [handOn]) (by simp [handOn])

theorem acceptRead_sound (r : TapeRead) (h : Sound s) : Sound (acceptRead r s) := by
  have fresh (u : State) (h : Sound u) : Sound (freshRead r u) := by
    unfold freshRead
    split
    · exact h.of_blocks rfl rfl
    · exact handOn_sound r (h.of_blocks rfl rfl)
  unfold acceptRead
  dsimp only
  split
  · split
    · exact handOn_sound r (h.of_blocks (by simp) (by simp))
    · exact fresh _ (h.of_blocks rfl rfl)
  · exact fresh _ (h.of_blocks rfl rfl)

theorem adoptReel_sound (id : ReelId) (h : Sound s) : Sound (adoptReel id s) := by
  have claimed : Sound (claim id.tag (s.onTracker fun t => { t with loaded := some id, candidate := none })) :=
    settlePairs_sound _ _ h (.of_blocks rfl rfl)
  have raised (u : State) (l : Sound u) : Sound (raise .reelIdentified u) := l.of_blocks (by simp) (by simp)
  have known := raised _ (identifyTarget_sound claimed)
  unfold adoptReel
  dsimp only
  split
  · exact known.of_blocks (by simp) (by simp)
  · exact known

theorem addressRead_sound (r : TapeRead) (h : Sound s) : Sound (addressRead r s) := by
  have timed : Sound (s.onCapstan fun c => { c with timebase := r.time }) := h.of_blocks rfl rfl
  have rejected (u : State) (h : Sound u) : Sound (rejectRead u) := h.of_blocks (by simp) (by simp)
  unfold addressRead
  dsimp only
  split
  · split
    · unfold identifyRead
      split
      · exact acceptRead_sound r (adoptReel_sound _ timed)
      · exact rejected _ (timed.of_blocks rfl rfl)
    · split
      · exact acceptRead_sound r timed
      · exact rejected _ timed
  · exact rejected _ timed

/-! ## Every act -/

theorem act_sound (h : Act s t) (l : Sound s) : Sound t := by
  cases h with
  | coldStart => exact Steady.sound (s := s) ⟨rfl, id, id, rfl⟩ l
  | boot switch => exact ⟨fun f => (f rfl).elim, fun k => (k rfl).elim, fun k => (k rfl).elim⟩
  | permitPin present => exact l.of_blocks rfl rfl
  | permitSeen present => exact l.of_blocks (by simp [permitSeen]) (by simp [permitSeen])
  | link f h => exact l.of_blocks rfl rfl
  | warmReset => exact warmReset_sound s
  | request h => exact carries_sound l h
  | profileUpdate => exact profileUpdate_sound l
  | scanStart => exact l.of_blocks (by simp) (by simp)
  | scanCompletion c => exact scanCompletion_sound c l
  | judgeDue => exact judgeDue_sound l
  | servoComputation => exact servoComputation_sound l
  | rollerCount d => exact l.of_blocks (by simp) (by simp)
  | tachometer r d => exact l.of_blocks (by simp) (by simp)
  | addressRead r => exact addressRead_sound r l
  | internalEdge => exact l.of_blocks (by simp) (by simp)
  | wordClockEdge n => exact l.of_blocks (by simp) (by simp)
  | silenceTimeout => exact l.of_blocks (by simp) (by simp)
  | startSample high => exact startSample_sound high l
  | saveStageEnd agrees => exact l.of_blocks (by simp) (by simp)

end

/-- Settles O5, act by act: a fault is recorded together with its order, and no other act leaves a mode that a fault allows
while it stands. -/
theorem faultLawsKept : Obligations.FaultLawsKept :=
  ⟨fun _ _ l h => sound_iff.mp (step_keeps (I := Sound) (fun _ _ l => ⟨l.fault, l.loc, l.held⟩) (fun _ _ a => act_sound a)
      (sound_iff.mpr l) h),
    fun _ _ l h => step_keeps (I := FaultSetForm) (fun _ _ l => l) (fun _ _ a => (act_kept a).faultSet) l h⟩

end Sys2Proof.Machine
end

section
/-!
Steps: the queue, the completion of every command, the rows that name a limit, and the cold start (chapters 0 and 11).
-/

namespace Sys2Proof.Machine

open Sys2Proof.Safety

/-! ## The queue -/

/-- Settles O1: both halves are the two branches of a step. -/
theorem stepTakesFront : Obligations.StepTakesFront := by
  refine ⟨fun c r s h => ?_, fun s h => ?_⟩
  · unfold step
    rw [h]
  · unfold step
    rw [h]

theorem carries_pending {s t : State} (h : Carries s t) : t.pending = s.pending := by
  cases h with
  | writeMark n m => simp
  | disarmAll => exact foldl_keeps State.pending (by simp) _ _
  | _ => simp

theorem act_pending {s t : State} (h : Act s t) : t.pending = s.pending := by
  cases h with
  | request h => exact carries_pending h
  | permitSeen present => simp [permitSeen]
  | coldStart => rfl
  | boot switch => rfl
  | _ => simp

theorem acts_pending {s t : State} (h : Acts s t) : t.pending = s.pending := by
  induction h with
  | refl => rfl
  | tail _ a ih => exact (act_pending a).trans ih

/-- Settles O2: a command is one of the card's events, and none of their acts touches the queue. -/
theorem everyCommandCompletes : Obligations.EveryCommandCompletes := by
  intro i s
  obtain ⟨t, done, does⟩ := exec_does i s
  exact ⟨t, done, acts_pending (does_acts does)⟩

/-! ## Rows that name a limit (log entries 2 and 36) -/

/-- A row that names a limit is its event exactly where the event reaches the limit. -/
theorem live_whenReached {s : State} (running : s.inReset = false) {r : State → State → Bool} {f : State → State} {p : Prop}
    [Decidable p] (h : r s (f s) = true ↔ p) : live (whenReached r f) s = .next (if p then f s else s) := by
  rw [live_of_running running, whenReached]
  simp only [h]

theorem exec_profileUpdate {s : State} (running : s.inReset = false) : exec .profileUpdate s = .next (profileUpdate s) :=
  live_of_running running

theorem exec_servoComputation {s : State} (running : s.inReset = false) : exec .servoComputation s = .next (servoComputation s) :=
  live_of_running running

theorem exec_addressRead {s : State} (running : s.inReset = false) (r : TapeRead) :
    exec (.addressRead r) s = .next (addressRead r s) :=
  live_of_running running

theorem exec_wordClockEdge {s : State} (running : s.inReset = false) (n : Count32) :
    exec (.wordClockEdge n) s = .next (wordClockEdge n s) :=
  live_of_running running

theorem exec_internalEdge {s : State} (running : s.inReset = false) : exec .internalEdge s = .next (internalEdge s) :=
  live_of_running running

theorem exec_edgeInUse {s : State} (running : s.inReset = false) (n : Count32) :
    (if s.capstan.refState = .external then exec (.wordClockEdge n) s else exec .internalEdge s) = .next (edgeInUse n s) := by
  unfold edgeInUse
  split
  · exact exec_wordClockEdge running n
  · exact exec_internalEdge running

section
variable {s : State} (running : s.inReset = false)
include running

theorem updateRows (t : State) (h : exec .profileUpdate s = .next t) :
    exec .thread s = .next (if s.motion.mode = .empty ∧ t.motion.mode = .released then t else s) ∧
    exec .unthread s = .next (if s.motion.mode = .released ∧ t.motion.mode = .empty then t else s) ∧
    exec .rampComplete s = .next
      (if s.motion.mode = .engaging ∧ s.motion.rampK < 200 ∧ t.motion.rampK = 200 then t else s) ∧
    exec .engageTimeout s = .next (if s.motion.mode = .engaging ∧ 3000 ≤ t.motion.engageTimer then t else s) ∧
    exec .ease s = .next (if s.motion.mode = .stopped .full ∧ t.motion.mode = .stopped .eased then t else s) ∧
    exec .restoreComplete s = .next
      (if s.motion.mode = .stopped .restoring ∧ t.motion.mode ≠ .stopped .restoring then t else s) ∧
    exec .releaseRampEnd s = .next (if s.motion.mode = .releasing ∧ t.motion.mode = .released then t else s) ∧
    exec .stationary s = .next (if isStopping s.motion.mode = true ∧ isStopping t.motion.mode = false then t else s) ∧
    exec .haltEnd s = .next (if s.motion.mode = .halting ∧ t.motion.mode = .released then t else s) ∧
    exec .entryToRun s = .next (if s.motion.mode = .play .entry ∧ t.motion.mode = .play .run then t else s) ∧
    exec .searchExhausted s = .next
      (if s.motion.mode = .locate .search ∧ t.motion.mode = .stopping .normal ∧
          t.motion.result.map LocResult.result = some .noAddress then t else s) ∧
    exec .arrivalTest s = .next (if arrivalDue s = true then t else s) ∧
    exec .holdExpiry s = .next (if s.motion.mode = .locate .hold ∧ t.motion.mode = .stopped .full then t else s) := by
  rw [exec_profileUpdate running] at h
  cases h
  refine ⟨live_whenReached running ?_, live_whenReached running ?_, live_whenReached running ?_, live_whenReached running ?_,
    live_whenReached running ?_, live_whenReached running ?_, live_whenReached running ?_, live_whenReached running ?_,
    live_whenReached running ?_, live_whenReached running ?_, live_whenReached running ?_, live_whenReached running ?_,
    live_whenReached running ?_⟩
  case refine_8 => simp [stopEnds]
  case refine_12 => exact Iff.rfl
  all_goals exact decide_eq_true_iff

theorem completionRows (c : ScanCodes) (t : State) (h : exec (.scanCompletion c) s = .next t) :
    let u := judgeDue t
    exec (.reelCurrent c) s = .next
      (if (s.monitor.reel2 = 9 ∧ u.monitor.reel2 = 10) ∨ (s.monitor.reel3 = 9 ∧ u.monitor.reel3 = 10) then u else s) ∧
    exec (.capstanOverload c) s = .next (if s.monitor.overload = 199 ∧ u.monitor.overload = 200 then u else s) ∧
    exec (.supplyLow c) s = .next (if s.monitor.supplyLow = false ∧ u.monitor.supplyLow = true then u else s) := by
  rw [exec_scanCompletion c running] at h
  cases h
  refine ⟨live_whenReached running decide_eq_true_iff, live_whenReached running decide_eq_true_iff,
    live_whenReached running ?_⟩
  simp [lowReached, judgedCompletion]

theorem computationRows (t : State) (h : exec .servoComputation s = .next t) :
    exec .ready s = .next
      (if s.motion.mode = .engaging ∧ s.servo.ready < 50 ∧ 50 ≤ nextReady (servoFigures s).servo then t else s) ∧
    exec .radiusWindow s = .next (if 15 ≤ s.servo.winCount then t else s) ∧
    exec .tensionLoss s = .next (if s.servo.loss < 20 ∧ t.servo.loss = 20 then t else s) ∧
    exec .speedRunaway s = .next (if s.servo.runaway < 10 ∧ t.servo.runaway = 10 then t else s) := by
  rw [exec_servoComputation running] at h
  cases h
  refine ⟨live_whenReached running decide_eq_true_iff, live_whenReached running ?_,
    live_whenReached running decide_eq_true_iff, live_whenReached running decide_eq_true_iff⟩
  simp

theorem readRows (r : TapeRead) (t : State) (h : exec (.addressRead r) s = .next t) :
    exec (.addressDropout r) s = .next (if s.tracker.rejects = 15 ∧ t.tracker.rejects = 16 then t else s) ∧
    exec (.capstanLock r) s = .next (if s.capstan.lock = false ∧ t.capstan.lock = true then t else s) := by
  rw [exec_addressRead running] at h
  cases h
  refine ⟨live_whenReached running decide_eq_true_iff, live_whenReached running ?_⟩
  simp

theorem qualifiedRow (n : Count32) (t : State) (h : exec (.wordClockEdge n) s = .next t) :
    exec (.qualified n) s = .next (if s.capstan.refState ≠ .external ∧ t.capstan.refState = .external then t else s) := by
  rw [exec_wordClockEdge running] at h
  cases h
  exact live_whenReached running decide_eq_true_iff

theorem missedRow (n : Count32) (t : State)
    (h : (if s.capstan.refState = .external then exec (.wordClockEdge n) s else exec .internalEdge s) = .next t) :
    exec (.missedEdges n) s = .next (if s.capstan.missed = 3 ∧ t.capstan.missed = 4 then t else s) := by
  rw [exec_edgeInUse running] at h
  cases h
  exact live_whenReached running decide_eq_true_iff

end

/-- Settles O3, event by event: each row's test is the limit it names. -/
theorem limitRowsAreTheirEvents : Obligations.LimitRowsAreTheirEvents := by
  intro c r n s t running
  exact ⟨updateRows running t, completionRows running c t, computationRows running t, readRows running r t,
    qualifiedRow running n t, missedRow running n t⟩

/-! ## The state right after reset, and the cold start (R199) -/

theorem driveLaws_reset : TorqueLaw State.reset ∧ SpeedLaw State.reset := by decide

theorem outputLaws_reset : SolenoidLaw State.reset ∧ CapstanLaw State.reset := by
  refine ⟨fun _ => ⟨rfl, rfl, fun _ => rfl⟩, fun _ => ⟨rfl, rfl, fun _ => ⟨rfl, rfl, rfl, rfl⟩⟩⟩

theorem recordingLaws_reset : GateLaw State.reset ∧ MonitorLaw State.reset := by
  refine ⟨?_, ?_⟩ <;> rintro (on | on) <;> cases on

theorem mapLaw_reset : MapLaw State.reset :=
  ⟨Nat.zero_le _, .nil, fun h => absurd rfl h, fun a ha => by cases ha⟩

theorem markLaw_reset : MarkLaw State.reset := by
  have linked : LinkedTable [] := ⟨.nil, by simp, by simp [Linked], by simp⟩
  exact ⟨linked, fun p hp => (by cases hp), fun p hp => (by cases hp), fun h => absurd rfl h, ⟨linked, fun p hp => (by cases hp)⟩,
    fun v hv => (by cases hv)⟩

theorem armedLaw_reset : ArmedLaw State.reset :=
  ⟨Nat.zero_le _, Nat.zero_le _, .nil, fun e he => by cases he⟩

/-- Settles O4: at reset there is no tape, no mark, no fault and nothing armed, every line is off and every count 0. -/
theorem lawsAtReset : Obligations.LawsAtReset :=
  ⟨fun f => (f rfl).elim, ⟨fun l => (l rfl).elim, fun h => (h rfl).elim⟩, ⟨.nil, fun r hr => by cases hr⟩, driveLaws_reset.1,
    driveLaws_reset.2, outputLaws_reset.1, outputLaws_reset.2, recordingLaws_reset.1, recordingLaws_reset.2, mapLaw_reset,
    ⟨.nil, fun p hp => (by cases hp), .nil, fun p hp => (by cases hp)⟩, ⟨rfl, rfl⟩, counterLaw_zero, markLaw_reset,
    armedLaw_reset⟩

/-- Settles O18: the outputs that a cold start sets, and the rest as it was. -/
theorem coldStartHoldsSafe : Obligations.ColdStartHoldsSafe :=
  fun _ => ⟨_, rfl, rfl, rfl, rfl, rfl, rfl, rfl, rfl, rfl, rfl, rfl, rfl, rfl, rfl⟩

end Sys2Proof.Machine
end

section
/-!
Updates: what a profile update makes of a transport that stands still, mode by mode (R57, R58, R60 to R68, R78).
-/

namespace Sys2Proof.Machine

open Sys2Proof.Safety

/-! ## Lifters (R57) -/

theorem lowerLifters_eq (s : State) : lowerLifters s = s.onMotion fun x =>
    { x with liftersUp :=
        if s.motion.mode.liftersRow = some false ∧ mag s.servo.vMeas ≤ 40000 ∧ mag s.motion.vCmd ≤ 40000 then false else x.liftersUp } := by
  unfold lowerLifters
  split
  next low =>
    have low : s.motion.mode.liftersRow = some false ∧ mag s.servo.vMeas ≤ 40000 ∧ mag s.motion.vCmd ≤ 40000 := low
    simp only [State.onMotion, if_pos low]
  next high =>
    have high : ¬ (s.motion.mode.liftersRow = some false ∧ mag s.servo.vMeas ≤ 40000 ∧ mag s.motion.vCmd ≤ 40000) := high
    simp only [State.onMotion, if_neg high]

theorem lowerLifters_of_row {s : State} (h : s.motion.mode.liftersRow ≠ some false) : lowerLifters s = s :=
  if_neg fun k => h k.1

theorem lowerLifters_of_mode {s : State} {m : Mode} (mode : s.motion.mode = m) (row : m.liftersRow ≠ some false) :
    lowerLifters s = s :=
  lowerLifters_of_row (mode ▸ row)

theorem lowerLifters_down {s : State} (row : s.motion.mode.liftersRow = some false) (meas : mag s.servo.vMeas ≤ 40000)
    (cmd : mag s.motion.vCmd ≤ 40000) : lowerLifters s = s.onMotion fun x => { x with liftersUp := false } :=
  if_pos ⟨row, meas, cmd⟩

/-! ## The speed formed at a standstill (R58, R61) -/

theorem noteDirection_of_unlocated {s : State} (h : isLocate s.motion.mode = false) : noteDirection s = s := by
  unfold noteDirection
  split
  next m _ => simp [m, isLocate] at h
  · rfl

theorem noteDirection_of_still {s : State} (h : travel s = none) : noteDirection s = s := by
  unfold noteDirection
  split
  · rw [h]
  · rfl

theorem tapeEnd_of_opaque {s : State} (h : s.scanner.optical = .opaqueTape) :
    tapeEnd s = s.onMotion fun x => { x with leader := none } := by
  unfold tapeEnd
  rw [h]

/-- The transport with no speed commanded, after the parts of an update that come before the mode's own timers. -/
def standing (s : State) : State :=
  s.onMotion fun x =>
    { x with
      vCmd := 0
      leader := sideAfter s
      liftersUp := if s.motion.mode.liftersRow = some false ∧ mag s.servo.vMeas ≤ 40000 then false else x.liftersUp }

theorem tapeEnd_of_still {s : State} (h : travel s = none ∨ s.scanner.optical = .opaqueTape) :
    tapeEnd s = s.onMotion fun x => { x with leader := sideAfter s } := by
  cases optical : s.scanner.optical with
  | opaqueTape => rw [tapeEnd_of_opaque optical, sideAfter, if_pos optical]
  | clear =>
    have clear : s.scanner.optical ≠ .opaqueTape := by simp [optical]
    have still := h.resolve_right clear
    unfold tapeEnd
    rw [optical, still, sideAfter, if_neg clear]
    rfl

/-- A state in which nothing travels: the speed is not asked for and none is formed. -/
structure Standstill (s : State) : Prop where
  want : wantedSpeed s = 0
  next : nextSpeed s = 0
  located : isLocate s.motion.mode = true → s.motion.vCmd = 0
  halted : s.motion.mode ≠ .halting ∨ s.scanner.optical = .opaqueTape

theorem travel_of_zero {s : State} (mode : s.motion.mode ≠ .halting) (speed : s.motion.vCmd = 0) (want : wantedSpeed s = 0) :
    travel s = none := by
  unfold travel
  rw [if_neg mode, speed, want]
  rfl

theorem formedSpeed_of_standstill {s : State} (h : Standstill s) : tapeEnd (formSpeed s) = standing s := by
  obtain ⟨want, next, located, halted⟩ := h
  have before : noteDirection s = s := by
    cases l : isLocate s.motion.mode with
    | false => exact noteDirection_of_unlocated l
    | true =>
      refine noteDirection_of_still (travel_of_zero ?_ (located l) want)
      intro halting
      rw [halting] at l
      cases l
  have stopped : noteDirection (s.onMotion fun x => { x with vCmd := nextSpeed s }) = s.onMotion fun x => { x with vCmd := 0 } := by
    rw [next]
    cases l : isLocate s.motion.mode with
    | false => exact noteDirection_of_unlocated l
    | true =>
      refine noteDirection_of_still (travel_of_zero (s := s.onMotion fun x => { x with vCmd := 0 }) ?_ rfl want)
      intro halting
      rw [State.onMotion_motion] at halting
      rw [halting] at l
      cases l
  unfold formSpeed
  rw [before, stopped, lowerLifters_eq, tapeEnd_of_still]
  · have slow : mag 0 ≤ 40000 := by decide
    simp only [State.onMotion, standing, sideAfter, slow, and_true]
  · refine halted.imp (fun mode => ?_) id
    exact travel_of_zero mode rfl want

theorem speedPart_of_standstill {s : State} (h : Standstill (phaseTests s)) : speedPart s = standing (phaseTests s) :=
  formedSpeed_of_standstill h

/-- In the modes at rest, but for a halt that runs out on clear tape, the update finds the transport standing. -/
theorem speedPart_of_rest {s : State} (rest : s.motion.mode.atRest = true)
    (halted : s.motion.mode ≠ .halting ∨ s.scanner.optical = .opaqueTape) : speedPart s = standing s := by
  have same := phaseTests_of_rest rest
  have still : Standstill (phaseTests s) := by
    rw [same]
    refine ⟨?_, if_pos rest, fun locate => ?_, halted⟩
    · cases m : s.motion.mode <;> simp [m, Mode.atRest] at rest <;> simp [wantedSpeed, m]
    · cases m : s.motion.mode <;> simp [m, Mode.atRest] at rest <;> simp [m, isLocate] at locate
  rw [speedPart_of_standstill still, same]

theorem profileUpdate_of_standing {s u : State} (h : speedPart s = standing u) (same : u.motion.mode = s.motion.mode) :
    profileUpdate s = lowerLifters (modeTests (standing u)) := by
  unfold profileUpdate
  dsimp only
  rw [h]
  exact congrArg lowerLifters (if_pos same)

theorem profileUpdate_of_rest {s : State} (rest : s.motion.mode.atRest = true)
    (halted : s.motion.mode ≠ .halting ∨ s.scanner.optical = .opaqueTape) :
    profileUpdate s = lowerLifters (modeTests (standing s)) :=
  profileUpdate_of_standing (speedPart_of_rest rest halted) rfl

/-! ## The timers of each mode -/

section
variable {s : State}

theorem modeTests_of_empty (h : s.motion.mode = .empty) : modeTests s = emptyUpdate s := by unfold modeTests; rw [h]
theorem modeTests_of_released (h : s.motion.mode = .released) : modeTests s = releasedUpdate s := by unfold modeTests; rw [h]
theorem modeTests_of_engaging (h : s.motion.mode = .engaging) : modeTests s = engagingUpdate s := by unfold modeTests; rw [h]
theorem modeTests_of_full (h : s.motion.mode = .stopped .full) : modeTests s = stoppedUpdate s := by unfold modeTests; rw [h]
theorem modeTests_of_eased (h : s.motion.mode = .stopped .eased) : modeTests s = s := by unfold modeTests; rw [h]
theorem modeTests_of_restoring (h : s.motion.mode = .stopped .restoring) : modeTests s = restoreUpdate s := by
  unfold modeTests; rw [h]
theorem modeTests_of_entry (h : s.motion.mode = .play .entry) : modeTests s = entryUpdate s := by unfold modeTests; rw [h]
theorem modeTests_of_approach (h : s.motion.mode = .locate .approach) : modeTests s = settledUpdate s := by
  unfold modeTests; rw [h]
theorem modeTests_of_creep (h : s.motion.mode = .locate .creep) : modeTests s = settledUpdate s := by unfold modeTests; rw [h]
theorem modeTests_of_stopping {k : StopKind} (h : s.motion.mode = .stopping k) : modeTests s = stoppingUpdate k s := by
  unfold modeTests; rw [h]
theorem modeTests_of_releasing (h : s.motion.mode = .releasing) : modeTests s = releasingUpdate s := by unfold modeTests; rw [h]
theorem modeTests_of_halting (h : s.motion.mode = .halting) : modeTests s = haltingUpdate s := by unfold modeTests; rw [h]

end

/-- The transport at rest after an update's first parts, in a mode whose row does not call for the lifters down. -/
def rested (s : State) : State := { s with motion := { s.motion with vCmd := 0, leader := sideAfter s } }

theorem standing_of_row {s : State} (h : s.motion.mode.liftersRow ≠ some false) : standing s = rested s := by
  have row : ¬ (s.motion.mode.liftersRow = some false ∧ mag s.servo.vMeas ≤ 40000) := fun k => h k.1
  simp only [standing, rested, State.onMotion, if_neg row]

/-- The update in a mode at rest, but STOPPED FULL, is the mode's own part. -/
theorem profileUpdate_of_mode {s : State} {m : Mode} (mode : s.motion.mode = m) (rest : m.atRest = true)
    (row : m.liftersRow ≠ some false) (halted : m ≠ .halting ∨ s.scanner.optical = .opaqueTape) :
    profileUpdate s = lowerLifters (modeTests (rested s)) := by
  subst mode
  rw [profileUpdate_of_rest rest halted, standing_of_row row]

/-- A row that names a limit of the update, where this update reaches the limit. -/
theorem exec_updateRow {s t : State} (running : s.inReset = false) {r : State → State → Bool} (update : profileUpdate s = t)
    (reached : r s t = true) : live (whenReached r profileUpdate) s = .next t := by
  rw [live_of_running running, whenReached, update, if_pos reached]

/-! ## The modes at rest, short of their limits (R60, R63 to R66) -/

section
variable {s : State}

theorem profileUpdate_eased (m : s.motion.mode = .stopped .eased) : profileUpdate s = rested s := by
  have same : (rested s).motion.mode = .stopped .eased := m
  rw [profileUpdate_of_mode m rfl (by decide) (.inl (by simp)), modeTests_of_eased same,
    lowerLifters_of_mode same (by decide)]

theorem profileUpdate_empty (m : s.motion.mode = .empty) : profileUpdate s = lowerLifters (emptyUpdate (rested s)) := by
  rw [profileUpdate_of_mode m rfl (by decide) (.inl (by simp)), modeTests_of_empty (s := rested s) m]

theorem profileUpdate_released (m : s.motion.mode = .released) : profileUpdate s = lowerLifters (releasedUpdate (rested s)) := by
  rw [profileUpdate_of_mode m rfl (by decide) (.inl (by simp)), modeTests_of_released (s := rested s) m]

theorem profileUpdate_engaging (m : s.motion.mode = .engaging) : profileUpdate s = lowerLifters (engagingUpdate (rested s)) := by
  rw [profileUpdate_of_mode m rfl (by decide) (.inl (by simp)), modeTests_of_engaging (s := rested s) m]

theorem profileUpdate_restoring (m : s.motion.mode = .stopped .restoring) :
    profileUpdate s = lowerLifters (restoreUpdate (rested s)) := by
  rw [profileUpdate_of_mode m rfl (by decide) (.inl (by simp)), modeTests_of_restoring (s := rested s) m]

theorem profileUpdate_releasing (m : s.motion.mode = .releasing) :
    profileUpdate s = lowerLifters (releasingUpdate (rested s)) := by
  rw [profileUpdate_of_mode m rfl (by decide) (.inl (by simp)), modeTests_of_releasing (s := rested s) m]

theorem profileUpdate_halting (m : s.motion.mode = .halting) (tape : s.scanner.optical = .opaqueTape) :
    profileUpdate s = lowerLifters (haltingUpdate (rested s)) := by
  rw [profileUpdate_of_mode m rfl (by decide) (.inr tape), modeTests_of_halting (s := rested s) m]

theorem profileUpdate_full (m : s.motion.mode = .stopped .full) :
    profileUpdate s = lowerLifters (stoppedUpdate (standing s)) := by
  rw [profileUpdate_of_rest (by rw [m]; rfl) (.inl (by rw [m]; simp)), modeTests_of_full (s := standing s) m]

end

section
variable {s : State}

theorem pathTimer_short {sees : Bool} {t : Nat} (h : t < 499) : pathTimer sees t = if sees = true then t + 1 else 0 := by
  cases sees
  · rfl
  · simp only [pathTimer, if_true]
    omega

theorem emptyUpdate_short (h : s.motion.tapeTimer < 499) : emptyUpdate s = s.onMotion fun x =>
    { x with tapeTimer := if s.scanner.optical = .opaqueTape then x.tapeTimer + 1 else 0 } := by
  have short := pathTimer_short (sees := decide (s.scanner.optical = .opaqueTape)) h
  simp only [decide_eq_true_eq] at short
  have below : ¬ 500 ≤ pathTimer (decide (s.scanner.optical = .opaqueTape)) s.motion.tapeTimer := by
    rw [short]
    split <;> omega
  unfold emptyUpdate
  dsimp only
  rw [if_neg below, short]
  rfl

theorem releasedUpdate_short (h : s.motion.tapeTimer < 499) : releasedUpdate s = s.onMotion fun x =>
    { x with tapeTimer := if s.scanner.optical = .clear then x.tapeTimer + 1 else 0 } := by
  have short := pathTimer_short (sees := decide (s.scanner.optical = .clear)) h
  simp only [decide_eq_true_eq] at short
  have below : ¬ 500 ≤ pathTimer (decide (s.scanner.optical = .clear)) s.motion.tapeTimer := by
    rw [short]
    split <;> omega
  unfold releasedUpdate
  dsimp only
  rw [if_neg below, short]
  rfl

theorem engagingUpdate_short (ramp : s.motion.rampK < 199) (timer : s.motion.engageTimer < 2999) :
    engagingUpdate s = s.onMotion fun x =>
      { x with rampK := x.rampK + 1, engageTimer := x.engageTimer + 1
               setpoint := ((activeProfile s).tPlay : Int) * (x.rampK + 1) / 200 } := by
  have count : min 200 (s.motion.rampK + 1) = s.motion.rampK + 1 := by omega
  have unfinished : ¬ min 200 (s.motion.rampK + 1) = 200 := by omega
  have early : ¬ 3000 ≤ (engageRamp s).motion.engageTimer := by
    have : (engageRamp s).motion.engageTimer = s.motion.engageTimer + 1 := rfl
    omega
  have ramped : engageRamped s = engageRamp s := if_neg unfinished
  rw [engagingUpdate_eq, ramped, if_neg early, engageRamp]
  simp only [count, Nat.cast_add, Nat.cast_one, State.onMotion]

theorem restoreUpdate_short (h : s.motion.restoreK < 249) : restoreUpdate s = s.onMotion fun x =>
    { x with restoreK := x.restoreK + 1
             setpoint := ((activeProfile s).tPlay : Int) / 2 +
               (((activeProfile s).tPlay : Int) - ((activeProfile s).tPlay : Int) / 2) * (x.restoreK + 1) / 250 } := by
  have short : ¬ 250 ≤ s.motion.restoreK + 1 := by omega
  unfold restoreUpdate
  dsimp only
  rw [if_neg short]
  simp only [State.onMotion, Nat.cast_add, Nat.cast_one]

theorem releasingUpdate_short (h : s.motion.releaseK < 499) : releasingUpdate s = s.onMotion fun x =>
    { x with releaseK := x.releaseK + 1, setpoint := x.releaseStart - x.releaseStart * (x.releaseK + 1) / 500 } := by
  have short : ¬ 500 ≤ s.motion.releaseK + 1 := by omega
  unfold releasingUpdate
  dsimp only
  rw [if_neg short]
  simp only [State.onMotion, Nat.cast_add, Nat.cast_one]

theorem stoppedUpdate_short (ease : (activeProfile s).easeTime ≠ 0) (idle : s.motion.idle + 1 < (activeProfile s).easeTime * 1000) :
    stoppedUpdate s = s.onMotion fun x => { x with idle := x.idle + 1 } := by
  have short : ¬ (activeProfile s).easeTime * 1000 ≤ s.motion.idle + 1 := by omega
  unfold stoppedUpdate
  exact (if_neg ease).trans (if_neg short)

end

/-- Settles O21: in each mode at rest the update is the mode's own timer on a transport that stands. -/
theorem restUpdates : Obligations.RestUpdates := by
  intro s running
  refine ⟨fun m => ?eased, fun m ease idle => ?full, fun m timer => ?empty, fun m timer => ?released, fun m ramp timer => ?engaging,
    fun m ramp => ?restoring, fun m ramp => ?releasing⟩
  all_goals rw [exec_profileUpdate running]
  case eased => rw [profileUpdate_eased m, rested]
  case full =>
    have row : s.motion.mode.liftersRow = some false := by rw [m]; rfl
    have slow : mag 0 ≤ 40000 := by decide
    rw [profileUpdate_full m, stoppedUpdate_short (s := standing s) ease idle, lowerLifters_eq]
    simp [standing, State.onMotion, row, slow]
  case empty =>
    rw [profileUpdate_empty m, emptyUpdate_short (s := rested s) timer]
    exact congrArg _ (lowerLifters_of_mode m (by decide))
  case released =>
    rw [profileUpdate_released m, releasedUpdate_short (s := rested s) timer]
    exact congrArg _ (lowerLifters_of_mode m (by decide))
  case engaging =>
    rw [profileUpdate_engaging m, engagingUpdate_short (s := rested s) ramp timer]
    exact congrArg _ (lowerLifters_of_mode m (by decide))
  case restoring =>
    rw [profileUpdate_restoring m, restoreUpdate_short (s := rested s) ramp]
    exact congrArg _ (lowerLifters_of_mode m (by decide))
  case releasing =>
    rw [profileUpdate_releasing m, releasingUpdate_short (s := rested s) ramp]
    exact congrArg _ (lowerLifters_of_mode m (by decide))

end Sys2Proof.Machine
end

section
/-!
Limits: the updates that end a mode at rest, a stop or a halt (R60, R63 to R66, R68, R78).
-/

namespace Sys2Proof.Machine

open Sys2Proof.Safety

/-- A change of mode that has nothing to do with PLAY RUN, from a mode that is known. -/
theorem enterMode_from {m₀ m : Mode} {s : State} (mode : s.motion.mode = m₀) (h : m₀ ≠ .play .run) (k : m ≠ .play .run) :
    enterMode m s = { s with
      motion := s.motion.entering m
      servo := s.servo.entering m₀ m
      capstan := s.capstan.driven m } := by
  subst mode
  exact enterMode_outside_run h k

section
variable {s : State}

/-! ## EMPTY, ENGAGING (R60, R63) -/

theorem emptyUpdate_reached (timer : s.motion.tapeTimer = 499) (tape : s.scanner.optical = .opaqueTape) :
    emptyUpdate s = threadTape s := by
  unfold emptyUpdate
  simp [pathTimer, timer, tape]

theorem threadTape_eq (m : s.motion.mode = .empty) : threadTape s = { s with
    tracker := { s.tracker with counter := 0 }
    motion := { s.motion.entering .released with tapeTimer := 0 }
    servo := s.servo.entering .empty .released
    capstan := s.capstan.driven .released } := by
  unfold threadTape enterReleased
  rw [enterMode_from (m₀ := .empty) (by exact m) (by simp) (by simp)]
  rfl

theorem engagingUpdate_completes (ramp : s.motion.rampK = 199) (timer : s.motion.engageTimer < 2999) :
    engagingUpdate s = { s with
      motion := { s.motion with
        rampK := 200, engageTimer := s.motion.engageTimer + 1, setpoint := (activeProfile s).tPlay }
      servo := { s.servo with rampDone := true } } := by
  have count : min 200 (s.motion.rampK + 1) = 200 := by omega
  have full : ((activeProfile s).tPlay : Int) * (200 : Nat) / 200 = (activeProfile s).tPlay := by omega
  have early : ¬ 3000 ≤ (engageRamped s).motion.engageTimer := by
    have : (engageRamped s).motion.engageTimer = s.motion.engageTimer + 1 := by
      unfold engageRamped
      split <;> rfl
    omega
  have ramped : engageRamped s = (engageRamp s).onServo fun v => { v with rampDone := true } := if_pos count
  rw [engagingUpdate_eq, if_neg early, ramped, engageRamp, count, full]
  rfl

/-- ENGAGE_TIMEOUT is the last cause in the order of R194. -/
theorem insertFault_last {r : FaultRec} (h : r.cause = .engageTimeout) (l : List FaultRec) : insertFault r l = l ++ [r] := by
  induction l with
  | nil => rfl
  | cons x l ih =>
    have after : ¬ r.cause.number < x.cause.number := by
      rw [h]
      cases x.cause <;> decide
    rw [insertFault, if_neg after, ih]
    rfl

theorem recordFault_fresh {c : Cause} (h : ¬ HasRecord s c) : recordFault c s = { s with
    monitor := { s.monitor with faults := insertFault (firstRecord c s) s.monitor.faults }
    link := raised .fault s.link } :=
  if_neg h

theorem enterReleasing_from {m₀ : Mode} (mode : s.motion.mode = m₀) (h : m₀ ≠ .play .run) : enterReleasing s = { s with
    motion := { s.motion.entering .releasing with
      releaseStart := tensionSetpoint s, releaseK := 0, setpoint := tensionSetpoint s, restoreK := 0 }
    servo := s.servo.entering m₀ .releasing
    capstan := s.capstan.driven .releasing } := by
  unfold enterReleasing
  rw [enterMode_from mode h (by simp)]
  rfl

theorem engageTimeout_eq (m : s.motion.mode = .engaging) (fresh : ¬ HasRecord s .engageTimeout) :
    faultReport .engageTimeout s = { s with
      motion := { s.motion.entering .releasing with
        releaseStart := s.motion.setpoint, releaseK := 0, setpoint := s.motion.setpoint, restoreK := 0 }
      servo := s.servo.entering .engaging .releasing
      capstan := s.capstan.driven .releasing
      monitor := { s.monitor with
        faults := s.monitor.faults ++
          [{ cause := .engageTimeout, count := 1, mode := .engaging, estimate := estimate s, quality := quality s }] }
      link := raised .fault s.link } := by
  have record : firstRecord .engageTimeout s =
      { cause := .engageTimeout, count := 1, mode := .engaging, estimate := estimate s, quality := quality s } := by
    rw [firstRecord, m]
  have last := insertFault_last (r := firstRecord .engageTimeout s) rfl s.monitor.faults
  have order : faultReport .engageTimeout s = releaseOrder (recordFault .engageTimeout s) := rfl
  have setpoint : tensionSetpoint s = s.motion.setpoint := by rw [tensionSetpoint, m]
  rw [order, recordFault_fresh fresh, last, record]
  generalize recorded : ({ s with
    monitor := { s.monitor with faults := _ }
    link := raised .fault s.link } : State) = u
  have mode : u.motion.mode = .engaging := by rw [← recorded, m]
  have same : tensionSetpoint u = s.motion.setpoint := by rw [← setpoint, ← recorded]; rfl
  unfold releaseOrder
  rw [mode]
  dsimp only
  rw [enterReleasing_from mode (by simp), same, ← recorded]

/-- The give-up of an engage: the record, and the order to release from the setpoint in force. -/
theorem engagingUpdate_timesOut (m : s.motion.mode = .engaging) (ramp : s.motion.rampK = 200) (timer : s.motion.engageTimer = 2999)
    (fresh : ¬ HasRecord s .engageTimeout) :
    engagingUpdate s = { s with
      motion := { s.motion with
        mode := .releasing, engageTimer := 3000, liftersUp := true, pinchIn := false, brakesOn := false
        setpoint := (activeProfile s).tPlay, releaseStart := (activeProfile s).tPlay, releaseK := 0, restoreK := 0 }
      servo := { s.servo with ready := 0, rampDone := false }
      capstan := { s.capstan with enable := false, command := 0 }
      monitor := { s.monitor with
        faults := s.monitor.faults ++
          [{ cause := .engageTimeout, count := 1, mode := .engaging, estimate := estimate s, quality := quality s }] }
      link := raised .fault s.link } := by
  have count : min 200 (s.motion.rampK + 1) = 200 := by omega
  have full : ((activeProfile s).tPlay : Int) * (200 : Nat) / 200 = (activeProfile s).tPlay := by omega
  have ramped : engageRamped s = { s with
      motion := { s.motion with engageTimer := 3000, setpoint := (activeProfile s).tPlay }
      servo := { s.servo with rampDone := true } } := by
    unfold engageRamped
    rw [if_pos count, engageRamp, count, full]
    simp only [State.onMotion, State.onServo, timer, ← ramp]
  have mode : (engageRamped s).motion.mode = .engaging := by rw [ramped, m]
  have late : 3000 ≤ (engageRamped s).motion.engageTimer := by rw [ramped]
  rw [engagingUpdate_eq, if_pos late, engageTimeout_eq mode (by rw [ramped]; exact fresh), ramped]
  rfl

end

/-- Settles O24: the timer of EMPTY and the ramp and timer of ENGAGING at their limits. -/
theorem threadsAndEngages : Obligations.ThreadsAndEngages := by
  refine ⟨fun s running m timer tape => ?thread, fun s running m => ⟨fun ramp timer => ?ramp, fun ramp timer fresh => ?timeout⟩⟩
  case thread =>
    have side : sideAfter s = none := if_pos tape
    refine exec_updateRow running ?_ (by simp [passes, m])
    rw [profileUpdate_empty m, emptyUpdate_reached (s := rested s) timer tape, threadTape_eq (s := rested s) m,
      lowerLifters_of_mode (m := .released) rfl (by decide), rested, side]
    rfl
  case ramp =>
    refine exec_updateRow running ?_ (by simp [rampReached, m, ramp])
    rw [profileUpdate_engaging m, engagingUpdate_completes (s := rested s) ramp timer,
      lowerLifters_of_mode (m := .engaging) (by exact m) (by decide)]
    rfl
  case timeout =>
    refine exec_updateRow running ?_ (by simp [timeoutReached, m])
    rw [profileUpdate_engaging m, engagingUpdate_timesOut (s := rested s) m ramp timer fresh,
      lowerLifters_of_mode (m := .releasing) rfl (by decide)]
    rfl

end Sys2Proof.Machine
end

section
/-!
Ends: easing, the end of a restore, and the ends of the release ramp, of a stop and of a halt (R64 to R66, R68, R78).
-/

namespace Sys2Proof.Machine

open Sys2Proof.Safety

section
variable {s : State}

/-! ## Modes entered from a mode that is known -/

theorem endLocate_of_none (h : s.motion.loc = none) (r : LocEnd) : endLocate r s = s := by
  unfold endLocate
  rw [h]

theorem enterStoppedFull_from {m₀ : Mode} (mode : s.motion.mode = m₀) (h : m₀ ≠ .play .run) : enterStoppedFull s = { s with
    motion := { s.motion.entering (.stopped .full) with idle := 0 }
    servo := s.servo.entering m₀ (.stopped .full)
    capstan := s.capstan.driven (.stopped .full) } := by
  unfold enterStoppedFull
  rw [enterMode_from mode h (by simp)]
  rfl

theorem enterReleased_from {m₀ : Mode} (mode : s.motion.mode = m₀) (h : m₀ ≠ .play .run) : enterReleased s = { s with
    motion := { s.motion.entering .released with tapeTimer := 0 }
    servo := s.servo.entering m₀ .released
    capstan := s.capstan.driven .released } := by
  unfold enterReleased
  rw [enterMode_from mode h (by simp)]
  rfl

theorem enterStopping_from {m₀ : Mode} (k : StopKind) (mode : s.motion.mode = m₀) (h : m₀ ≠ .play .run) :
    enterStopping k s = { s with
      motion := { s.motion.entering (.stopping k) with still := 0 }
      servo := s.servo.entering m₀ (.stopping k)
      capstan := s.capstan.driven (.stopping k) } := by
  unfold enterStopping
  rw [enterMode_from mode h (by simp)]
  rfl

theorem enterPlay_from {m₀ : Mode} (mode : s.motion.mode = m₀) (h : m₀ ≠ .play .run) : enterPlay s = { s with
    motion := { s.motion.entering (.play .entry) with entryCount := 0 }
    servo := s.servo.entering m₀ (.play .entry)
    capstan := s.capstan.driven (.play .entry) } := by
  unfold enterPlay
  rw [enterMode_from mode h (by simp)]
  rfl

theorem beginPlay_from {m₀ : Mode} (mode : s.motion.mode = m₀) (h : m₀ ≠ .play .run) (loc : s.motion.loc = none) :
    beginPlay s = { s with
      motion := { s.motion.entering (.play .entry) with entryCount := 0 }
      servo := s.servo.entering m₀ (.play .entry)
      capstan := s.capstan.driven (.play .entry) } := by
  rw [beginPlay, endLocate_of_none loc, enterPlay_from mode h]

theorem beginCue_from {m₀ : Mode} (w : Int) (mode : s.motion.mode = m₀) (h : m₀ ≠ .play .run) (loc : s.motion.loc = none) :
    beginCue w s = { s with
      motion := { s.motion.entering .cue with want := w }
      servo := s.servo.entering m₀ .cue
      capstan := s.capstan.driven .cue } := by
  rw [beginCue, endLocate_of_none loc, enterMode_from mode h (by simp)]
  rfl

theorem beginWind_from {m₀ : Mode} (w : Int) (mode : s.motion.mode = m₀) (h : m₀ ≠ .play .run) (loc : s.motion.loc = none) :
    beginWind w s = { s with
      motion := { s.motion.entering .wind with want := w }
      servo := s.servo.entering m₀ .wind
      capstan := s.capstan.driven .wind } := by
  rw [beginWind, endLocate_of_none loc, enterMode_from mode h (by simp)]
  rfl

theorem rested_of_still (speed : s.motion.vCmd = 0) : rested s = { s with motion := { s.motion with leader := sideAfter s } } := by
  rw [rested, ← speed]

theorem mag_zero_le : mag 0 ≤ 40000 := by decide

theorem rested_held (s : State) : (rested s).motion.held = s.motion.held := rfl

/-! ## Easing and the end of a restore (R65, R66) -/

theorem stoppedUpdate_eases (m : s.motion.mode = .stopped .full) (ease : (activeProfile s).easeTime ≠ 0)
    (idle : s.motion.idle + 1 = (activeProfile s).easeTime * 1000) : stoppedUpdate s = { s with
      motion := { s.motion.entering (.stopped .eased) with setpoint := ((activeProfile s).tPlay : Int) / 2 }
      servo := s.servo.entering (.stopped .full) (.stopped .eased)
      capstan := s.capstan.driven (.stopped .eased) } := by
  have due : (activeProfile s).easeTime * 1000 ≤ s.motion.idle + 1 := by omega
  have eased : stoppedUpdate s = easeLevel s := by
    unfold stoppedUpdate
    exact (if_neg ease).trans (if_pos due)
  rw [eased, easeLevel, enterMode_from m (by simp) (by simp)]
  rfl

/-- The state in which the request held over a restore begins. -/
def restoredState (s : State) : State := { s with
  motion := { s.motion.entering (.stopped .full) with
    idle := 0, held := none, restoreK := 0, setpoint := (activeProfile s).tPlay }
  servo := s.servo.entering (.stopped .restoring) (.stopped .full)
  capstan := s.capstan.driven (.stopped .full) }

theorem restoreUpdate_ends (m : s.motion.mode = .stopped .restoring) (k : s.motion.restoreK = 249) :
    restoreUpdate s = s.motion.held.elim (restoredState s) fun h => beginHeld h (restoredState s) := by
  have full : ((activeProfile s).tPlay : Int) / 2 +
      (((activeProfile s).tPlay : Int) - ((activeProfile s).tPlay : Int) / 2) * ((249 + 1 : Nat) : Int) / 250 = (activeProfile s).tPlay := by
    have : ((249 + 1 : Nat) : Int) = 250 := rfl
    rw [this, Int.mul_ediv_cancel _ (by norm_num)]
    ring
  unfold restoreUpdate
  dsimp only
  rw [k, full, if_pos (by norm_num), restoreEnd]
  rw [enterStoppedFull_from (m₀ := .stopped .restoring) (by exact m) (by simp)]
  simp only [State.onMotion]
  cases s.motion.held <;> rfl

end

/-- Settles O27: the ease time run out, and the restore's last count with what it held. -/
theorem easeAndRestore : Obligations.EaseAndRestore := by
  intro w s running
  refine ⟨fun m ease idle => ?ease, fun m k loc held => ?wind, fun m k loc meas => ⟨fun held => ?none, fun held => ?cue, fun held => ?play⟩⟩
  case ease =>
    refine exec_updateRow running ?_ (by simp [passes, m])
    rw [profileUpdate_full m, stoppedUpdate_eases (s := standing s) m ease idle, lowerLifters_of_mode (m := .stopped .eased) rfl (by decide)]
    rfl
  case wind =>
    refine exec_updateRow running ?_ (by simp [restoreReached, m])
    rw [profileUpdate_restoring m, restoreUpdate_ends (s := rested s) m k, rested_held, held, Option.elim_some, beginHeld,
      beginWind_from (m₀ := .stopped .full) w rfl (by simp) (by exact loc), lowerLifters_of_mode (m := .wind) rfl (by decide)]
    rfl
  case none =>
    refine exec_updateRow running ?_ (by simp [restoreReached, m])
    rw [profileUpdate_restoring m, restoreUpdate_ends (s := rested s) m k, rested_held, held, Option.elim_none,
      lowerLifters_down rfl (by exact meas) mag_zero_le, restoredState, ← held]
    rfl
  case cue =>
    refine exec_updateRow running ?_ (by simp [restoreReached, m])
    rw [profileUpdate_restoring m, restoreUpdate_ends (s := rested s) m k, rested_held, held, Option.elim_some, beginHeld,
      beginCue_from (m₀ := .stopped .full) w rfl (by simp) (by exact loc), lowerLifters_down rfl (by exact meas) mag_zero_le]
    rfl
  case play =>
    refine exec_updateRow running ?_ (by simp [restoreReached, m])
    rw [profileUpdate_restoring m, restoreUpdate_ends (s := rested s) m k, rested_held, held, Option.elim_some, beginHeld,
      beginPlay_from (m₀ := .stopped .full) rfl (by simp) (by exact loc), lowerLifters_down rfl (by exact meas) mag_zero_le]
    rfl

/-! ## The ends of the release ramp, of a stop and of a halt (R64, R68, R78) -/

section
variable {s : State}

theorem releasingUpdate_ends (m : s.motion.mode = .releasing) (k : s.motion.releaseK = 499) : releasingUpdate s = { s with
    motion := { s.motion.entering .released with tapeTimer := 0, setpoint := 0, releaseK := 0 }
    servo := s.servo.entering .releasing .released
    capstan := s.capstan.driven .released } := by
  have last : 500 ≤ s.motion.releaseK + 1 := by omega
  rw [releasingUpdate_eq, if_pos last, enterReleased_from (m₀ := .releasing) (by exact m) (by simp)]
  rfl

theorem haltingUpdate_ends (m : s.motion.mode = .halting)
    (slow : (s.motion.haltStill = 99 ∧ mag s.servo.vMeas < 100) ∨ s.motion.haltTimer = 4999) : haltingUpdate s = { s with
      motion := { s.motion.entering .released with tapeTimer := 0, haltTimer := 0, haltStill := 0 }
      servo := s.servo.entering .halting .released
      capstan := s.capstan.driven .released } := by
  have last : 100 ≤ (if mag s.servo.vMeas < 100 then s.motion.haltStill + 1 else 0) ∨ 5000 ≤ s.motion.haltTimer + 1 := by
    rcases slow with ⟨count, meas⟩ | timer
    · rw [if_pos meas]
      omega
    · omega
  unfold haltingUpdate
  dsimp only
  rw [if_pos last, enterReleased_from m (by simp)]
  rfl

theorem moveToward_self {v step : Int} (h : 0 ≤ step) : moveToward v v step = v := clampInt_inside (by omega) (by omega)

theorem capMag_zero {cap : Int} (h : 0 ≤ cap) : capMag cap 0 = 0 := clampInt_inside (by omega) h

theorem applyCaps_zero (s : State) : applyCaps s 0 0 = 0 := by
  have wind : capMag (((activeProfile s).windMax : Int) * 100) 0 = 0 := capMag_zero (by omega)
  have contact : capMag Config.headContact 0 = 0 := rfl
  unfold applyCaps
  dsimp only
  rw [wind, contact, ite_self]
  exact ite_self _

/-- A transport that stands and is not asked to move goes on standing. -/
theorem nextSpeed_of_still (run : ¬ InRun s) (want : wantedSpeed s = 0) (speed : s.motion.vCmd = 0) (a : 0 ≤ decelLimit s) :
    nextSpeed s = 0 := by
  unfold nextSpeed
  split
  · rfl
  · rw [want, ramped, if_neg run, speed, moveToward_self (by omega), applyCaps_zero]

theorem standstill_of_stopping {k : StopKind} (m : s.motion.mode = .stopping k) (speed : s.motion.vCmd = 0) (a : 0 ≤ decelLimit s) :
    Standstill s := by
  have want : wantedSpeed s = 0 := by rw [wantedSpeed, m]
  exact ⟨want, nextSpeed_of_still (by simp [m]) want speed a, fun _ => speed, .inl (by simp [m])⟩

theorem profileUpdate_stopping {k : StopKind} (m : s.motion.mode = .stopping k) (speed : s.motion.vCmd = 0) (a : 0 ≤ decelLimit s) :
    profileUpdate s = lowerLifters (stoppingUpdate k (rested s)) := by
  have phases : phaseTests s = s := by
    unfold phaseTests
    rw [m]
  have part : speedPart s = standing s := by
    have still := speedPart_of_standstill (s := s) (by rw [phases]; exact standstill_of_stopping m speed a)
    rwa [phases] at still
  rw [profileUpdate_of_standing part rfl, standing_of_row (by rw [m]; simp [Mode.liftersRow]), modeTests_of_stopping (s := rested s) m]

theorem stillCount_ends (still : s.motion.still = 19) (speed : s.motion.vCmd = 0) (meas : mag s.servo.vMeas < 200) :
    stillCount s = 20 := by
  rw [stillCount, if_pos ⟨speed, meas⟩, still]

theorem stoppingUpdate_normal (m : s.motion.mode = .stopping .normal) (count : stillCount s = 20) :
    stoppingUpdate .normal s = { s with
      motion := { s.motion.entering (.stopped .full) with idle := 0, still := 0 }
      servo := s.servo.entering (.stopping .normal) (.stopped .full)
      capstan := s.capstan.driven (.stopped .full) } := by
  unfold stoppingUpdate
  rw [count, if_pos (by norm_num)]
  dsimp only
  rw [enterStoppedFull_from m (by simp)]
  rfl

theorem stoppingUpdate_safe (m : s.motion.mode = .stopping .safe) (count : stillCount s = 20) :
    stoppingUpdate .safe s = { s with
      motion := { s.motion.entering .releasing with
        releaseStart := (activeProfile s).tWind, releaseK := 0, setpoint := (activeProfile s).tWind, restoreK := 0, still := 0 }
      servo := s.servo.entering (.stopping .safe) .releasing
      capstan := s.capstan.driven .releasing } := by
  have setpoint : tensionSetpoint s = (activeProfile s).tWind := by rw [tensionSetpoint, m]
  unfold stoppingUpdate
  rw [count, if_pos (by norm_num)]
  dsimp only
  rw [enterReleasing_from m (by simp), setpoint]
  rfl

end

/-- Settles O28: the last count of each mode that ends by one. -/
theorem stopsEnd : Obligations.StopsEnd := by
  intro s running
  refine ⟨fun m k => ?release, fun m still speed meas a => ?normal, fun m still speed meas a => ?safe, fun m tape slow => ?halt⟩
  case release =>
    refine exec_updateRow running ?_ (by simp [passes, m])
    rw [profileUpdate_releasing m, releasingUpdate_ends (s := rested s) m k, lowerLifters_of_mode (m := .released) rfl (by decide)]
    rfl
  case normal =>
    have count : stillCount (rested s) = 20 := stillCount_ends still rfl meas
    have slow : mag s.servo.vMeas ≤ 40000 := by omega
    refine exec_updateRow running ?_ (by simp [stopEnds, m, isStopping])
    rw [profileUpdate_stopping m speed a, stoppingUpdate_normal (s := rested s) m count,
      lowerLifters_down rfl (by exact slow) mag_zero_le, rested_of_still speed]
    rfl
  case safe =>
    have count : stillCount (rested s) = 20 := stillCount_ends still rfl meas
    refine exec_updateRow running ?_ (by simp [stopEnds, m, isStopping])
    rw [profileUpdate_stopping m speed a, stoppingUpdate_safe (s := rested s) m count,
      lowerLifters_of_mode (m := .releasing) rfl (by decide), rested_of_still speed]
    rfl
  case halt =>
    have side : sideAfter s = none := if_pos tape
    refine exec_updateRow running ?_ (by simp [passes, m])
    rw [profileUpdate_halting m tape, haltingUpdate_ends (s := rested s) m slow, lowerLifters_of_mode (m := .released) rfl (by decide),
      rested, side]
    rfl

end Sys2Proof.Machine
end

section
/-!
Unthreading: what the loss of the tape takes with it, block by block, and the turns of the reference that it brings
(R22, R53, R60, R137, R138, R167).
-/

namespace Sys2Proof.Machine

open Sys2Proof.Safety

section
variable {s : State}

/-! ## Lines that are off -/

/-- No gate and no monitor is on. -/
abbrev Dark (s : State) : Prop := ¬ GateOn s ∧ ¬ MonitorOn s

theorem dark_of_not_run (gate : GateLaw s) (monitor : MonitorLaw s) (run : ¬ InRun s) : Dark s :=
  ⟨fun g => run (gate g).1.1, fun m => run (monitor m).1⟩

/-- With every line off the conditions of R151 can end a pending manual record only. -/
theorem gateGuard_of_dark (dark : Dark s) : ∃ m, gateGuard s = s.onPunch fun p => { p with manual := m } := by
  have gates : ¬ GateLost s := fun l => dark.1 l.1
  have monitors : ¬ MonitorLost s := fun l => dark.2 l.1
  unfold gateGuard
  dsimp only
  rw [if_neg gates, if_neg monitors]
  unfold dropPending
  split
  · split
    · exact ⟨.off, rfl⟩
    · exact ⟨s.punch.manual, rfl⟩
  · exact ⟨s.punch.manual, rfl⟩

/-! ## A change of the reference in use (R138) -/

theorem referenceTurned_capstan (s : State) : (referenceTurned s).capstan = s.capstan.unlocked.driven s.motion.mode := by
  simp [referenceTurned, driveCapstan_capstan, unlockCapstan, Capstan.unlocked]

theorem referenceTurned_of_dark (dark : Dark s) : ∃ m, referenceTurned s = { s with
    capstan := s.capstan.unlocked.driven s.motion.mode
    punch := { s.punch with manual := m } } :=
  gateGuard_of_dark (s := driveCapstan ((unlockCapstan s).onCapstan fun c => { c with correction := 0 })) dark

/-- The capstan unit when the reference state moves to `r`. -/
def Capstan.moved (m : Mode) (r : RefState) (c : Capstan) : Capstan :=
  if c.refState = r then c
  else if c.refState = .external then
    ({ c with refState := r, period := 10000, lastEdge := c.lastInternal, vRef := 10000 } : Capstan).unlocked.driven m
  else { c with refState := r }

theorem Capstan.moved_refState (m : Mode) (r : RefState) (c : Capstan) : (c.moved m r).refState = r := by
  unfold Capstan.moved
  split
  next same => exact same
  · split <;> rfl

theorem moveRefState_of_dark (r : RefState) (dark : Dark s) : ∃ m, moveRefState r s = { s with
    capstan := s.capstan.moved s.motion.mode r
    punch := { s.punch with manual := m }
    link := if s.capstan.refState = r then s.link else raised .referenceChange s.link } := by
  unfold moveRefState Capstan.moved
  split
  · exact ⟨s.punch.manual, rfl⟩
  · split
    · obtain ⟨m, turned⟩ := referenceTurned_of_dark (s := raise .referenceChange (s.onCapstan fun c =>
        { c with refState := r, period := 10000, lastEdge := c.lastInternal, vRef := 10000 })) dark
      exact ⟨m, turned⟩
    · exact ⟨s.punch.manual, rfl⟩

/-- Qualification begun again with the divider (R133). -/
def Capstan.requalified (c : Capstan) : Capstan := { c with divider := 0, openAt := none, latest := none, qual := 0 }

theorem restartQualification_eq (s : State) : restartQualification s = s.onCapstan Capstan.requalified := rfl

theorem spbChanged_of_dark (dark : Dark s) : ∃ m, spbChanged s = { s with
    capstan := if s.capstan.refState = .internal then s.capstan
      else (s.capstan.moved s.motion.mode .qualifying).requalified
    punch := { s.punch with manual := m }
    link := if s.capstan.refState = .internal ∨ s.capstan.refState = .qualifying then s.link
      else raised .referenceChange s.link } := by
  unfold spbChanged
  split
  next internal => exact ⟨s.punch.manual, by simp only [internal, true_or, if_true]⟩
  next clocked =>
    obtain ⟨m, moved⟩ := moveRefState_of_dark .qualifying dark
    refine ⟨m, ?_⟩
    rw [moved, restartQualification_eq]
    simp only [State.onCapstan, clocked, false_or]

/-! ## The tape's own data gone (R22, R53) -/

/-- Whether an unclaimed mark is lost. -/
theorem unclaimed_ne_nil (t : MarkTable) : unclaimed t ≠ [] ↔ ∃ p ∈ t, p.2.tag = none := by
  simp [unclaimed]

/-- The link after the marks of an unthread or a warm reset. -/
def markLoss (t : MarkTable) (l : Link) : Link := if ∃ p ∈ t, p.2.tag = none then raised .marksLost l else l

theorem unthreadMarks_state (s : State) :
    unthreadMarks s = { s with marks := strippedTable s.marks, link := markLoss s.marks s.link } := by
  rw [unthreadMarks_eq, raiseIf, markLoss]
  simp only [unclaimed_ne_nil, decide_eq_true_eq]
  split <;> rfl

theorem clearTracker_of_dark (dark : Dark s) : ∃ m, clearTracker s = { s with
    tracker := clearedTracker
    capstan := if spb s = 480 ∨ s.capstan.refState = .internal then s.capstan
      else (s.capstan.moved s.motion.mode .qualifying).requalified
    punch := { s.punch with manual := m }
    link := if spb s = 480 ∨ s.capstan.refState = .internal ∨ s.capstan.refState = .qualifying then s.link
      else raised .referenceChange s.link } := by
  rw [clearTracker_eq]
  split
  next same => exact ⟨s.punch.manual, by simp only [same, true_or, if_true]; rfl⟩
  next other =>
    obtain ⟨m, changed⟩ := spbChanged_of_dark (s := s.onTracker fun _ => clearedTracker) dark
    refine ⟨m, changed.trans ?_⟩
    simp only [other, false_or, State.onTracker]
    rfl

/-- On the tables left by an unthread no mark is current, so no zone stands. -/
theorem zonesOf_stripped {t : MarkTable} (formed : Formed t) (marks : s.marks = strippedTable t)
    (tracker : s.tracker = clearedTracker) : zonesOf s = [] := by
  unfold zonesOf
  rw [List.flatMap_eq_nil_iff, marks]
  intro p hp
  have claimed := (strippedTable_get ((slotGet_iff_mem (strippedTable_formed formed).rising).mpr hp)).2.1
  have none : loadedTag s = none := by
    rw [loadedTag, tracker]
    rfl
  rw [if_neg fun current => claimed (current.trans none)]

/-- The card once the tape's own data has gone and the Punch Unit has been cleared. -/
theorem clearedTape_of_dark (dark : Dark s) (formed : Formed s.marks) :
    recomputeZones (clearPunch (clearTracker (unthreadMarks s))) = { s with
      tracker := clearedTracker
      marks := strippedTable s.marks
      capstan := if spb s = 480 ∨ s.capstan.refState = .internal then s.capstan
        else (s.capstan.moved s.motion.mode .qualifying).requalified
      punch := { s.punch with
        gateA := false, gateB := false, monA := false, monB := false, offset := 0, entries := [], manual := .off, zones := [] }
      link := if spb s = 480 ∨ s.capstan.refState = .internal ∨ s.capstan.refState = .qualifying then markLoss s.marks s.link
        else raised .referenceChange (markLoss s.marks s.link) } := by
  obtain ⟨m, cleared⟩ := clearTracker_of_dark (s := unthreadMarks s) (by rw [unthreadMarks_state]; exact dark)
  have none : zonesOf (clearPunch (clearTracker (unthreadMarks s))) = [] :=
    zonesOf_stripped formed (by rw [cleared, unthreadMarks_state]; rfl) (by rw [cleared]; rfl)
  unfold recomputeZones
  rw [none, cleared, unthreadMarks_state]
  rfl

/-- The capstan unit after the tape has gone, before its lines are driven. -/
def unthreadedCapstan (s : State) : Capstan :=
  if spb s = 480 ∨ s.capstan.refState = .internal then s.capstan else (s.capstan.moved s.motion.mode .qualifying).requalified

/-- The link after the tape has gone, from a link `l`. -/
def unthreadedLink (s : State) (l : Link) : Link :=
  if spb s = 480 ∨ s.capstan.refState = .internal ∨ s.capstan.refState = .qualifying then markLoss s.marks l
  else raised .referenceChange (markLoss s.marks l)

theorem unthreadTape_of_dark (m : s.motion.mode = .released) (dark : Dark s) (formed : Formed s.marks) :
    unthreadTape s = { s with
      tracker := clearedTracker
      marks := strippedTable s.marks
      motion := { s.motion.entering .empty with
        leader := none, vCmd := 0, tapeTimer := 0, idle := 0, rampK := 0, engageTimer := 0, held := none, loc := none }
      servo := s.servo.entering .released .empty
      capstan := (unthreadedCapstan s).driven .empty
      punch := { s.punch with
        gateA := false, gateB := false, monA := false, monB := false, offset := 0, entries := [], manual := .off, zones := [] }
      link := unthreadedLink s s.link } := by
  unfold unthreadTape
  rw [clearedTape_of_dark dark formed, enterMode_from (m₀ := .released) (by exact m) (by simp) (by simp)]
  rfl

theorem releasedUpdate_reached (timer : s.motion.tapeTimer = 499) (tape : s.scanner.optical = .clear) :
    releasedUpdate s = unthreadTape s := by
  unfold releasedUpdate
  simp [pathTimer, timer, tape]

theorem unthread_eq (m : s.motion.mode = .released) (timer : s.motion.tapeTimer = 499) (tape : s.scanner.optical = .clear) :
    profileUpdate s = unthreadTape (rested s) := by
  rw [profileUpdate_released m, releasedUpdate_reached (s := rested s) timer tape]
  exact lowerLifters_of_mode (m := .empty) (by simp [unthreadTape]) (by decide)

end

/-- Settles O25: the parts of an unthread, block by block. -/
theorem unthreads : Obligations.Unthreads := by
  intro s running m timer tape gate monitor tables
  have dark : Dark s := dark_of_not_run gate monitor (by simp [m])
  have formed : Formed s.marks := formed_of_tableForm tables
  have gone := unthreadTape_of_dark (s := rested s) m dark formed
  have marks : (unthreadTape (rested s)).marks = strippedTable s.marks := by rw [gone]; rfl
  refine ⟨unthreadTape (rested s), ?_, ?_, ?_, fun n x h => ?_, fun n x low h claimed => ?_, ?_, ?_, ?_, fun still => ?_,
    fun clocked reel => ?_⟩
  · exact exec_updateRow running (unthread_eq m timer tape) (by rw [gone]; simp [passes, m, Motion.entering])
  · rw [gone]
    exact ⟨rfl, rfl, fun b hb => by cases b <;> simp [kept, rested] at hb ⊢⟩
  · rw [gone]
    rfl
  · exact strippedTable_get (by rwa [markAt, marks] at h)
  · obtain ⟨p, hp, same⟩ := strippedTable_keeps formed.rising low h claimed
    refine ⟨p, by rw [markAt, marks, hp], fun law => same (markLaw_iff.mp law).1.toLinkLaw⟩
  · rw [gone]
    rfl
  · rw [gone]
    rfl
  · rw [gone]
    rfl
  · have quiet : spb (rested s) = 480 ∨ (rested s).capstan.refState = .internal := still.symm
    have quiet' : spb (rested s) = 480 ∨ (rested s).capstan.refState = .internal ∨ (rested s).capstan.refState = .qualifying :=
      quiet.imp_right .inl
    rw [gone]
    dsimp only
    rw [unthreadedCapstan, if_pos quiet, unthreadedLink, if_pos quiet']
    exact ⟨rfl, rfl⟩
  · have turns : ¬ (spb (rested s) = 480 ∨ (rested s).capstan.refState = .internal) := by
      rintro (k | k)
      · exact reel k
      · exact clocked k
    rw [gone]
    dsimp only
    rw [unthreadedCapstan, if_neg turns]
    exact ⟨Capstan.moved_refState _ _ _, rfl, rfl, rfl⟩

end Sys2Proof.Machine
end

section
/-!
WarmReset: the warm reset after the reply to RESET, block by block (R79, R118, R129, R147, R167, R192, R200).
-/

namespace Sys2Proof.Machine

open Sys2Proof.Safety

section
variable {s : State}

theorem moveRefState_of_quiet (r : RefState) (quiet : NoRecording s) : moveRefState r s = { s with
    capstan := s.capstan.moved s.motion.mode r
    link := if s.capstan.refState = r then s.link else raised .referenceChange s.link } := by
  obtain ⟨m, moved⟩ := moveRefState_of_dark r (s := s) ⟨quiet.1, quiet.2.1⟩
  have punch := moveRefState_punch r quiet
  rw [moved] at punch
  rw [moved]
  simp only at punch
  rw [punch]

/-- The capstan unit turned to qualify, unless the internal reference is selected. -/
def Capstan.turned (m : Mode) (c : Capstan) : Capstan := if c.refState = .internal then c else c.moved m .qualifying

/-- The link after that turn. -/
def turnedLink (r : RefState) (l : Link) : Link := if r = .internal ∨ r = .qualifying then l else raised .referenceChange l

/-- The capstan unit at the end of a warm reset (R147). -/
def Capstan.warmed (m : Mode) (c : Capstan) : Capstan :=
  ({ (c.turned m).requalified with
    silence := none, vRef := 10000, lock := false, lockCount := 0, missed := 0, correction := 0 } : Capstan).driven m

theorem warmCapstan_of_quiet (quiet : NoRecording s) : warmCapstan s = { s with
    capstan := s.capstan.warmed s.motion.mode
    link := turnedLink s.capstan.refState s.link } := by
  unfold warmCapstan Capstan.warmed Capstan.turned turnedLink
  split
  next internal =>
    rw [if_pos (.inl internal)]
    rfl
  next clocked =>
    rw [moveRefState_of_quiet .qualifying quiet]
    simp only [clocked, false_or]
    rfl

/-- The card once every block but the capstan has been reset. -/
theorem warmBlocks_of_dark (dark : Dark s) (formed : Formed s.marks) : warmBlocks s = { s with
    tracker := clearedTracker
    marks := strippedTable s.marks
    motion := { s.motion with
      vCmd := 0, tapeTimer := 0, leader := none, idle := 0, rampK := 0, engageTimer := 0, held := none, loc := none, result := none }
    servo := { s.servo with
      winCount := 0, refRoller := s.servo.accRoller, refSupply := s.servo.accSupply, refTakeUp := s.servo.accTakeUp,
      rSupply := midpoint (activeProfile s), rTakeUp := midpoint (activeProfile s), cmdSupply := 0, cmdTakeUp := 0,
      drives := false, rampDone := false, ready := 0, loss := 0, runaway := 0, stopSupply := false,
      stopTakeUp := false, foundSupply := false, foundTakeUp := false }
    monitor := State.reset.monitor
    capstan := unthreadedCapstan s
    punch := { s.punch with
      gateA := false, gateB := false, monA := false, monB := false, offset := 0, entries := [], manual := .off
      permit := s.punch.permitPin, last := none, zones := [] }
    link := unthreadedLink s { s.link with summary := 0, retry := [] } } := by
  obtain ⟨m, cleared⟩ := clearTracker_of_dark (s := unthreadMarks (warmLink s)) (by rw [unthreadMarks_state]; exact dark)
  have none : zonesOf ((clearPunch (clearTracker (unthreadMarks (warmLink s)))).onPunch fun p =>
      { p with permit := p.permitPin, last := none }) = [] :=
    zonesOf_stripped formed (by rw [cleared, unthreadMarks_state]; rfl) (by rw [cleared]; rfl)
  unfold warmBlocks warmPunch recomputeZones
  rw [none, cleared, unthreadMarks_state]
  rfl

/-- The card once its transmission has ended. -/
abbrev quieted (s : State) : State := s.onLink fun l => { l with tx := .quiet }

theorem exec_warmReset_sending (running : s.inReset = false) (tx : s.link.tx = .sending true) :
    exec .warmReset s = .next (warmReset (quieted s)) := by
  have gone : replyGone s = endSending s := by
    unfold replyGone
    rw [tx]
  have ended : endSending s = warmReset (quieted s) := by
    unfold endSending
    rw [tx]
    rfl
  change live replyGone s = _
  rw [live_of_running running, gone, ended]

theorem warmReset_of_dark (dark : Dark s) (formed : Formed s.marks) : warmReset s = { warmBlocks s with
    capstan := (unthreadedCapstan s).warmed s.motion.mode
    link := turnedLink (unthreadedCapstan s).refState (unthreadedLink s { s.link with summary := 0, retry := [] }) } := by
  rw [warmReset_eq, warmCapstan_of_quiet (warmBlocks_quiet s), warmBlocks_of_dark dark formed]

/-- Whatever the tape took with it, the capstan unit ends the same. -/
theorem unthreadedCapstan_warmed (parked : Parked s) : (unthreadedCapstan s).warmed s.motion.mode = { s.capstan with
    refState := if s.capstan.refState = .internal then .internal else .qualifying
    qual := 0, divider := 0, openAt := none, latest := none, silence := none, vRef := 10000
    period := if s.capstan.refState = .external then 10000 else s.capstan.period
    lastEdge := if s.capstan.refState = .external then s.capstan.lastInternal else s.capstan.lastEdge
    lock := false, lockCount := 0, missed := 0, correction := 0, enable := false, command := 0 } := by
  have off : s.motion.mode.capstanOn = false := by rcases parked with h | h <;> rw [h] <;> rfl
  unfold Capstan.warmed Capstan.turned unthreadedCapstan Capstan.moved
  by_cases same : spb s = 480 <;> cases r : s.capstan.refState <;>
    simp [same, r, Capstan.unlocked, Capstan.driven, Capstan.requalified, off]

/-- The link of a warm reset: the marks lost and the reference left, and nothing else, stand in its summary. -/
theorem turnedLink_warm (l : Link) (summary : l.summary = 0) :
    turnedLink (unthreadedCapstan s).refState (unthreadedLink s l) = { l with
      summary := (if ∃ p ∈ s.marks, p.2.tag = none then Event.marksLost.bit else 0) |||
        (if s.capstan.refState = .external ∨ s.capstan.refState = .fallback then Event.referenceChange.bit else 0) } := by
  have loss : markLoss s.marks l = { l with summary := if ∃ p ∈ s.marks, p.2.tag = none then Event.marksLost.bit else 0 } := by
    unfold markLoss
    split
    · rw [raised, summary]
      simp
    · rw [← summary]
  unfold turnedLink unthreadedLink unthreadedCapstan
  rw [loss]
  generalize (if ∃ p ∈ s.marks, p.2.tag = none then Event.marksLost.bit else 0) = b
  by_cases same : spb s = 480 <;> cases r : s.capstan.refState <;>
    simp [same, r, raised, Capstan.moved_refState, Capstan.requalified]

end

/-- Settles O20: the parts of the warm reset, block by block. -/
theorem warmResetValues : Obligations.WarmResetValues := by
  intro s running tx parked gate monitor tables
  have dark : Dark s := dark_of_not_run gate monitor (by rcases parked with h | h <;> simp [h])
  have formed : Formed s.marks := formed_of_tableForm tables
  have warm := warmReset_of_dark (s := quieted s) dark formed
  have blocks := warmBlocks_of_dark (s := quieted s) dark formed
  have marks : (warmReset (quieted s)).marks = strippedTable s.marks := by rw [warm, blocks]; rfl
  refine ⟨warmReset (quieted s), exec_warmReset_sending running tx, ?_, ?_, fun n x h => ?_, fun n x low h claimed => ?_, ?_, ?_, ?_, ?_,
    ?_, ?_⟩
  · rw [warm, blocks]
    exact ⟨rfl, rfl, fun b hb => by cases b <;> simp [kept, quieted] at hb ⊢⟩
  · rw [warm, blocks]
    rfl
  · exact strippedTable_get (by rwa [markAt, marks] at h)
  · obtain ⟨p, hp, same⟩ := strippedTable_keeps formed.rising low h claimed
    refine ⟨p, by rw [markAt, marks, hp], fun law => same (markLaw_iff.mp law).1.toLinkLaw⟩
  · rw [warm, blocks]
    rfl
  · rw [warm, blocks]
    rfl
  · rw [warm, blocks]
  · have none : zonesOf (warmReset (quieted s)) = [] := zonesOf_stripped formed marks (by rw [warm, blocks])
    rw [none, warm, blocks]
    rfl
  · rw [warm]
    exact unthreadedCapstan_warmed (s := quieted s) parked
  · rw [warm]
    exact turnedLink_warm (s := quieted s) { (quieted s).link with summary := 0, retry := [] } rfl

end Sys2Proof.Machine
end

section
/-!
StartUp: the card when the internal reset ends, and the times of the line (R54, R147, R172, R177, R180, R184, R191 to R193).
-/

namespace Sys2Proof.Machine

open Sys2Proof.Safety

section
variable {sw : Nat} {s : State}

theorem exec_internalResetEnd (reset : s.inReset = true) : exec (.internalResetEnd sw) s = .next (bootState sw s) := by
  change Host.Outcome.next (internalResetEnd sw s) = _
  rw [internalResetEnd, if_pos reset]

theorem bootState_marks : (bootState sw s).marks = if s.store.user.valid then loadMarks s.store.user.image.marks else [] := rfl

theorem bootState_store : (bootState sw s).store = bootStore s.store := rfl

theorem bootState_selection : (bootState sw s).capstan.selection = bootSelection s.store := rfl

theorem bootState_calSupply : (bootState sw s).servo.calSupply = bootCal s.store s.store.factory.supply := rfl

theorem bootState_calTakeUp : (bootState sw s).servo.calTakeUp = bootCal s.store s.store.factory.takeUp := rfl

/-- What a valid user sector brings. -/
theorem bootState_of_user (valid : s.store.user.valid = true) :
    (bootState sw s).store.profiles = s.store.user.image.profiles ∧ (bootState sw s).store.source = .user ∧
    (bootState sw s).capstan.selection = s.store.user.image.selection ∧
    (Rising s.store.user.image.marks → markAt (bootState sw s) 0 = none ∧
      ∀ n, 1 ≤ n → n ≤ 99 → markAt (bootState sw s) n = (slotGet n s.store.user.image.marks).map savedMark) := by
  have marks : (bootState sw s).marks = loadMarks s.store.user.image.marks := by rw [bootState_marks, if_pos valid]
  refine ⟨?_, ?_, ?_, fun rising => ⟨?_, fun n low high => ?_⟩⟩
  · simp [bootState_store, bootStore, valid]
  · simp [bootState_store, bootStore, valid]
  · rw [bootState_selection, bootSelection, if_pos valid]
  · rw [markAt, marks, slotGet_loadMarks rising, if_neg (by omega)]
  · rw [markAt, marks, slotGet_loadMarks rising, if_pos ⟨low, high⟩]

theorem bootState_of_defaults (invalid : s.store.user.valid = false) :
    (bootState sw s).store.profiles = factoryProfiles ∧ (bootState sw s).store.source = .defaults ∧
    (bootState sw s).capstan.selection = .internal ∧ (bootState sw s).marks = [] := by
  simp [bootState_store, bootStore, bootState_selection, bootSelection, bootState_marks, invalid]

end

/-- Settles O19: the values of the start-up, block by block, with what the two sectors decide. -/
theorem internalResetEndValues : Obligations.InternalResetEndValues := by
  intro sw s reset
  refine ⟨bootState sw s, exec_internalResetEnd reset, rfl, rfl, rfl, rfl, rfl, rfl, rfl, rfl, rfl, rfl, rfl, rfl, rfl, rfl,
    bootState_of_user, bootState_of_defaults, fun valid => ?_, fun invalid => ?_, rfl, rfl, rfl⟩
  · simp [bootState_calSupply, bootState_calTakeUp, bootCal, bootState_store, bootStore, valid]
  · simp [bootState_calSupply, bootState_calTakeUp, bootCal, bootState_store, bootStore, invalid]

/-! ## The line (O17) -/

section
variable {s : State}

theorem endSending_of_not_sending (h : ∀ b, s.link.tx ≠ .sending b) : endSending s = s := by
  unfold endSending
  split
  next r tx => exact absurd tx (h r)
  · rfl

theorem lineIdle_of_silent (h : s.link.silent = true) : lineIdle s = s := by
  unfold lineIdle Listening
  rw [if_neg fun k => by simp [h] at k]

theorem lineIdle_of_audible (running : s.inReset = false) (audible : s.link.silent = false) :
    lineIdle s = (endSending s).onLink fun l => { l with rx := .idle } := if_pos ⟨running, audible⟩

end

/-- Settles O17: each line time by what the transmitter is at. -/
theorem lineTimes : Obligations.LineTimes := by
  refine ⟨fun s running => ⟨fun silent => ?silenceEnd, fun audible idle => ?idle, fun audible tx => ?sent, fun audible tx => ?reset,
    fun silent => ?silent⟩, fun s running => ⟨fun f b tx => ?reply, fun c tx => ?slot, fun tx => ⟨?noReply, ?noSlot⟩⟩⟩
  case silenceEnd =>
    change live linkSilenceEnd s = _
    rw [live_of_running running, linkSilenceEnd, if_pos silent]
    rfl
  case idle =>
    change live lineIdle s = _
    rw [live_of_running running, lineIdle_of_audible running audible, endSending_of_not_sending idle]
    rfl
  case sent =>
    change live lineIdle s = _
    rw [live_of_running running, lineIdle_of_audible running audible, endSending, tx]
    rfl
  case reset =>
    refine ⟨_, exec_warmReset_sending running tx, ?_⟩
    change live lineIdle s = _
    rw [live_of_running running, lineIdle_of_audible running audible, endSending, tx]
    rfl
  case silent =>
    change live lineIdle s = _
    rw [live_of_running running, lineIdle_of_silent silent]
  case reply =>
    change live Machine.reply s = _
    rw [live_of_running running, Machine.reply, tx]
    rfl
  case slot =>
    change live slotAnswer s = _
    rw [live_of_running running, slotAnswer, tx]
    rfl
  case noReply =>
    change live Machine.reply s = _
    rw [live_of_running running, Machine.reply, tx]
  case noSlot =>
    change live slotAnswer s = _
    rw [live_of_running running, slotAnswer, tx]

end Sys2Proof.Machine
end

section
/-!
Characters: the receiver character by character (R180, R181).
-/

namespace Sys2Proof.Machine

open Sys2Proof.Safety

/-! ## Where a frame ends (R181) -/

/-- The number of payload characters that a frame's sixth character announces. -/
abbrev announced (cs : List Byte) : Nat := (cs.getD 5 0).toNat

theorem splitFrame_of_short {cs : List Byte} (h : cs.length ≤ 7) : splitFrame cs = none := by
  unfold splitFrame
  split
  next d u st q c n r =>
    have short : r.length ≠ n.toNat + 2 := by
      simp only [List.length_cons] at h
      omega
    rw [if_neg short]
  · rfl

theorem splitFrame_of_unended {cs : List Byte} (h : cs.length ≠ announced cs + 8) : splitFrame cs = none := by
  unfold splitFrame
  split
  next d u st q c n r =>
    have short : r.length ≠ n.toNat + 2 := by
      simp only [announced, List.length_cons, List.getD_cons_succ, List.getD_cons_zero] at h
      omega
    rw [if_neg short]
  · rfl

/-- A frame of its announced length is split, with the judgement on its CRC. -/
theorem splitFrame_of_ended {cs : List Byte} (h : cs.length = announced cs + 8) :
    ∃ w, splitFrame cs = some (w, decide (crcField (cs.take (announced cs + 6)) = cs.drop (announced cs + 6))) := by
  match cs with
  | d :: u :: st :: q :: c :: n :: r =>
    have ended : r.length = n.toNat + 2 := by
      simp only [announced, List.length_cons, List.getD_cons_succ, List.getD_cons_zero] at h
      omega
    exact ⟨_, if_pos ended⟩
  | [] | [_] | [_, _] | [_, _, _] | [_, _, _, _] | [_, _, _, _, _] => simp at h

section
variable {s : State} {cs : List Byte} {c : Byte}

theorem collect_of_unended (unended : splitFrame cs = none) (fits : cs.length ≠ 6 ∨ announced cs ≤ 48) :
    collect cs s = s.onLink fun l => { l with rx := .collecting cs } := by
  have within : ¬ (cs.length = 6 ∧ maxPayload < announced cs) := by
    rintro ⟨six, tooLong⟩
    unfold maxPayload at tooLong
    omega
  unfold collect
  rw [unended]
  exact if_neg within

theorem collect_of_over (six : cs.length = 6) (tooLong : 48 < announced cs) :
    collect cs s = s.onLink fun l => { l with rx := .disregard } := by
  unfold collect
  rw [splitFrame_of_short (by omega)]
  exact if_pos ⟨six, tooLong⟩

theorem collect_of_badCrc (ended : cs.length = announced cs + 8)
    (bad : crcField (cs.take (announced cs + 6)) ≠ cs.drop (announced cs + 6)) :
    collect cs s = s.onLink fun l => { l with rx := .disregard } := by
  obtain ⟨w, split⟩ := splitFrame_of_ended ended
  rw [decide_eq_false bad] at split
  unfold collect
  rw [split]

/-- The sixth character, once it has come, stays the sixth. -/
theorem announced_append (h : 6 ≤ cs.length) (c : Byte) : announced (cs ++ [c]) = announced cs := by
  simp only [announced, List.getD_eq_getElem?_getD]
  rw [List.getElem?_append_left (by omega)]

theorem announced_sixth (h : cs.length = 5) (c : Byte) : announced (cs ++ [c]) = c.toNat := by
  simp only [announced, List.getD_eq_getElem?_getD]
  rw [List.getElem?_append_right (by omega), h]
  rfl

/-! ## One character (R180) -/

theorem exec_character (running : s.inReset = false) (c : Byte) (fe : Bool) :
    exec (.characterReceived c fe) s = .next (receive c fe s) :=
  live_of_running running

variable (running : s.inReset = false) (audible : s.link.silent = false)
include running audible

theorem receive_of_deaf {fe : Bool} (h : (∃ b, s.link.tx = .sending b) ∨ s.link.rx = .disregard) : receive c fe s = s := by
  unfold receive
  rw [if_pos ⟨running, audible⟩]
  split
  · rfl
  next silent =>
    rcases h with ⟨b, tx⟩ | rx
    · exact absurd tx (silent b)
    · rw [rx]

theorem receive_of_idle {fe : Bool} (silent : ∀ b, s.link.tx ≠ .sending b) (rx : s.link.rx = .idle) : receive c fe s =
    if fe = false ∧ c = sync then (frameBegins s).onLink fun l => { l with rx := .collecting [] }
    else s.onLink fun l => { l with rx := .disregard } := by
  unfold receive
  rw [if_pos ⟨running, audible⟩]
  split
  next b tx => exact absurd tx (silent b)
  · rw [rx]

theorem receive_of_collecting {fe : Bool} (silent : ∀ b, s.link.tx ≠ .sending b) (rx : s.link.rx = .collecting cs) :
    receive c fe s = if fe then s.onLink fun l => { l with rx := .disregard } else collect (cs ++ [c]) s := by
  unfold receive
  rw [if_pos ⟨running, audible⟩]
  split
  next b tx => exact absurd tx (silent b)
  · rw [rx]

end

/-- Settles O16: the receiver in each of its states, and a frame by the characters it has. -/
theorem characterJudged : Obligations.CharacterJudged := by
  intro c fe s running audible
  refine ⟨fun deaf => ?_, fun silent rx => ⟨fun other => ?_, fun clean start => ⟨fun tx => ?_, fun tx => ?_, fun f tx => ?_⟩⟩,
    fun cs rx silent => ⟨fun broken => ?_, fun clean => ⟨fun few => ?_, fun five => ?_, fun six more => ?_, fun last bad => ?_⟩⟩⟩
  · rw [exec_character running, receive_of_deaf running audible deaf]
  all_goals rw [exec_character running]
  · have none : ¬ (fe = false ∧ c = sync) := by
      rintro ⟨clean, start⟩
      rcases other with broken | other
      · simp [clean] at broken
      · exact other start
    rw [receive_of_idle running audible silent rx, if_neg none]
    rfl
  · rw [receive_of_idle running audible silent rx, if_pos ⟨clean, start⟩, frameBegins, tx]
    rfl
  · rw [receive_of_idle running audible silent rx, if_pos ⟨clean, start⟩]
    rcases tx with ⟨f, tx⟩ | ⟨a, tx⟩ <;>
    · rw [frameBegins, tx]
      rfl
  · refine ⟨warmReset (quieted s), ?_, ?_⟩
    · exact exec_warmReset_sending (s := { s with link := { s.link with tx := .sending true } }) running rfl
    · rw [receive_of_idle running audible silent rx, if_pos ⟨clean, start⟩, frameBegins, tx]
      rfl
  · rw [receive_of_collecting running audible silent rx, if_pos broken]
    rfl
  all_goals rw [receive_of_collecting running audible silent rx, if_neg (by simp [clean])]
  · rw [collect_of_unended (splitFrame_of_short (by simp; omega)) (.inl (by simp; omega))]
    rfl
  · by_cases tooLong : 48 < c.toNat
    · rw [collect_of_over (by simp [five]) (by rwa [announced_sixth five]), if_pos tooLong]
      rfl
    · rw [collect_of_unended (splitFrame_of_short (by simp [five])) (.inr (by rw [announced_sixth five]; omega)), if_neg tooLong]
      rfl
  · have more : cs.length < announced cs + 7 := more
    have unended : (cs ++ [c]).length ≠ announced (cs ++ [c]) + 8 := by
      rw [announced_append six, List.length_append, List.length_singleton]
      omega
    rw [collect_of_unended (splitFrame_of_unended unended) (.inl (by simp; omega))]
    rfl
  · have six : 6 ≤ cs.length := by omega
    have ended : (cs ++ [c]).length = announced (cs ++ [c]) + 8 := by
      rw [announced_append six, List.length_append, List.length_singleton, last]
    rw [collect_of_badCrc ended (by rwa [announced_append six])]
    rfl

end Sys2Proof.Machine
end

section
/-!
Encoding: the fields of section 10.9 and the requests of section 10.3 read back from what they are written as (R183).
-/

namespace Sys2Proof.Machine

open Sys2Proof.Safety

/-! ## Fields (R183) -/

section
variable {n : Nat} (r : List Byte)

@[simp] theorem n1_length (x : Int) : (n1 x).length = 1 := rfl
@[simp] theorem n2_length (x : Int) : (n2 x).length = 2 := rfl
@[simp] theorem n4_length (x : Int) : (n4 x).length = 4 := rfl
@[simp] theorem addrField_length (a : Addr) : (addrField a).length = 6 := rfl
@[simp] theorem labelField_length (l : Label) : (labelField l).length = l.length + 1 := by
  simp [labelField, Nat.add_comm]

theorem n1_natCast (n : Nat) : n1 n = [BitVec.ofNat 8 n] := by simp [n1]

@[simp] theorem take1_n1 (h : InChar n) : take1 (n1 n ++ r) = some (n, r) := by
  rw [n1_natCast]
  simp [take1, Nat.mod_eq_of_lt h]

@[simp] theorem take2_n2 (h : InTwoChars n) : take2 (n2 n ++ r) = some (n, r) := by
  have small : ((n : Int) % 65536).toNat = n := by omega
  simp only [n2, small, List.cons_append, List.nil_append, take2, BitVec.toNat_ofNat, Option.some.injEq, Prod.mk.injEq, and_true]
  omega

@[simp] theorem take4_n4 (h : InFourChars n) : take4 (n4 n ++ r) = some (n, r) := by
  have small : ((n : Int) % 4294967296).toNat = n := by omega
  simp only [n4, small, List.cons_append, List.nil_append, take4, BitVec.toNat_ofNat, Option.some.injEq, Prod.mk.injEq, and_true]
  omega

/-- A signed number is read from its two's complement. -/
theorem n2_wrapped (v : Int) : n2 v = n2 ((v % 65536).toNat : Nat) := by
  have same : (((v % 65536).toNat : Nat) : Int) % 65536 = v % 65536 := by omega
  simp only [n2, same]

theorem n4_wrapped (v : Int) : n4 v = n4 ((v % 4294967296).toNat : Nat) := by
  have same : (((v % 4294967296).toNat : Nat) : Int) % 4294967296 = v % 4294967296 := by omega
  simp only [n4, same]

theorem takeSigned2_n2 {v : Int} (low : -32768 ≤ v) (high : v ≤ 32767) : takeSigned2 (n2 v ++ r) = some (v, r) := by
  have fits : InTwoChars (v % 65536).toNat := by unfold InTwoChars; omega
  rw [n2_wrapped, takeSigned2, take2_n2 r fits]
  simp only [Option.some.injEq, Prod.mk.injEq, and_true]
  split <;> omega

theorem takeSigned4_n4 {v : Int} (low : -2147483648 ≤ v) (high : v ≤ 2147483647) : takeSigned4 (n4 v ++ r) = some (v, r) := by
  have fits : InFourChars (v % 4294967296).toNat := by unfold InFourChars; omega
  rw [n4_wrapped, takeSigned4, take4_n4 r fits]
  simp only [Option.some.injEq, Prod.mk.injEq, and_true]
  split <;> omega

@[simp] theorem takeAddr_addrField {a : Addr} (h : a.WellFormed) : takeAddr (addrField a ++ r) = some (a, r) := by
  obtain ⟨block, sample⟩ := h
  rw [takeAddr, addrField, List.append_assoc, take4_n4 _ block]
  dsimp only
  rw [take2_n2 r sample]

@[simp] theorem takeLabel_labelField {l : Label} (h : l.length < 256) : takeLabel (labelField l ++ r) = some (l, r) := by
  have count : (BitVec.ofNat 8 l.length).toNat = l.length := by
    rw [BitVec.toNat_ofNat]
    omega
  rw [labelField, n1_natCast]
  simp [takeLabel, count]

end

/-! ## Fields read whole -/

/-- A field at the end of a payload is read whole. -/
theorem whole_of_read {α : Type} {f : Reader α} {field : List Byte} {a : α} (h : ∀ r, f (field ++ r) = some (a, r)) :
    whole (f field) = some a := by
  have read := h []
  rw [List.append_nil] at read
  rw [read]
  rfl

section
variable {n : Nat} {h : Hdr}

@[simp] theorem whole_take1 (k : InChar n) : whole (take1 (n1 n)) = some n := whole_of_read fun r => take1_n1 r k
@[simp] theorem whole_take2 (k : InTwoChars n) : whole (take2 (n2 n)) = some n := whole_of_read fun r => take2_n2 r k
@[simp] theorem whole_takeAddr {a : Addr} (k : a.WellFormed) : whole (takeAddr (addrField a)) = some a :=
  whole_of_read fun r => takeAddr_addrField r k
@[simp] theorem whole_takeLabel {l : Label} (k : l.length < 256) : whole (takeLabel (labelField l)) = some l :=
  whole_of_read fun r => takeLabel_labelField r k

theorem one_n1 (f : Nat → Instr) (k : InChar n) : one f (n1 n) = some (f n) := by rw [one, whole_take1 k]; rfl
theorem two_n2 (f : Nat → Instr) (k : InTwoChars n) : two f (n2 n) = some (f n) := by rw [two, whole_take2 k]; rfl

theorem readPair_write (f : Nat → Nat → Instr) {a b : Nat} (ha : InChar a) (hb : InChar b) :
    readPair f (n1 a ++ n1 b) = some (f a b) := by
  simp [readPair, ha, hb]

theorem readTriple_write (f : Nat → Nat → Nat → Instr) {a b c : Nat} (ha : InChar a) (hb : InChar b) (hc : InChar c) :
    readTriple f (n1 a ++ n1 b ++ n1 c) = some (f a b c) := by
  simp [readTriple, ha, hb, hc]

theorem readWind_write {d v : Nat} (hd : InChar d) (hv : InTwoChars v) : readWind h (n1 d ++ n2 v) = some (.wind h d v) := by
  simp [readWind, hd, hv]

theorem readTarget_write {t : LocTarget} (r : List Byte) (k : t.WellFormed) : readTarget (targetChars t ++ r) = some (t, r) := by
  have kind (n : Nat) (fits : InChar n) (r : List Byte) : take1 (n1 n ++ r) = some (n, r) := take1_n1 r fits
  have zero := kind 0 (by decide)
  have one := kind 1 (by decide)
  have two := kind 2 (by decide)
  have three := kind 3 (by decide)
  simp only [Nat.cast_zero, Nat.cast_one, Nat.cast_ofNat] at zero one two three
  cases t with
  | mark n =>
    have number : take1 (n1 n ++ r) = some (n, r) := take1_n1 r k
    simp [readTarget, targetChars, zero, number]
  | address a =>
    have address : takeAddr (addrField a ++ r) = some (a, r) := takeAddr_addrField r k
    simp [readTarget, targetChars, one, address]
  | next => simp [readTarget, targetChars, two]
  | previous => simp [readTarget, targetChars, three]

theorem readLocate_write {t : LocTarget} {p f l : Nat} (ht : t.WellFormed) (hp : InTwoChars p) (hf : InChar f) (hl : InTwoChars l) :
    readLocate h (targetChars t ++ n2 p ++ n1 f ++ n2 l) = some (.locate h t p f l) := by
  simp [readLocate, readTarget_write _ ht, hp, hf, hl]

theorem readMarkSet_write {k : Nat} {a : Addr} {l : Label} (hn : InChar n) (hk : InChar k) (ha : a.WellFormed) (hl : l.length < 256) :
    readMarkSet h (n1 n ++ n1 k ++ addrField a ++ labelField l) = some (.markSet h n k a l) := by
  simp [readMarkSet, hn, hk, takeAddr_addrField _ ha, hl]

theorem readMarkHere_write {k : Nat} {l : Label} (hn : InChar n) (hk : InChar k) (hl : l.length < 256) :
    readMarkHere h (n1 n ++ n1 k ++ labelField l) = some (.markHere h n k l) := by
  simp [readMarkHere, hn, hk, hl]

theorem readMarkMove_write {a : Addr} (hn : InChar n) (ha : a.WellFormed) :
    readMarkMove h (n1 n ++ addrField a) = some (.markMove h n a) := by
  simp [readMarkMove, hn, whole_takeAddr ha]

theorem readMarkTrim_write {v : Int} (hn : InChar n) (low : -2147483648 ≤ v) (high : v ≤ 2147483647) :
    readMarkTrim h (n1 n ++ n4 v) = some (.markTrim h n v) := by
  simp [readMarkTrim, hn, whole_of_read fun r => takeSigned4_n4 r low high]

theorem readMarkName_write {l : Label} (hn : InChar n) (hl : l.length < 256) :
    readMarkName h (n1 n ++ labelField l) = some (.markName h n l) := by
  simp [readMarkName, hn, hl]

theorem readFind_nearest {a : Addr} (k : a.WellFormed) : readFind h (n1 2 ++ addrField a) = some (.markFindNearest h a) := by
  have kind : take1 (n1 2 ++ addrField a) = some (2, addrField a) := take1_n1 (n := 2) _ (by decide)
  rw [readFind, kind]
  exact congrArg (Option.map _) (whole_takeAddr k)

theorem readFind_label {l : Label} (k : l.length < 256) : readFind h (n1 3 ++ labelField l) = some (.markFindLabel h l) := by
  have kind : take1 (n1 3 ++ labelField l) = some (3, labelField l) := take1_n1 (n := 3) _ (by decide)
  rw [readFind, kind]
  exact congrArg (Option.map _) (whole_takeLabel k)

/-- A field read, the rest of the payload goes to the next. -/
theorem bind_read {α β : Type} {x : Option α} {a : α} {k : α → Option β} (read : x = some a) : (x >>= k) = k a := by
  rw [read]
  rfl

theorem readProfile_write {p : Profile} (hn : InChar n) (hp : p.WellFormed) :
    readProfile h (n1 n ++ profileField p) = some (.profileWrite h n p) := by
  obtain ⟨name, hub, flange, nominal, tPlay, tWind, gain, kv, aLight, aFull, windMax, torque, slew, easeTime⟩ := hp
  have short : p.name.length < 256 := by omega
  unfold readProfile profileField
  simp only [List.append_assoc]
  exact (bind_read (take1_n1 _ hn)).trans <| (bind_read (takeLabel_labelField _ short)).trans <|
    (bind_read (take2_n2 _ hub)).trans <| (bind_read (take2_n2 _ flange)).trans <| (bind_read (take4_n4 _ nominal)).trans <|
    (bind_read (take2_n2 _ tPlay)).trans <| (bind_read (take2_n2 _ tWind)).trans <| (bind_read (take1_n1 _ gain)).trans <|
    (bind_read (take1_n1 _ kv)).trans <| (bind_read (take4_n4 _ aLight)).trans <| (bind_read (take4_n4 _ aFull)).trans <|
    (bind_read (take2_n2 _ windMax)).trans <| (bind_read (take2_n2 _ torque)).trans <| (bind_read (take1_n1 _ slew)).trans <|
    bind_read (whole_take2 easeTime)

end

/-! ## Requests (R182, section 10.3) -/

theorem parseRequest_of_reader {h : Hdr} {unit cmd : Nat} {ps : List Byte} {f : List Byte → Option Instr} {i : Instr}
    (reader : readerOf h unit cmd = some f) (read : f ps = some i) : parseRequest h unit cmd ps = .ok i := by
  simp only [parseRequest, reader, read]

theorem targetChars_length (t : LocTarget) : (targetChars t).length ≤ 7 := by
  cases t <;> simp [targetChars]

/-- Settles O12, request by request: each reader gives back what was written. -/
theorem requestsReadBack : Obligations.RequestsReadBack := by
  intro i w wire wf
  cases i
  case statusPoll h u =>
    cases wire
    obtain ⟨-, low⟩ := wf
    refine ⟨?_, Nat.zero_le _⟩
    interval_cases u <;> rfl
  case engage h p => cases wire; exact ⟨parseRequest_of_reader rfl (one_n1 _ wf.2), by simp⟩
  case stop h ps => cases wire; exact ⟨rfl, wf.2⟩
  case cue h v =>
    cases wire
    obtain ⟨-, low, high⟩ := wf
    refine ⟨parseRequest_of_reader rfl ?_, by simp⟩
    rw [whole_of_read fun r => takeSigned2_n2 r low high]
    rfl
  case wind h d v => cases wire; exact ⟨parseRequest_of_reader rfl (readWind_write wf.2.1 wf.2.2), by simp⟩
  case locate h t p f l =>
    cases wire
    obtain ⟨-, ht, hp, hf, hl⟩ := wf
    refine ⟨parseRequest_of_reader rfl (readLocate_write ht hp hf hl), ?_⟩
    have := targetChars_length t
    simp
    omega
  case anchorRead h n => cases wire; exact ⟨parseRequest_of_reader rfl (one_n1 _ wf.2), by simp⟩
  case referenceSelect h x => cases wire; exact ⟨parseRequest_of_reader rfl (one_n1 _ wf.2), by simp⟩
  case markSet h n k a l =>
    cases wire
    obtain ⟨-, hn, hk, ha, hl⟩ := wf
    refine ⟨parseRequest_of_reader rfl (readMarkSet_write hn hk ha (by omega)), ?_⟩
    simp
    omega
  case markHere h n k l =>
    cases wire
    obtain ⟨-, hn, hk, hl⟩ := wf
    refine ⟨parseRequest_of_reader rfl (readMarkHere_write hn hk (by omega)), ?_⟩
    simp
    omega
  case markMove h n a => cases wire; exact ⟨parseRequest_of_reader rfl (readMarkMove_write wf.2.1 wf.2.2), by simp⟩
  case markTrim h n v =>
    cases wire
    obtain ⟨-, hn, low, high⟩ := wf
    exact ⟨parseRequest_of_reader rfl (readMarkTrim_write hn low high), by simp⟩
  case markName h n l =>
    cases wire
    obtain ⟨-, hn, hl⟩ := wf
    refine ⟨parseRequest_of_reader rfl (readMarkName_write hn (by omega)), ?_⟩
    simp
    omega
  case markPair h a b => cases wire; exact ⟨parseRequest_of_reader rfl (readPair_write _ wf.2.1 wf.2.2), by simp⟩
  case markUnpair h n => cases wire; exact ⟨parseRequest_of_reader rfl (one_n1 _ wf.2), by simp⟩
  case markLock h n => cases wire; exact ⟨parseRequest_of_reader rfl (one_n1 _ wf.2), by simp⟩
  case markUnlock h n => cases wire; exact ⟨parseRequest_of_reader rfl (one_n1 _ wf.2), by simp⟩
  case markRetire h n => cases wire; exact ⟨parseRequest_of_reader rfl (one_n1 _ wf.2), by simp⟩
  case markRetireReel h t => cases wire; exact ⟨parseRequest_of_reader rfl (two_n2 _ wf.2), by simp⟩
  case markRead h n => cases wire; exact ⟨parseRequest_of_reader rfl (one_n1 _ wf.2), by simp⟩
  case markFindNearest h a => cases wire; exact ⟨parseRequest_of_reader rfl (readFind_nearest wf.2), by simp⟩
  case markFindLabel h l =>
    cases wire
    obtain ⟨-, hl⟩ := wf
    refine ⟨parseRequest_of_reader rfl (readFind_label (by omega)), ?_⟩
    simp
    omega
  case arm h n t r => cases wire; exact ⟨parseRequest_of_reader rfl (readTriple_write _ wf.2.1 wf.2.2.1 wf.2.2.2), by simp⟩
  case disarm h n => cases wire; exact ⟨parseRequest_of_reader rfl (one_n1 _ wf.2), by simp⟩
  case safe h t x => cases wire; exact ⟨parseRequest_of_reader rfl (readPair_write _ wf.2.1 wf.2.2), by simp⟩
  case recordOn h t => cases wire; exact ⟨parseRequest_of_reader rfl (one_n1 _ wf.2), by simp⟩
  case profileWrite h n p =>
    cases wire
    obtain ⟨-, hn, hp⟩ := wf
    refine ⟨parseRequest_of_reader rfl (readProfile_write hn hp), ?_⟩
    obtain ⟨name, -⟩ := hp
    simp [profileField]
    omega
  case serviceMask h m => cases wire; exact ⟨parseRequest_of_reader rfl (two_n2 _ wf.2), by simp⟩
  case pollConfigure h k c x => cases wire; exact ⟨parseRequest_of_reader rfl (readTriple_write _ wf.2.1 wf.2.2.1 wf.2.2.2), by simp⟩
  case profileRead h n => cases wire; exact ⟨parseRequest_of_reader rfl (one_n1 _ wf.2), by simp⟩
  case release | play | positionRead | locateRead | tensionRead | senseRead | referenceRead | faultRead | faultClear |
      markFindNext | markFindPrevious | recordOff | punchRead | storeSave | reset | groupPoll | storeRead | identify =>
    cases wire
    exact ⟨rfl, by simp⟩
  all_goals cases wire

end Sys2Proof.Machine
end

section
/-!
FramesHeard: a frame character by character is the frame taken whole, and a request row is the frame of its encoding (R180 to
R182, log entry 5).
-/

namespace Sys2Proof.Machine

open Sys2Proof.Safety

/-! ## A request row as a frame (log entry 5) -/

theorem exec_request {i : Instr} {w : Wire} (wire : requestWire i = some w) (s : State) : exec i s = live (takeRequest i) s := by
  cases i <;> cases wire <;> rfl

theorem exec_unknownCommand (f : Frame) (s : State) : exec (.unknownCommand f) s = live (takeAnyFrame f) s := rfl

theorem takeAnyFrame_of_request {i : Instr} {w : Wire} (wire : requestWire i = some w) (wf : WellFormed i) (s : State) :
    takeAnyFrame { hdr := w.hdr, unit := w.unit, cmd := w.cmd, payload := w.payload } s = takeRequest i s := by
  have action : actionOf w = .ok (handlerOf i) := by rw [actionOf, (requestsReadBack i w wire wf).1]
  rw [takeRequest, wire]
  dsimp only
  rw [← action]
  rfl

/-! ## The characters of a frame (R181) -/

/-- What a frame's characters stand for. -/
abbrev frameWire (f : Frame) : Wire := { hdr := f.hdr, unit := f.unit, cmd := f.cmd, payload := f.payload }

/-- The characters of a frame as they follow SYNC. -/
abbrev frameChars (f : Frame) : List Byte := requestChars f.hdr f.unit f.cmd f.payload

section
variable {f : Frame}

theorem chars_eq (f : Frame) : (frameChars f) = BitVec.ofNat 8 f.hdr.dest :: BitVec.ofNat 8 f.unit :: BitVec.ofNat 8 f.hdr.station ::
    BitVec.ofNat 8 f.hdr.seq :: BitVec.ofNat 8 f.cmd :: BitVec.ofNat 8 f.payload.length ::
    (f.payload ++ crcField (requestBody f.hdr f.unit f.cmd f.payload)) := by
  simp [frameChars, requestChars, requestBody, n1_natCast]

theorem chars_length (f : Frame) : (frameChars f).length = f.payload.length + 8 := by
  rw [chars_eq]
  simp [crcField]

theorem chars_announced (wf : f.WellFormed) : announced (frameChars f) = f.payload.length := by
  obtain ⟨-, -, -, short⟩ := wf
  rw [chars_eq]
  simp [announced]
  omega

/-- The last character ends the frame, and its CRC agrees. -/
theorem splitFrame_chars (wf : f.WellFormed) : splitFrame (frameChars f) = some ((frameWire f), true) := by
  obtain ⟨⟨dest, station, seq⟩, unit, cmd, short⟩ := wf
  have count : (BitVec.ofNat 8 f.payload.length).toNat = f.payload.length := by
    rw [BitVec.toNat_ofNat]
    omega
  have body : BitVec.ofNat 8 f.hdr.dest :: BitVec.ofNat 8 f.unit :: BitVec.ofNat 8 f.hdr.station :: BitVec.ofNat 8 f.hdr.seq ::
      BitVec.ofNat 8 f.cmd :: BitVec.ofNat 8 f.payload.length :: f.payload = requestBody f.hdr f.unit f.cmd f.payload := by
    simp [requestBody, n1_natCast]
  have ended : (f.payload ++ crcField (requestBody f.hdr f.unit f.cmd f.payload)).length = f.payload.length + 2 := by simp [crcField]
  rw [chars_eq]
  unfold splitFrame
  dsimp only
  rw [count, if_pos ended, List.take_left, List.drop_left, body]
  simp [Nat.mod_eq_of_lt dest, Nat.mod_eq_of_lt station, Nat.mod_eq_of_lt seq, Nat.mod_eq_of_lt unit, Nat.mod_eq_of_lt cmd]

/-- A frame not yet ended goes on being collected. -/
theorem prefix_unended (wf : f.WellFormed) {cs r : List Byte} (h : cs ++ r = (frameChars f)) (more : r ≠ []) :
    splitFrame cs = none ∧ (cs.length ≠ 6 ∨ announced cs ≤ 48) := by
  have short : f.payload.length ≤ 48 := wf.2.2.2
  have total : cs.length + r.length = f.payload.length + 8 := by rw [← chars_length, ← h, List.length_append]
  have rest : 0 < r.length := List.length_pos_iff.mpr more
  by_cases six : 6 ≤ cs.length
  · have same : announced cs = f.payload.length := by
      rw [← chars_announced wf, ← h]
      simp only [announced, List.getD_eq_getElem?_getD]
      rw [List.getElem?_append_left (by omega)]
    exact ⟨splitFrame_of_unended (by omega), .inr (by omega)⟩
  · exact ⟨splitFrame_of_short (by omega), .inl (by omega)⟩

end

/-! ## A frame heard (R180) -/

section
variable {f : Frame} {s : State}

/-- The card while it collects. -/
abbrev collecting (cs : List Byte) (s : State) : State := s.onLink fun l => { l with rx := .collecting cs }

theorem hear_cons (c : Byte) (r : List Byte) (s : State) (running : s.inReset = false) :
    hear (c :: r) s = hear r (receive c false s) := by
  rw [hear, exec_character running]

theorem hear_frame (wf : f.WellFormed) (running : s.inReset = false) (audible : s.link.silent = false) (quiet : s.link.tx = .quiet) :
    ∀ (r cs : List Byte), cs ++ r = (frameChars f) → r ≠ [] →
      hear r (collecting cs s) = .next (takeComplete (frameWire f) (actionOf (frameWire f)) s) := by
  intro r
  induction r with
  | nil => exact fun cs _ none => absurd rfl none
  | cons c r ih =>
    intro cs whole _
    have silent : ∀ b, (collecting cs s).link.tx ≠ .sending b := by simp [quiet]
    have next : receive c false (collecting cs s) = collect (cs ++ [c]) (collecting cs s) :=
      (receive_of_collecting (s := collecting cs s) running audible silent rfl).trans (if_neg (by simp))
    have whole' : (cs ++ [c]) ++ r = (frameChars f) := by simpa using whole
    rw [hear_cons c r (collecting cs s) running, next]
    cases r with
    | nil =>
      rw [List.append_nil] at whole'
      rw [whole', collect, splitFrame_chars wf]
      rfl
    | cons d r =>
      obtain ⟨unended, fits⟩ := prefix_unended wf whole' (by simp)
      rw [collect_of_unended unended fits]
      exact ih (cs ++ [c]) whole' (by simp)

end

/-- Settles O13: SYNC opens the frame, its characters are collected, and the last hands it on as the frame taken whole does. -/
theorem framesAreRequests : Obligations.FramesAreRequests := by
  refine ⟨fun f s wf running audible quiet rx => ?_, fun i w s wire wf => ?_⟩
  · have silent : ∀ b, s.link.tx ≠ .sending b := by simp [quiet]
    have opened : receive sync false s = collecting [] s := by
      rw [receive_of_idle running audible silent rx, if_pos ⟨rfl, rfl⟩, frameBegins, quiet]
    have taken : takeAnyFrame f s = takeComplete (frameWire f) (actionOf (frameWire f)) s := by
      rw [takeAnyFrame, takeFrame, if_pos ⟨running, audible⟩, frameBegins_endSending_of_quiet quiet]
    rw [hear_cons _ _ _ running, opened, hear_frame wf running audible quiet (frameChars f) [] rfl (by rw [chars_eq]; simp),
      exec_unknownCommand, live_of_running running, taken]
  · rw [exec_request wire, exec_unknownCommand]
    unfold live
    rw [takeAnyFrame_of_request wire wf]

end Sys2Proof.Machine
end

section
/-!
LineKept: what the blocks do to the link is to raise events; the rest of the line stays as the port has it (R187).
-/

namespace Sys2Proof.Machine

open Sys2Proof.Safety

/-- The link but for the event summary. -/
abbrev lineOf (l : Link) : Link := { l with summary := 0 }

theorem linkKept_iff {s t : State} : LinkKept s t ↔ lineOf t.link = lineOf s.link :=
  ⟨fun h => (congrArg lineOf h :), fun h => (congrArg (fun l => { l with summary := s.link.summary }) h :)⟩

section
variable (s : State)

@[simp] theorem raise_line (e : Event) : lineOf (raise e s).link = lineOf s.link := rfl

@[simp] theorem raiseIf_line (b : Bool) (e : Event) : lineOf (raiseIf b e s).link = lineOf s.link := by
  unfold raiseIf
  split <;> rfl

/-- Operations that keep the line keep it one after another. -/
theorem foldl_line {α : Type} {f : State → α → State} (h : ∀ s a, lineOf (f s a).link = lineOf s.link) (l : List α) (s : State) :
    lineOf (l.foldl f s).link = lineOf s.link :=
  foldl_keeps (fun s => lineOf s.link) h l s

/-! ## The Punch Unit -/

@[simp] theorem completeEntry_line (e : Entry) (r : PunchResult) (x y : Option Addr) :
    lineOf (completeEntry e r x y s).link = lineOf s.link := rfl

@[simp] theorem endActive_line (b : Bool) : lineOf (endActive b s).link = lineOf s.link := by
  unfold endActive
  split
  · split
    · split <;> simp
    · rfl
  · rfl

@[simp] theorem dropGates_line : lineOf (dropGates s).link = lineOf s.link := by
  simp only [dropGates, manualOff_frame, endActive_line, closeGates_frame]

@[simp] theorem dropMonitors_line : lineOf (dropMonitors s).link = lineOf s.link := by simp only [dropMonitors, endActive_line, closeMonitors_frame]

@[simp] theorem gateGuard_line : lineOf (gateGuard s).link = lineOf s.link := by
  simp only [gateGuard, dropPending_frame]
  split <;> split <;> simp

@[simp] theorem abortActive_line : lineOf (abortActive s).link = lineOf s.link := by
  simp only [abortActive, dropMonitors_line]
  split <;> simp

@[simp] theorem judgeEntry_line (n : Nat) : lineOf (judgeEntry s n).link = lineOf s.link := by
  unfold judgeEntry
  split
  · split
    · split <;> simp
    · split <;> simp
    · rfl
  · rfl

@[simp] theorem guardReact_line : lineOf (guardReact s).link = lineOf s.link := by
  simp only [guardReact, gateGuard_line, reformManual_frame]
  exact (foldl_line judgeEntry_line _ _).trans (by simp)

@[simp] theorem removeEntry_line (n : Nat) : lineOf (removeEntry n s).link = lineOf s.link := by
  simp only [removeEntry, State.onPunch_link]
  split <;> simp

@[simp] theorem removeEntriesOf_line (n : Nat) : lineOf (removeEntriesOf s n).link = lineOf s.link :=
  foldl_line (fun s n => removeEntry_line s n) _ _

@[simp] theorem reportToPunch_line (rs : List Report) : lineOf (reportToPunch rs s).link = lineOf s.link := by
  simp only [reportToPunch, guardReact_line, moveEntries_frame]
  exact foldl_line removeEntriesOf_line _ _

@[simp] theorem leaveRunPunch_line : lineOf (leaveRunPunch s).link = lineOf s.link := by
  simp only [leaveRunPunch, State.onPunch_link, dropMonitors_line, dropGates_line]

/-! ## The Motion Controller -/

@[simp] theorem enterMode_line (m : Mode) : lineOf (enterMode m s).link = lineOf s.link := by
  rcases enterMode_cases m s with steady | ⟨run, away⟩ | ⟨run, rfl⟩
  · rw [enterMode_link_steady steady]
  · rw [enterMode_link_leave run away, leaveRunPunch_line]
  · simp [enterMode_of_enter run]

@[simp] theorem enterStopping_line (k : StopKind) : lineOf (enterStopping k s).link = lineOf s.link := enterMode_line s _
@[simp] theorem enterReleasing_line : lineOf (enterReleasing s).link = lineOf s.link := enterMode_line s _
@[simp] theorem enterPlay_line : lineOf (enterPlay s).link = lineOf s.link := enterMode_line s _

@[simp] theorem writeResult_line (r : LocEnd) (c : LocCtx) : lineOf (writeResult r c s).link = lineOf s.link := rfl

@[simp] theorem endLocate_line (r : LocEnd) : lineOf (endLocate r s).link = lineOf s.link := by
  unfold endLocate
  split <;> rfl

@[simp] theorem dropHeld_line (r : LocEnd) : lineOf (dropHeld r s).link = lineOf s.link := by
  unfold dropHeld
  split <;> rfl

@[simp] theorem toLocateRun_line (c : LocCtx) : lineOf (toLocateRun c s).link = lineOf s.link := by
  simp only [toLocateRun, enterMode_line, setLoc_frame]

@[simp] theorem toApproach_line (c : LocCtx) : lineOf (toApproach c s).link = lineOf s.link := by
  simp only [toApproach, State.onMotion_link, enterMode_line, setLoc_frame]

@[simp] theorem judgeTarget_line (c : LocCtx) : lineOf (judgeTarget c s).link = lineOf s.link := by
  simp only [judgeTarget]
  split
  case h_4 => simp
  all_goals split_ifs <;> simp

@[simp] theorem reportToLocate_line (r : Report) : lineOf (reportToLocate r s).link = lineOf s.link := by
  unfold reportToLocate
  split
  · split_ifs <;> simp
  · rfl

@[simp] theorem reportToHeld_line (r : Report) : lineOf (reportToHeld r s).link = lineOf s.link := by
  unfold reportToHeld
  split
  · split_ifs <;> simp
  · rfl

@[simp] theorem reportToMotion_line (r : Report) : lineOf (reportToMotion s r).link = lineOf s.link := by
  simp only [reportToMotion, reportToHeld_line, reportToLocate_line]

@[simp] theorem deliver_line (rs : List Report) : lineOf (deliver rs s).link = lineOf s.link := by
  unfold deliver
  split
  · rfl
  · exact (reportToPunch_line _ rs).trans (foldl_line reportToMotion_line _ _)

@[simp] theorem beginPlay_line : lineOf (beginPlay s).link = lineOf s.link := by simp only [beginPlay, enterPlay_line, endLocate_line]

@[simp] theorem beginCue_line (w : Int) : lineOf (beginCue w s).link = lineOf s.link := by
  simp only [beginCue, State.onMotion_link, enterMode_line, endLocate_line]

@[simp] theorem beginWind_line (w : Int) : lineOf (beginWind w s).link = lineOf s.link := by
  simp only [beginWind, State.onMotion_link, enterMode_line, endLocate_line]

@[simp] theorem beginLocate_line (c : LocCtx) : lineOf (beginLocate c s).link = lineOf s.link := by
  simp only [beginLocate, State.onMotion_link, enterMode_line, setLoc_frame, endLocate_line]

@[simp] theorem holdRequest_line (h : Held) : lineOf (holdRequest h s).link = lineOf s.link := by
  simp only [holdRequest, State.onMotion_link]
  split <;> simp

@[simp] theorem beginEngage_line (n : Nat) : lineOf (beginEngage n s).link = lineOf s.link := by
  simp only [beginEngage, restartWindow_frame, midpointRadii_frame, State.onServo_link, State.onMotion_link, enterMode_line,
    State.onStore_link]

@[simp] theorem stopEffect_line : lineOf (stopEffect s).link = lineOf s.link := by
  unfold stopEffect
  split <;> simp

/-! ## The Capstan and Reference Unit -/

@[simp] theorem referenceTurned_line : lineOf (referenceTurned s).link = lineOf s.link := by
  simp only [referenceTurned, gateGuard_line, driveCapstan_frame, State.onCapstan_link, unlockCapstan_frame]

@[simp] theorem moveRefState_line (r : RefState) : lineOf (moveRefState r s).link = lineOf s.link := by
  unfold moveRefState
  split_ifs <;> simp

@[simp] theorem selectInternal_line : lineOf (selectInternal s).link = lineOf s.link := by
  simp only [selectInternal]
  split <;> simp

@[simp] theorem selectWordClock_line : lineOf (selectWordClock s).link = lineOf s.link := by simp [selectWordClock]

@[simp] theorem spbChanged_line : lineOf (spbChanged s).link = lineOf s.link := by
  unfold spbChanged
  split <;> simp

@[simp] theorem warmCapstan_line : lineOf (warmCapstan s).link = lineOf s.link := by
  simp only [warmCapstan, driveCapstan_frame, State.onCapstan_link, restartQualification_frame]
  split <;> simp

/-! ## The marks and the tracker -/

@[simp] theorem retireMarks_line (ns : List Nat) : lineOf (retireMarks ns s).link = lineOf s.link := by simp [retireMarks]

@[simp] theorem captureReturn_line : lineOf (captureReturn s).link = lineOf s.link := by
  unfold captureReturn
  split <;> simp

@[simp] theorem writeMark_line (n : Nat) (m : Mark) : lineOf (writeMark n m s).link = lineOf s.link := by
  unfold writeMark
  split <;> simp

@[simp] theorem linkMarks_line (a b : Nat) (x y : Mark) : lineOf (linkMarks a b x y s).link = lineOf s.link := by
  simp [linkMarks]

@[simp] theorem clearTracker_line : lineOf (clearTracker s).link = lineOf s.link := by
  simp only [clearTracker]
  split <;> simp

@[simp] theorem unthreadMarks_line : lineOf (unthreadMarks s).link = lineOf s.link := by
  simp [unthreadMarks]

end

theorem address_of_line {l k : Link} (h : lineOf l = lineOf k) : l.address = k.address := (congrArg Link.address h :)

end Sys2Proof.Machine
end

section
/-!
FramesAnswered: what becomes of a frame that is not carried out, and of a request that its block refuses (R181, R182, R186).
-/

namespace Sys2Proof.Machine

open Sys2Proof.Safety

/-! ## Frames not carried out (R181, R182, R186) -/

section
variable {f : Frame} {s : State}

/-- A frame on a line without a transmission of the card is judged on its destination. -/
theorem exec_frame (running : s.inReset = false) (audible : s.link.silent = false) (quiet : s.link.tx = .quiet) :
    exec (.unknownCommand f) s = .next (takeComplete (frameWire f) (actionOf (frameWire f)) s) := by
  rw [exec_unknownCommand, live_of_running running, takeAnyFrame, takeFrame, if_pos ⟨running, audible⟩,
    frameBegins_endSending_of_quiet quiet]

theorem takeComplete_of_other {w : Wire} {a : Action} (single : w.hdr.dest ≠ broadcastDest) (other : ¬ Addressed w.hdr s) :
    takeComplete w a s = disregarding s := by
  have other' : ¬ Addressed w.hdr (disregarding s) := other
  rw [takeComplete, if_neg single, if_neg other']

theorem takeComplete_of_broadcast {w : Wire} {a : Action} (all : w.hdr.dest = broadcastDest) :
    takeComplete w a s = takeBroadcast w a (disregarding s) := by
  rw [takeComplete, if_pos all]

theorem takeComplete_of_addressed {w : Wire} {a : Action} (names : Addressed w.hdr s) :
    takeComplete w a s = takeAddressed w a (disregarding s) := by
  have named : Addressed w.hdr (disregarding s) := names
  rw [takeComplete, if_neg (dest_ne_broadcast_of_addressed names), if_pos named]

theorem retryFor_of_matches {w : Wire} {e : Retry} (stored : slotGet w.hdr.station s.link.retry = some e) (same : Matches w e) :
    retryFor w s = some e := by
  rw [retryFor, stored]
  exact if_pos same

theorem framesNotTaken (running : s.inReset = false) (audible : s.link.silent = false) (quiet : s.link.tx = .quiet) :
    (f.hdr.dest ≠ 31 → ¬ Addressed f.hdr s →
      exec (.unknownCommand f) s = .next { s with link := { s.link with rx := .disregard } }) ∧
    (f.hdr.dest = 31 → ¬ StationOk f.hdr.station →
      exec (.unknownCommand f) s = .next { s with link := { s.link with rx := .disregard } }) ∧
    (Addressed f.hdr s → ¬ StationOk f.hdr.station →
      exec (.unknownCommand f) s = .next { s with link := { s.link with
        rx := .disregard
        tx := .replyDue (replyFrame s.link.address f.unit f.hdr (.refuse .badStation)) false } }) ∧
    ∀ e, Addressed f.hdr s → StationOk f.hdr.station → slotGet f.hdr.station s.link.retry = some e → f.hdr.seq ≠ 0 →
      e.unit = f.unit → e.seq = f.hdr.seq → e.cmd = f.cmd → e.payload = f.payload →
      exec (.unknownCommand f) s = .next { s with link := { s.link with rx := .disregard, tx := .replyDue e.reply false } } := by
  rw [exec_frame running audible quiet]
  refine ⟨fun single other => ?_, fun all unlisted => ?_, fun names unlisted => ?_,
    fun e names station stored seq unit seq' cmd payload => ?_⟩
  · rw [takeComplete_of_other (w := frameWire f) single other]
    rfl
  · rw [takeComplete_of_broadcast (w := frameWire f) all, takeBroadcast, if_neg unlisted]
    rfl
  · rw [takeComplete_of_addressed (w := frameWire f) names, takeAddressed, if_pos unlisted]
    rfl
  · have found : retryFor (frameWire f) (disregarding s) = some e :=
      retryFor_of_matches (w := frameWire f) stored ⟨seq, unit, seq', cmd, payload⟩
    rw [takeComplete_of_addressed (w := frameWire f) names, takeAddressed, if_neg (not_not_intro station), found]
    rfl

/-! ## Steps 2 to 4 of R182 -/

theorem readerOf_above {h : Hdr} {u c : Nat} (above : 3 < u) : readerOf h u c = none := by
  unfold readerOf
  split
  case h_5 => rfl
  all_goals omega

/-- A frame that the port refuses: the block is not asked, and nothing but the link changes. -/
theorem exec_frame_refused {c : Code} (takes : Takes (frameWire f) s) (refused : parseRequest f.hdr f.unit f.cmd f.payload = .error c)
    (notOk : c ≠ .ok) : exec (.unknownCommand f) s = .next { s with link := answeredLink (frameWire f) c [] s } := by
  obtain ⟨running, -⟩ := id takes
  have action : actionOf (frameWire f) = .error c := by rw [actionOf, refused]
  have noReset : resetAccepted (frameWire f) (.refuse c) = false := by simp [resetAccepted, Resp.refuse, notOk]
  rw [exec_unknownCommand, live_of_running running, takeAnyFrame, action, takeFrame_of_takes takes, perform,
    answer_unchanged noReset]
  rfl

/-- Settles O14: the frame's destination, station, stored reply, unit and command, and payload are judged in that order. -/
theorem framesRefused : Obligations.FramesRefused := by
  refine ⟨fun f s running audible quiet => framesNotTaken running audible quiet,
    fun f s takes => ⟨fun unknown => ?_, fun r reader wrong => ?_⟩⟩
  · have none : readerOf f.hdr f.unit f.cmd = none := unknown.elim readerOf_above id
    exact exec_frame_refused takes (by rw [parseRequest, none]) (by simp)
  · exact exec_frame_refused takes (by simp only [parseRequest, reader, wrong]) (by simp)

end

/-! ## What a block's refusal leaves (R182) -/

/-- An answer of a block that worked on `s`: accepted, or a refusal that carries nothing and leaves the state. -/
def AcceptedOrRefused (s : State) (p : Resp × State) : Prop :=
  p.1.code = .ok ∨ p.1.code = .clamped ∨ (p.1.payload = [] ∧ p.2 = s)

section
variable {s t : State}

@[simp] theorem accepted_ok : AcceptedOrRefused s (.ok, t) := .inl rfl
@[simp] theorem accepted_okWith {ps : List Byte} : AcceptedOrRefused s (.okWith ps, t) := .inl rfl

@[simp] theorem accepted_clampedIf {b : Bool} {ps : List Byte} : AcceptedOrRefused s (.clampedIf b ps, t) := by
  cases b
  · exact .inl rfl
  · exact .inr (.inl rfl)

@[simp] theorem refused_unchanged {c : Code} : AcceptedOrRefused s (.refuse c, s) := .inr (.inr ⟨rfl, rfl⟩)

/-- A check that a request may fail. -/
theorem accepted_of_check {p : Prop} [Decidable p] {c : Code} {x : Resp × State} :
    AcceptedOrRefused s (if p then (.refuse c, s) else x) ↔ (¬ p → AcceptedOrRefused s x) := by
  split <;> simp [*]

end

section
variable (s : State) (ctx : Ctx)

@[simp] theorem reqEngage_answers (n : Nat) : AcceptedOrRefused s (reqEngage n ctx s) := by
  unfold reqEngage
  (repeat' split) <;> simp

@[simp] theorem reqRelease_answers : AcceptedOrRefused s (reqRelease ctx s) := by
  unfold reqRelease
  (repeat' split) <;> simp

@[simp] theorem reqPlay_answers : AcceptedOrRefused s (reqPlay ctx s) := by
  unfold reqPlay
  (repeat' split) <;> simp

@[simp] theorem reqCue_answers (v : Int) : AcceptedOrRefused s (reqCue v ctx s) := by
  unfold reqCue
  (repeat' split) <;> simp

@[simp] theorem reqWind_answers (d v : Nat) : AcceptedOrRefused s (reqWind d v ctx s) := by
  unfold reqWind
  (repeat' split) <;> simp

@[simp] theorem reqLocate_answers (t : LocTarget) (p f l : Nat) : AcceptedOrRefused s (reqLocate t p f l ctx s) := by
  unfold reqLocate
  (repeat' split) <;> simp

@[simp] theorem reqReferenceSelect_answers (x : Nat) : AcceptedOrRefused s (reqReferenceSelect x ctx s) := by
  unfold reqReferenceSelect
  (repeat' split) <;> simp

@[simp] theorem reqFaultClear_answers : AcceptedOrRefused s (reqFaultClear ctx s) := by
  unfold reqFaultClear
  (repeat' split) <;> simp

@[simp] theorem reqMarkSet_answers (n k : Nat) (a : Addr) (l : Label) : AcceptedOrRefused s (reqMarkSet n k a l ctx s) := by
  unfold reqMarkSet
  (repeat' split) <;> simp

@[simp] theorem reqMarkHere_answers (n k : Nat) (l : Label) : AcceptedOrRefused s (reqMarkHere n k l ctx s) := by
  unfold reqMarkHere
  (repeat' split) <;> simp

@[simp] theorem reqMarkMove_answers (n : Nat) (a : Addr) : AcceptedOrRefused s (reqMarkMove n a ctx s) := by
  unfold reqMarkMove
  split
  · simp
  · simp only [accepted_of_check, accepted_okWith, implies_true]

@[simp] theorem reqMarkTrim_answers (n : Nat) (v : Int) : AcceptedOrRefused s (reqMarkTrim n v ctx s) := by
  unfold reqMarkTrim
  split
  · simp
  · simp only [accepted_of_check]
    intros
    split <;> simp

@[simp] theorem reqMarkName_answers (n : Nat) (l : Label) : AcceptedOrRefused s (reqMarkName n l ctx s) := by
  unfold reqMarkName
  (repeat' split) <;> simp

@[simp] theorem reqMarkPair_answers (a b : Nat) : AcceptedOrRefused s (reqMarkPair a b ctx s) := by
  unfold reqMarkPair
  (repeat' split) <;> simp

@[simp] theorem reqMarkUnpair_answers (n : Nat) : AcceptedOrRefused s (reqMarkUnpair n ctx s) := by
  unfold reqMarkUnpair
  (repeat' split) <;> simp

@[simp] theorem lockMark_answers (n : Nat) (b : Bool) : AcceptedOrRefused s (lockMark n b ctx s) := by
  unfold lockMark
  (repeat' split) <;> simp

@[simp] theorem reqMarkRetire_answers (n : Nat) : AcceptedOrRefused s (reqMarkRetire n ctx s) := by
  unfold reqMarkRetire
  (repeat' split) <;> simp

@[simp] theorem reqMarkRead_answers (n : Nat) : AcceptedOrRefused s (reqMarkRead n ctx s) := by
  unfold reqMarkRead
  (repeat' split) <;> simp

@[simp] theorem findResp_answers (o : Option (Nat × Int)) : AcceptedOrRefused s (findResp s o, s) := by
  unfold findResp
  (repeat' split) <;> simp

@[simp] theorem reqFindNext_answers : AcceptedOrRefused s (reqFindNext ctx s) := by
  unfold reqFindNext
  (repeat' split) <;> simp

@[simp] theorem reqFindPrevious_answers : AcceptedOrRefused s (reqFindPrevious ctx s) := by
  unfold reqFindPrevious
  (repeat' split) <;> simp

@[simp] theorem reqFindNearest_answers (a : Addr) : AcceptedOrRefused s (reqFindNearest a ctx s) := by
  unfold reqFindNearest
  (repeat' split) <;> simp

@[simp] theorem reqFindLabel_answers (l : Label) : AcceptedOrRefused s (reqFindLabel l ctx s) := by
  unfold reqFindLabel
  (repeat' split) <;> simp

@[simp] theorem armPair_answers (n p : Nat) (t : Tracks) (r : Bool) : AcceptedOrRefused s (armPair n p t r s) := by
  simp only [armPair, accepted_of_check, accepted_ok, implies_true]

@[simp] theorem reqArm_answers (n t r : Nat) : AcceptedOrRefused s (reqArm n t r ctx s) := by
  unfold reqArm
  (repeat' split) <;> simp

@[simp] theorem reqDisarm_answers (n : Nat) : AcceptedOrRefused s (reqDisarm n ctx s) := by
  unfold reqDisarm
  (repeat' split) <;> simp

@[simp] theorem reqSafe_answers (t x : Nat) : AcceptedOrRefused s (reqSafe t x ctx s) := by
  unfold reqSafe
  (repeat' split) <;> simp

@[simp] theorem reqRecordOn_answers (t : Nat) : AcceptedOrRefused s (reqRecordOn t ctx s) := by
  unfold reqRecordOn
  (repeat' split) <;> simp

@[simp] theorem reqRecordOff_answers : AcceptedOrRefused s (reqRecordOff ctx s) := by
  unfold reqRecordOff
  (repeat' split) <;> simp

@[simp] theorem reqProfileWrite_answers (n : Nat) (p : Profile) : AcceptedOrRefused s (reqProfileWrite n p ctx s) := by
  unfold reqProfileWrite
  (repeat' split) <;> simp

@[simp] theorem reqStoreSave_answers : AcceptedOrRefused s (reqStoreSave ctx s) := by
  unfold reqStoreSave
  (repeat' split) <;> simp

@[simp] theorem reqStatusPoll_answers : AcceptedOrRefused s (reqStatusPoll ctx s) := by
  unfold reqStatusPoll
  (repeat' split) <;> simp

@[simp] theorem reqServiceMask_answers (m : Nat) : AcceptedOrRefused s (reqServiceMask m ctx s) := by
  unfold reqServiceMask
  (repeat' split) <;> simp

@[simp] theorem reqPollConfigure_answers (k c x : Nat) : AcceptedOrRefused s (reqPollConfigure k c x ctx s) := by
  unfold reqPollConfigure
  (repeat' split) <;> simp

@[simp] theorem reqReset_answers : AcceptedOrRefused s (reqReset ctx s) := by
  unfold reqReset
  (repeat' split) <;> simp

@[simp] theorem reqGroupPoll_answers : AcceptedOrRefused s (reqGroupPoll ctx s) := by
  unfold reqGroupPoll
  (repeat' split) <;> simp

@[simp] theorem reqProfileRead_answers (n : Nat) : AcceptedOrRefused s (reqProfileRead n ctx s) := by
  unfold reqProfileRead
  (repeat' split) <;> simp

@[simp] theorem reqAnchorRead_answers (n : Nat) : AcceptedOrRefused s (reqAnchorRead n ctx s) := by
  unfold reqAnchorRead
  (repeat' split) <;> simp

/-- Every block accepts a request, or refuses it without a change. -/
theorem handlerOf_answers (i : Instr) : AcceptedOrRefused s (handlerOf i ctx s) := by
  cases i
  case statusPoll h u =>
    by_cases above : 3 < u <;> simp [handlerOf, above]
  all_goals simp [handlerOf, reqStop, reqPositionRead, reqLocateRead, reqTensionRead, reqSenseRead, reqReferenceRead, reqFaultRead,
    reqMarkRetireReel, reqPunchRead, reqStoreRead, reqIdentify]

end

/-! ## Requests answered -/

theorem warmReset_address (s : State) : (warmReset s).link.address = s.link.address := by
  have line : lineOf (warmReset s).link = lineOf (warmLink s).link := by simp [warmReset]
  exact (address_of_line line :)

/-- A block that carries out a request keeps the card's address. -/
theorem carries_address {s t : State} (h : Carries s t) : t.link.address = s.link.address := by
  cases h
  case warmReset => exact warmReset_address s
  case disarmAll => exact address_of_line (foldl_line (fun s n => removeEntry_line s n) _ _)
  case mask => rfl
  case poll => rfl
  case slot => rfl
  all_goals exact address_of_line (by simp)

/-- Who an addressed request comes from. -/
abbrev askedBy (w : Wire) : Ctx := { station := w.hdr.station, broadcast := false }

/-- A request that reaches its block is answered with what the block says. -/
theorem exec_takes {i : Instr} {w : Wire} {s : State} (wire : requestWire i = some w) (takes : Takes w s) :
    exec i s = .next (answer w (handlerOf i (askedBy w) (disregarding s))) := by
  obtain ⟨running, -⟩ := id takes
  rw [exec_request wire, live_of_running running, takeRequest, wire]
  dsimp only
  rw [takeFrame_of_takes takes, perform]

theorem resetAccepted_of_not_ok {w : Wire} {r : Resp} (notOk : r.code ≠ .ok) : resetAccepted w r = false := by
  simp [resetAccepted, notOk]

/-- Settles O15: the reply owed is the block's code and payload, and a block that refuses leaves the state it was given. -/
theorem refusedChangesNothing : Obligations.RefusedChangesNothing := by
  intro i w s wire takes
  obtain ⟨⟨r, t⟩, handled⟩ : ∃ p, handlerOf i (askedBy w) (disregarding s) = p := ⟨_, rfl⟩
  have same : t.link.address = s.link.address := by
    have kept := carries_address (handlerOf_carries (s := disregarding s) (askedBy w) i)
    rw [handled] at kept
    exact kept
  have answers : AcceptedOrRefused (disregarding s) (r, t) := handled ▸ handlerOf_answers _ _ i
  have done : exec i s = .next (answer w (r, t)) := handled ▸ exec_takes wire takes
  refine ⟨r.code, r.payload, resetAccepted w r, _, done, ?_, fun notOk notClamped => ?_⟩
  · simp only [answer, oweReply, State.onLink_link, same]
    rfl
  · obtain ⟨payload, rfl⟩ := (answers.resolve_left notOk).resolve_left notClamped
    exact ⟨payload, payload ▸ answer_unchanged (resetAccepted_of_not_ok notOk) s⟩

end Sys2Proof.Machine
end

section
/-!
Requests: a request that its block accepts, and the requests that read or set a few fields (chapters 8 and 10).
-/

namespace Sys2Proof.Machine

open Sys2Proof.Safety

/-! ## An accepted request -/

/-- Who an addressed request row comes from. -/
def asker (i : Instr) : Ctx where
  station := match requestWire i with
    | some w => w.hdr.station
    | none => 0
  broadcast := false

theorem resetAccepted_of_other {i : Instr} {w : Wire} (wire : requestWire i = some w) (other : ∀ h, i ≠ .reset h) (r : Resp) :
    resetAccepted w r = false := by
  have apart : ¬ (w.unit = 3 ∧ w.cmd = 0x05) := by
    cases i <;> cases wire
    case reset h => exact absurd rfl (other h)
    all_goals simp
  simp only [resetAccepted, ← and_assoc, apart, false_and, decide_false]

/-- A request whose block answers `r` and leaves the state `t`: the reply is owed and kept. -/
theorem exec_linked {i : Instr} {s t : State} {r : Resp} (hears : Hears i s) (other : ∀ h, i ≠ .reset h)
    (handled : handlerOf i (asker i) (disregarding s) = (r, t)) (address : t.link.address = s.link.address)
    (retry : t.link.retry = s.link.retry) :
    exec i s = .next { t with link := { t.link with
      tx := (answered i r.code r.payload s).tx, retry := (answered i r.code r.payload s).retry } } := by
  obtain ⟨w, wire, takes⟩ := hears
  have asks : asker i = askedBy w := by
    have wire' : requestWire i = some w := wire
    rw [asker, wire']
  rw [asks] at handled
  rw [exec_takes wire takes, handled, answer, resetAccepted_of_other wire other, answered_of_requestWire wire]
  simp only [oweReply, State.onLink, address, retry]
  rfl

/-- The same, where the link has changed by events only. -/
theorem exec_answered {i : Instr} {s t : State} {r : Resp} (hears : Hears i s) (other : ∀ h, i ≠ .reset h)
    (handled : handlerOf i (asker i) (disregarding s) = (r, t)) (line : lineOf t.link = lineOf (disregarding s).link) :
    exec i s = .next { t with link := { answered i r.code r.payload s with summary := t.link.summary } } := by
  have link : t.link = { (disregarding s).link with summary := t.link.summary } :=
    (congrArg (fun l => { l with summary := t.link.summary }) line :)
  rw [exec_linked hears other handled (congrArg Link.address line :) (congrArg Link.retry line :), link]
  obtain ⟨w, wire, -⟩ := hears
  rw [answered_of_requestWire wire]
  rfl

/-- The same, where the link has not changed. -/
theorem exec_silent {i : Instr} {s t : State} {r : Resp} (hears : Hears i s) (other : ∀ h, i ≠ .reset h)
    (handled : handlerOf i (asker i) (disregarding s) = (r, t)) (line : t.link = (disregarding s).link) :
    exec i s = .next { t with link := answered i r.code r.payload s } := by
  have done := exec_answered hears other handled (congrArg lineOf line)
  obtain ⟨w, wire, -⟩ := hears
  rw [done, line, answered_of_requestWire wire]
  rfl

/-- A request that its block answers without a change. -/
theorem exec_read {i : Instr} {s : State} {r : Resp} (hears : Hears i s) (other : ∀ h, i ≠ .reset h)
    (handled : handlerOf i (asker i) (disregarding s) = (r, disregarding s)) :
    exec i s = .next { s with link := answered i r.code r.payload s } :=
  (exec_silent (t := disregarding s) hears other handled rfl :)

/-! ## Readings -/

/-- Settles O47: each block answers its reading with the fields as they stand. -/
theorem blockReads : Obligations.BlockReads := by
  refine ⟨fun h s => ⟨fun hears => ?_, fun hears => ?_, fun hears => ?_, fun hears => ?_⟩,
    fun h s => ⟨fun hears => ?_, fun hears => ?_, fun hears => ?_, fun hears => ?_⟩⟩
  · exact exec_read hears nofun (r := .okWith _) rfl
  · exact exec_read hears nofun (r := .okWith _) rfl
  · exact exec_read hears nofun (r := .okWith _) rfl
  · exact exec_read hears nofun (r := .okWith _) rfl
  · exact exec_read hears nofun (r := .okWith _) rfl
  · exact exec_read hears nofun (r := .okWith _) rfl
  · exact exec_read hears nofun (r := .okWith _) rfl
  · exact exec_read hears nofun (r := .okWith _) rfl

theorem reqAnchorRead_of_anchor {index : Nat} {a : Anchor} {s : State} (anchor : s.tracker.map[index]? = some a) (ctx : Ctx) :
    reqAnchorRead index ctx s =
      (.okWith (n1 index ++ n4 a.count ++ n4 a.ticks ++ n4 (blockOf a.ticks) ++ yesNo a.live), s) := by
  rw [reqAnchorRead, anchor]

theorem reqAnchorRead_beyond {index : Nat} {s : State} (beyond : s.tracker.map.length ≤ index) (ctx : Ctx) :
    reqAnchorRead index ctx s = (.refuse .range, s) := by
  rw [reqAnchorRead, List.getElem?_eq_none beyond]

/-- Settles O48: a map in order has its lowest count first. -/
theorem anchorRead : Obligations.AnchorRead := by
  intro h index a s hears law
  obtain ⟨-, ordered, -, range⟩ := law
  refine ⟨fun anchor => ⟨?_, ?_⟩, fun beyond => ?_⟩
  · have block : ((blockOf a.ticks : Nat) : Int) = a.ticks / 100 := by
      obtain ⟨low, -⟩ := range a (List.mem_of_getElem? anchor)
      unfold blockOf
      omega
    rw [← block]
    exact exec_read hears nofun (r := .okWith _) (reqAnchorRead_of_anchor (s := disregarding s) anchor (asker (.anchorRead h index)))
  · rintro rfl b hb
    cases map : s.tracker.map with
    | nil => simp [map] at anchor
    | cons c r =>
      rw [map] at anchor hb ordered
      cases anchor
      rcases List.mem_cons.mp hb with rfl | hb
      · exact Int.le_refl _
      · exact ((List.pairwise_cons.mp (mapOrdered_iff.mp ordered)).1 b hb).2.1.le
  · exact exec_read hears nofun (r := .refuse .range) (reqAnchorRead_beyond (s := disregarding s) beyond (asker (.anchorRead h index)))

/-- Settles O50: the answer is the block's, and its capacities are the model's own. -/
theorem identify : Obligations.Identify := by
  intro h s hears
  exact exec_read hears nofun (r := .okWith _) rfl

/-! ## Requests of the port -/

section
variable {h : Hdr} {s : State}

/-- A broadcast is carried out with no reply (R185). -/
theorem exec_broadcast {i : Instr} {w : Wire} (wire : requestWire i = some w) (running : s.inReset = false)
    (audible : s.link.silent = false) (quiet : s.link.tx = .quiet) (all : w.hdr.dest = 31) (station : StationOk w.hdr.station) :
    exec i s = .next (handlerOf i { station := w.hdr.station, broadcast := true } (disregarding s)).2 := by
  rw [exec_request wire, live_of_running running, takeRequest, wire]
  dsimp only
  rw [takeFrame, if_pos ⟨running, audible⟩, frameBegins_endSending_of_quiet quiet, takeComplete_of_broadcast all, takeBroadcast,
    if_pos station, perform]

theorem reqGroupPoll_addressed {ctx : Ctx} (slot : s.link.slot ≠ none) (single : ctx.broadcast = false) :
    reqGroupPoll ctx s = (.okWith [pollAnswer s], s) := by
  obtain ⟨n, slot⟩ := Option.ne_none_iff_exists'.mp slot
  rw [reqGroupPoll, slot]
  exact if_neg (by simp [single])

theorem reqGroupPoll_broadcast {ctx : Ctx} (slot : s.link.slot ≠ none) (all : ctx.broadcast = true) :
    reqGroupPoll ctx s = (.ok, s.onLink fun l => { l with tx := .slotDue (pollAnswer s) }) := by
  obtain ⟨n, slot⟩ := Option.ne_none_iff_exists'.mp slot
  rw [reqGroupPoll, slot]
  exact if_pos all

theorem reqGroupPoll_no_slot (slot : s.link.slot = none) (ctx : Ctx) : reqGroupPoll ctx s = (.ok, s) := by
  rw [reqGroupPoll, slot]

theorem reqPollConfigure_listed {k cond sense : Nat} (slot : k ≤ 7 ∨ k = 255) (conds : cond ≤ 4) (senses : sense ≤ 1) (ctx : Ctx) :
    reqPollConfigure k cond sense ctx s = (.okWith (n1 k ++ n1 cond ++ n1 sense), s.onLink fun l =>
      { l with slot := if k ≤ 7 then some k else none, cond := cond, sense := decide (sense = 1) }) := by
  have listed : slotOf k = some (if k ≤ 7 then some k else none) := by
    unfold slotOf
    split_ifs
    · rfl
    · rfl
    · omega
  rw [reqPollConfigure, listed]
  exact if_neg (by omega)

/-- Settles O51, request by request. -/
theorem portRequests : Obligations.PortRequests := by
  intro h unit m k cond sense s
  refine ⟨fun hears low => ?_, fun hears low => ?_, fun hears slot low low' => ?_, fun hears slot => ?_,
    fun running audible quiet all station => ⟨fun slot => ?_, fun slot => ?_⟩⟩
  · have own : handlerOf (.statusPoll h unit) (asker (.statusPoll h unit)) (disregarding s) =
        reqStatusPoll (asker (.statusPoll h unit)) (disregarding s) := congrFun (congrFun (if_neg (by omega)) _) _
    exact exec_linked (r := .okWith _) hears nofun own rfl rfl
  · have kept : reqServiceMask m (asker (.serviceMask h m)) (disregarding s) = _ := if_neg (by omega)
    exact exec_linked (r := .okWith _) hears nofun kept rfl rfl
  · exact exec_linked (r := .okWith _) hears nofun (reqPollConfigure_listed (s := disregarding s) slot low low'
      (asker (.pollConfigure h k cond sense))) rfl rfl
  · exact exec_read hears nofun (r := .okWith _) (reqGroupPoll_addressed (s := disregarding s) slot rfl)
  · rw [exec_broadcast (i := .groupPoll h) rfl running audible quiet all station]
    exact congrArg (fun p : Resp × State => Host.Outcome.next p.2)
      (reqGroupPoll_broadcast (ctx := ⟨h.station, true⟩) (s := disregarding s) slot rfl)
  · rw [exec_broadcast (i := .groupPoll h) rfl running audible quiet all station]
    exact congrArg (fun p : Resp × State => Host.Outcome.next p.2) (reqGroupPoll_no_slot (s := disregarding s) slot ⟨h.station, true⟩)

end

end Sys2Proof.Machine
end

section
/-!
Armed: the armed list's requests, and a recording cut short (R149 to R154, R164, R165).
-/

namespace Sys2Proof.Machine

open Sys2Proof.Safety

/-! ## An ACTIVE entry that ends (R151, R159) -/

section
variable {e : Entry} {late : Bool} {drop : Option Int} {ain : Addr} {s : State}

/-- The completion record of an entry (R159). -/
abbrev completion (e : Entry) (r : PunchResult) (x y : Option Addr) : Completion :=
  { inMark := e.inMark, outMark := e.outMark, tracks := e.tracks, rehearse := e.rehearse, result := r, actualIn := x, actualOut := y }

theorem completeEntry_single (single : s.punch.entries = [e]) (r : PunchResult) (x y : Option Addr) :
    completeEntry e r x y s = raise .punchDone (s.onPunch fun p =>
      { p with entries := [{ e with state := .complete r x y }], last := some (completion e r x y) }) := by
  simp [completeEntry, State.onPunch, putEntry, single]

theorem activeEntry_single (single : s.punch.entries = [e]) (active : e.state = .active late drop ain) : activeEntry s = some e := by
  simp [activeEntry, single, Entry.isActive, active]

theorem activeEntry_of_idle (idle : ∀ e ∈ s.punch.entries, e.isActive = false) : activeEntry s = none := by
  simpa [activeEntry] using idle

theorem endActive_single (single : s.punch.entries = [e]) (active : e.state = .active late drop ain) {b : Bool} (sort : e.rehearse = b) :
    endActive b s = raise .punchDone (s.onPunch fun p =>
      { p with
        entries := [{ e with state := .complete .aborted (some ain) (some (placeHere s)) }]
        last := some (completion e .aborted (some ain) (some (placeHere s))) }) := by
  unfold endActive
  rw [activeEntry_single single active]
  dsimp only
  rw [active]
  dsimp only
  rw [if_pos sort, completeEntry_single single]

theorem endActive_of_idle (idle : ∀ e ∈ s.punch.entries, e.isActive = false) (b : Bool) : endActive b s = s := by
  rw [endActive, activeEntry_of_idle idle]

/-- A recording ends with its gates off (R151). -/
theorem dropGates_single (single : s.punch.entries = [e]) (active : e.state = .active late drop ain) (recording : e.rehearse = false)
    (on : GateOn s) : dropGates s = raise .punchDone (s.onPunch fun p =>
      { p with
        gateA := false, gateB := false, offset := 0, manual := .off
        entries := [{ e with state := .complete .aborted (some ain) (some (placeHere s)) }]
        last := some (completion e .aborted (some ain) (some (placeHere s))) }) := by
  have closed : closeGates 0 s = s.onPunch fun p => { p with gateA := false, gateB := false, offset := 0 } := if_pos on
  rw [dropGates, closed]
  refine (congrArg manualOff (endActive_single (by exact single) active recording)).trans ?_
  rfl

theorem dropMonitors_of_idle (off : ¬ MonitorOn s) (idle : ∀ e ∈ s.punch.entries, e.isActive = false) : dropMonitors s = s := by
  have kept : closeMonitors 0 s = s := if_neg off
  rw [dropMonitors, kept, endActive_of_idle idle]

theorem abortActive_recording (single : s.punch.entries = [e]) (active : e.state = .active late drop ain)
    (recording : e.rehearse = false) (on : GateOn s) (off : ¬ MonitorOn s) : abortActive s = dropGates s := by
  have any : ∃ x ∈ activeEntry s, x.rehearse = false := ⟨e, activeEntry_single single active, recording⟩
  rw [abortActive, if_pos any]
  have dropped := dropGates_single single active recording on
  refine dropMonitors_of_idle ?_ ?_
  · rw [dropped]
    exact off
  · rw [dropped]
    simp [Entry.isActive]

end

/-! ## Entries removed (R154) -/

section
variable {n : Nat} {s : State}

theorem entryFor_idle (idle : ∀ e ∈ s.punch.entries, e.isActive = false) : ¬ ∃ e ∈ entryFor s n, e.isActive = true := by
  rintro ⟨e, he, active⟩
  rw [idle e (List.mem_of_find?_eq_some he)] at active
  cases active

theorem removeEntry_of_idle (idle : ∀ e ∈ s.punch.entries, e.isActive = false) :
    removeEntry n s = s.onPunch fun p => { p with entries := p.entries.filter fun e => e.inMark ≠ n } := by
  rw [removeEntry, if_neg (entryFor_idle idle)]

theorem foldl_removeEntry_of_idle (idle : ∀ e ∈ s.punch.entries, e.isActive = false) (l : List Nat) :
    l.foldl (fun s k => removeEntry k s) s =
      s.onPunch fun p => { p with entries := p.entries.filter fun e => e.inMark ∉ l } := by
  induction l generalizing s with
  | nil => simp [State.onPunch]
  | cons k l ih =>
    rw [List.foldl_cons, removeEntry_of_idle idle, ih fun e he => idle e (List.mem_filter.mp he).1]
    simp [State.onPunch, List.filter_filter, Bool.and_comm]

end

/-! ## ARM and DISARM (R152 to R154) -/

section
variable {s : State}

theorem reqDisarm_listed {n : Nat} (low : n ≤ 99) (listed : ∃ e ∈ s.punch.entries, e.inMark = n) (ctx : Ctx) :
    reqDisarm n ctx s = (.ok, removeEntry n s) := by
  have single : n ≠ choice := by
    unfold choice
    omega
  have found : entryFor s n ≠ none := by simpa [entryFor] using listed
  rw [reqDisarm, if_neg single, if_neg (Nat.not_lt.mpr low), if_neg found]

theorem reqDisarm_all_idle (idle : ∀ e ∈ s.punch.entries, e.isActive = false) (ctx : Ctx) :
    reqDisarm 255 ctx s = (.ok, s.onPunch fun p => { p with entries := [] }) := by
  have all : (255 : Nat) = choice := rfl
  have none : s.punch.entries.filter (fun e => e.inMark ∉ entryKeys s) = [] := by
    simpa [entryKeys] using fun e he => ⟨e, he, rfl⟩
  rw [reqDisarm, if_pos all, foldl_removeEntry_of_idle idle, State.onPunch, none]
  rfl

theorem removeEntry_recording {e : Entry} {late : Bool} {drop : Option Int} {ain : Addr} (single : s.punch.entries = [e])
    (active : e.state = .active late drop ain) (recording : e.rehearse = false) (on : GateOn s) (off : ¬ MonitorOn s) :
    removeEntry e.inMark s = raise .punchDone (s.onPunch fun p =>
      { p with
        gateA := false, gateB := false, offset := 0, manual := .off, entries := []
        last := some (completion e .aborted (some ain) (some (placeHere s))) }) := by
  have found : ∃ x ∈ entryFor s e.inMark, x.isActive = true :=
    ⟨e, by simp [entryFor, single], by simp [Entry.isActive, active]⟩
  rw [removeEntry, if_pos found, abortActive_recording single active recording on off, dropGates_single single active recording on]
  simp [State.onPunch, raise, State.onLink]

/-- Nothing recorded or rehearsed can be in progress where no entry is ACTIVE. -/
theorem reqArm_first {n p tr rh : Nat} {tk : Tracks} {r : Bool} {m o : Mark} (tracks : tracksOf tr = some tk)
    (yes : yesNoOf rh = some r) (low : n ≤ 99) (inMark : markAt s n = some m) (outMark : markAt s p = some o)
    (kind : m.kind = .punchIn) (partner : m.partner = some p) (current : m.tag = loadedTag s) (precise : m.imprecise = false)
    (precise' : o.imprecise = false) (empty : s.punch.entries = []) (clear : s.punch.zones = [])
    (free : r = true ∨ (s.punch.permit = true ∧ TrackFree s tk)) (ctx : Ctx) :
    reqArm n tr rh ctx s = (.ok, s.onPunch fun q => { q with entries := [armedEntry s n p tk r] }) := by
  have found : armPartner s n = some (m, p) := by
    rw [armPartner, inMark]
    dsimp only
    rw [if_pos ⟨current, kind⟩, partner]
  have idle : ¬ ∃ e ∈ entryFor s n, e.isActive = true := by simp [entryFor, empty]
  have settled : ¬ (m.imprecise = true ∨ ∃ o ∈ markAt s p, o.imprecise = true) := by simp [outMark, precise, precise']
  have unguarded : ¬ OverlapsGuard s (entryIn s (armedEntry s n p tk r)) (entryTop s (armedEntry s n p tk r)) := by
    simp [OverlapsGuard, clear]
  have permitted : ¬ (r = false ∧ s.punch.permit = false) := by
    rcases free with rfl | ⟨permit, -⟩ <;> simp [*]
  have unsafeTrack : ¬ (r = false ∧ ¬ TrackFree s tk) := by
    rcases free with rfl | ⟨-, free⟩
    · simp
    · exact fun h => h.2 free
  unfold reqArm
  rw [tracks, yes]
  dsimp only
  rw [if_neg (Nat.not_lt.mpr low), if_neg idle, found]
  dsimp only
  rw [if_neg settled, armPair]
  rw [if_neg unguarded, empty]
  rw [if_neg (by simp), if_neg (by simp [Config.maxEntries]), if_neg permitted, if_neg unsafeTrack]
  rfl

theorem precise_of_settled {m : Mark} (firm : m.standing = .firm) (spread : m.spread = none) : m.imprecise = false := by
  simp [Mark.imprecise, Mark.isProvisional, firm, spread]

/-- The stage of a punch just armed (R154). -/
theorem armedEntry_eq {n p : Nat} {tk : Tracks} {r : Bool} {m : Mark} (inMark : markAt s n = some m) :
    armedEntry s n p tk r =
      { inMark := n, outMark := p, tracks := tk, rehearse := r
        state := .armed (if InRun s ∧ estimate s < tickValue s m - 200 then .waiting else .idle) false } := by
  have tick : markTick s n = tickValue s m := by rw [markTick, inMark]
  simp only [armedEntry, restage, freshStage, leadPoint, entryIn, tick]

/-- Settles O59: the one entry is armed, or removed, and a recording cut short leaves its record. -/
theorem armAndDisarm : Obligations.ArmAndDisarm := by
  intro h n p tr rh tk r m o ain s
  refine ⟨fun hears tracks yes low inMark outMark kind partner current firm spread firm' spread' empty clear free => ?_,
    fun hears low listed idle => ?_, fun hears idle => ?_, fun hears low on off manual single => ?_⟩
  · have armed := reqArm_first (s := disregarding s) tracks yes low inMark outMark kind partner current
      (precise_of_settled firm spread) (precise_of_settled firm' spread') empty clear free (asker (.arm h n tr rh))
    rw [armedEntry_eq (s := disregarding s) inMark] at armed
    exact exec_silent (r := .ok) hears nofun armed rfl
  · have removed := reqDisarm_listed (s := disregarding s) low listed (asker (.disarm h n))
    rw [removeEntry_of_idle (s := disregarding s) idle] at removed
    exact exec_silent (r := .ok) hears nofun removed rfl
  · exact exec_silent (r := .ok) hears nofun (reqDisarm_all_idle (s := disregarding s) idle (asker (.disarm h 255))) rfl
  · have listed : ∃ e ∈ s.punch.entries, e.inMark = n := by simp [single]
    have removed := reqDisarm_listed (s := disregarding s) low listed (asker (.disarm h n))
    have left := removeEntry_recording (s := disregarding s) single rfl rfl on off
    have answers := exec_answered (r := .ok) hears nofun (removed.trans (congrArg (Prod.mk _) left)) rfl
    rw [answers, raise, State.onPunch, manual.symm]
    rfl

/-! ## SAFE and manual record (R149, R164, R165) -/

theorem reqSafe_quiet {tr x : Nat} {tk : Tracks} (tracks : tracksOf tr = some tk) (low : x ≤ 1) (quiet : NoRecording s) (ctx : Ctx) :
    reqSafe tr x ctx s = (.ok, s.onPunch fun p => { p with
      safeA := if tk = .b then p.safeA else decide (x = 0), safeB := if tk = .a then p.safeB else decide (x = 0) }) := by
  have setting : safeOf x = some (decide (x = 0)) := by
    interval_cases x <;> rfl
  unfold reqSafe
  rw [tracks, setting]
  dsimp only
  rw [gateGuard_of_noRecording (by exact quiet)]
  cases tk <;> rfl

theorem reqRecordOn_met {tr : Nat} {tk : Tracks} (tracks : tracksOf tr = some tk) (run : InRun s)
    (idle : ∀ e ∈ s.punch.entries, e.isActive = false) (manual : s.punch.manual = .off) (lock : s.capstan.lock = true)
    (locked : quality s = .locked) (permit : s.punch.permit = true) (free : TrackFree s tk) (clear : ¬ InGuard s (estimate s))
    (ctx : Ctx) : reqRecordOn tr ctx s = (.ok, s.onPunch fun p => { p with manual := .pendingOn tk }) := by
  have quiet : ¬ (activeEntry s ≠ none ∨ s.punch.manual ≠ .off) := by simp [activeEntry_of_idle idle, manual]
  have held : ¬ (s.capstan.lock = false ∨ quality s ≠ .locked) := by simp [lock, locked]
  have permitted : ¬ s.punch.permit = false := by simp [permit]
  unfold reqRecordOn
  rw [tracks]
  dsimp only
  rw [if_neg (not_not_intro run), if_neg quiet, if_neg held, if_neg permitted, if_neg (not_not_intro free), if_neg clear]

/-- Settles O60, request by request. -/
theorem trackRequests : Obligations.TrackRequests := by
  intro h tr x tk d s
  refine ⟨fun hears tracks low quiet => ?_, fun hears tracks run idle manual lock locked permit free clear => ?_,
    fun hears => ⟨fun unchanged => ?_, fun manual => ?_, fun manual => ?_⟩⟩
  · exact exec_silent (r := .ok) hears nofun (reqSafe_quiet (s := disregarding s) tracks low quiet (asker (.safe h tr x))) rfl
  · exact exec_silent (r := .ok) hears nofun
      (reqRecordOn_met (s := disregarding s) tracks run idle manual lock locked permit free clear (asker (.recordOn h tr))) rfl
  · have kept : reqRecordOff (asker (.recordOff h)) (disregarding s) = (.ok, disregarding s) := by
      rcases unchanged with manual | manual <;> rw [reqRecordOff, State.onLink_punch, manual]
    exact exec_read (r := .ok) hears nofun kept
  · have off : reqRecordOff (asker (.recordOff h)) (disregarding s) = (.ok, manualOff (disregarding s)) := by
      rw [reqRecordOff, State.onLink_punch, manual]
    exact exec_silent (r := .ok) hears nofun off rfl
  · have pending : reqRecordOff (asker (.recordOff h)) (disregarding s) =
        (.ok, (disregarding s).onPunch fun p => { p with manual := .pendingOff tk d }) := by
      rw [reqRecordOff, State.onLink_punch, manual]
    exact exec_silent (r := .ok) hears nofun pending rfl

end

end Sys2Proof.Machine
end

section
/-!
Found: the mark that each of the searches of the table names, and the record that MARK READ answers with (R30, R45 to R47).
-/

namespace Sys2Proof.Machine

open Sys2Proof.Safety

/-! ## The first of an ordered list -/

section
variable {α : Type} {before : α → α → Prop} {l : List α} {a : α} {p : α → Bool}

/-- In a list in order the first element with a property is the one that no other with it stands before. -/
theorem find?_of_first (ordered : l.Pairwise before) (mem : a ∈ l) (holds : p a = true)
    (first : ∀ b ∈ l, p b = true → ¬ before b a) : l.find? p = some a := by
  induction l with
  | nil => cases mem
  | cons x r ih =>
    obtain ⟨ahead, ordered⟩ := List.pairwise_cons.mp ordered
    by_cases hx : p x = true
    · rw [List.find?_cons_of_pos hx]
      rcases List.mem_cons.mp mem with rfl | mem
      · rfl
      · exact absurd (ahead a mem) (first x (.head _) hx)
    · rw [List.find?_cons_of_neg hx]
      rcases List.mem_cons.mp mem with rfl | mem
      · exact absurd holds hx
      · exact ih ordered mem fun b hb => first b (.tail _ hb)

variable {key : α → Int}

/-- The order of a list sorted by a key that was in the order `R` before. -/
abbrev KeyOrder (key : α → Int) (R : α → α → Prop) (x y : α) : Prop := key x < key y ∨ (key x = key y ∧ R x y)

theorem insertByKey_ordered {R : α → α → Prop} {x : α} (ordered : l.Pairwise (KeyOrder key R)) (last : ∀ y ∈ l, R y x) :
    (insertByKey key x l).Pairwise (KeyOrder key R) := by
  induction l with
  | nil => exact List.pairwise_singleton _ _
  | cons y r ih =>
    obtain ⟨ahead, ordered'⟩ := List.pairwise_cons.mp ordered
    unfold insertByKey
    split
    next lower =>
      refine List.pairwise_cons.mpr ⟨fun z hz => .inl ?_, ordered⟩
      rcases List.mem_cons.mp hz with rfl | hz
      · exact lower
      · rcases ahead z hz with h | ⟨h, -⟩ <;> omega
    next upper =>
      refine List.pairwise_cons.mpr ⟨fun z hz => ?_, ih ordered' fun z hz => last z (.tail _ hz)⟩
      rcases List.mem_cons.mp ((insertByKey_perm x r).mem_iff.mp hz) with rfl | hz
      · rcases Int.lt_or_eq_of_le (Int.not_lt.mp upper) with h | h
        · exact .inl h
        · exact .inr ⟨h, last y (.head _)⟩
      · exact ahead z hz

/-- Sorting by a key leaves elements of equal key in the order they stood in. -/
theorem sortByKey_ordered {R : α → α → Prop} (ordered : l.Pairwise R) : (sortByKey key l).Pairwise (KeyOrder key R) := by
  have acc (l : List α) : ∀ a : List α, l.Pairwise R → a.Pairwise (KeyOrder key R) → (∀ x ∈ a, ∀ y ∈ l, R x y) →
      (l.foldl (fun acc x => insertByKey key x acc) a).Pairwise (KeyOrder key R) := by
    induction l with
    | nil => exact fun a _ sorted _ => sorted
    | cons x r ih =>
      intro a ordered sorted before
      obtain ⟨ahead, ordered⟩ := List.pairwise_cons.mp ordered
      refine ih _ ordered (insertByKey_ordered sorted fun y hy => before y hy x (.head _)) fun z hz y hy => ?_
      rcases List.mem_cons.mp ((insertByKey_perm x a).mem_iff.mp hz) with rfl | hz
      · exact ahead y hy
      · exact before z hz y (.tail _ hy)
  exact acc l [] ordered .nil (by simp)

end

/-! ## The searches (R46, R47) -/

section
variable {s : State} {n : Nat} {m : Mark}

theorem rising_pairwise {α : Type} {l : List (Nat × α)} (rising : Rising l) : l.Pairwise fun p q => p.1 < q.1 :=
  List.pairwise_map.mp rising

theorem mem_view {p : Nat × Int} : p ∈ view s ↔ ∃ q ∈ s.marks, q.2.tag = loadedTag s ∧ p = (q.1, tickValue s q.2) := by
  rw [view, (sortByKey_perm _).mem_iff]
  simp only [List.mem_map, List.mem_filter, decide_eq_true_eq, and_assoc]
  exact exists_congr fun q => and_congr_right fun _ => and_congr_right fun _ => eq_comm

/-- The view is in order of ticks and, at one tick, of numbers (R30). -/
theorem view_ordered (form : TableForm s) : (view s).Pairwise (KeyOrder Prod.snd fun p q : Nat × Int => p.1 < q.1) := by
  obtain ⟨rising, -⟩ := form
  exact sortByKey_ordered (List.pairwise_map.mpr ((rising_pairwise rising).filter _))

theorem mem_view_of_markAt (mark : markAt s n = some m) (current : m.tag = loadedTag s) : (n, tickValue s m) ∈ view s :=
  mem_view.mpr ⟨(n, m), slotGet_mem mark, current, rfl⟩

theorem findNext_eq (form : TableForm s) (mark : markAt s n = some m) (current : m.tag = loadedTag s)
    (ahead : estimate s + 100 ≤ tickValue s m)
    (first : ∀ p ∈ s.marks, p.2.tag = loadedTag s → estimate s + 100 ≤ tickValue s p.2 →
      tickValue s m < tickValue s p.2 ∨ (tickValue s m = tickValue s p.2 ∧ n ≤ p.1)) :
    findNext s = some (n, tickValue s m) := by
  refine find?_of_first (view_ordered form) (mem_view_of_markAt mark current) (decide_eq_true ahead) fun b hb holds => ?_
  obtain ⟨q, hq, hc, rfl⟩ := mem_view.mp hb
  have := first q hq hc (of_decide_eq_true holds)
  dsimp only [KeyOrder]
  omega

theorem findPrevious_eq (form : TableForm s) (mark : markAt s n = some m) (current : m.tag = loadedTag s)
    (behind : tickValue s m ≤ estimate s - 100)
    (last : ∀ p ∈ s.marks, p.2.tag = loadedTag s → tickValue s p.2 ≤ estimate s - 100 →
      tickValue s p.2 < tickValue s m ∨ (tickValue s m = tickValue s p.2 ∧ p.1 ≤ n)) :
    findPrevious s = some (n, tickValue s m) := by
  refine find?_of_first (List.pairwise_reverse.mpr (view_ordered form)) (List.mem_reverse.mpr (mem_view_of_markAt mark current))
    (decide_eq_true behind) fun b hb holds => ?_
  obtain ⟨q, hq, hc, rfl⟩ := mem_view.mp (List.mem_reverse.mp hb)
  have := last q hq hc (of_decide_eq_true holds)
  dsimp only [KeyOrder]
  omega

/-- The choice between the nearest mark so far and the next one (R47). -/
abbrev nearer (s : State) (t : Int) (acc : Option (Nat × Int)) (p : Nat × Mark) : Option (Nat × Int) :=
  match acc with
  | none => some (p.1, tickValue s p.2)
  | some b => if mag (tickValue s p.2 - t) < mag (b.2 - t) then some (p.1, tickValue s p.2) else acc

theorem foldl_nearer_of_nearest {t : Int} {b : Nat × Int} {l : List (Nat × Mark)}
    (near : ∀ p ∈ l, mag (b.2 - t) ≤ mag (tickValue s p.2 - t)) : l.foldl (nearer s t) (some b) = some b := by
  induction l with
  | nil => rfl
  | cons p r ih =>
    have kept : nearer s t (some b) p = some b := if_neg (Int.not_lt.mpr (near p (.head _)))
    rw [List.foldl_cons, kept]
    exact ih fun q hq => near q (.tail _ hq)

theorem foldl_nearer_farther {t d : Int} {l : List (Nat × Mark)} (far : ∀ p ∈ l, d < mag (tickValue s p.2 - t)) :
    ∀ acc : Option (Nat × Int), (∀ b ∈ acc, d < mag (b.2 - t)) → ∀ b ∈ l.foldl (nearer s t) acc, d < mag (b.2 - t) := by
  induction l with
  | nil => exact fun acc h => h
  | cons p r ih =>
    intro acc h
    refine ih (fun q hq => far q (.tail _ hq)) _ fun b hb => ?_
    unfold nearer at hb
    split at hb
    · cases hb
      exact far p (.head _)
    · split at hb
      · cases hb
        exact far p (.head _)
      · exact h b hb

theorem nearest_eq {t : Int} (form : TableForm s) (mark : markAt s n = some m) (current : m.tag = loadedTag s)
    (near : ∀ p ∈ s.marks, p.2.tag = loadedTag s → mag (tickValue s m - t) < mag (tickValue s p.2 - t) ∨
      (mag (tickValue s m - t) = mag (tickValue s p.2 - t) ∧ n ≤ p.1)) : nearest s t = some (n, tickValue s m) := by
  obtain ⟨rising, -⟩ := form
  have mem : (n, m) ∈ s.marks.filter fun p => IsCurrent s p.2 := List.mem_filter.mpr ⟨slotGet_mem mark, decide_eq_true current⟩
  have near' : ∀ p ∈ s.marks.filter (fun p => IsCurrent s p.2), mag (tickValue s m - t) < mag (tickValue s p.2 - t) ∨
      (mag (tickValue s m - t) = mag (tickValue s p.2 - t) ∧ n ≤ p.1) := fun p hp => by
    obtain ⟨hp, hc⟩ := List.mem_filter.mp hp
    exact near p hp (of_decide_eq_true hc)
  have ordered := (rising_pairwise rising).filter fun p => IsCurrent s p.2
  change (s.marks.filter fun p => IsCurrent s p.2).foldl (nearer s t) none = _
  obtain ⟨u, v, split⟩ := List.append_of_mem mem
  rw [split] at near' ordered ⊢
  obtain ⟨-, -, before⟩ := List.pairwise_append.mp ordered
  have far : ∀ b ∈ u.foldl (nearer s t) none, mag (tickValue s m - t) < mag (b.2 - t) := by
    refine foldl_nearer_farther (fun p hp => ?_) none (by simp)
    have lower := before p hp (n, m) (.head _)
    have := near' p (List.mem_append_left _ hp)
    dsimp only at lower
    omega
  have taken : nearer s t (u.foldl (nearer s t) none) (n, m) = some (n, tickValue s m) := by
    cases h : u.foldl (nearer s t) none with
    | none => rfl
    | some b => exact if_pos (far b h)
  rw [List.foldl_append, List.foldl_cons, taken]
  refine foldl_nearer_of_nearest fun p hp => ?_
  have := near' p (List.mem_append_right _ (.tail _ hp))
  dsimp only
  omega

theorem labelled_eq {l : Label} (form : TableForm s) (mark : markAt s n = some m) (current : m.tag = loadedTag s)
    (label : m.label = l) (lowest : ∀ p ∈ s.marks, p.2.tag = loadedTag s → p.2.label = l → n ≤ p.1) :
    labelled s l = some (n, tickValue s m) := by
  obtain ⟨rising, -⟩ := form
  have found : s.marks.find? (fun p => decide (IsCurrent s p.2 ∧ p.2.label = l)) = some (n, m) := by
    refine find?_of_first (rising_pairwise rising) (slotGet_mem mark) (decide_eq_true ⟨current, label⟩) fun b hb holds => ?_
    obtain ⟨hc, hl⟩ := of_decide_eq_true holds
    exact Nat.not_lt.mpr (lowest b hb hc hl)
  rw [labelled, found]
  rfl

/-! ## The answers (R45 to R47) -/

theorem findReply_eq (mark : markAt s n = some m) : findReply s n (tickValue s m) = n1 n ++ addrField m.addr ++ n4 (tickValue s m) := by
  rw [findReply, mark]

theorem markRecord_free (free : markAt s n = none) : markRecord s n = n1 n ++ n1 0 := by
  rw [markRecord, free]

/-- The count a PROVISIONAL mark was captured at (R28). -/
abbrev capturedAt (m : Mark) : Option Int := match m.standing with
  | .firm => none
  | .provisional c => some c

theorem markRecord_taken (mark : markAt s n = some m) : markRecord s n =
    n1 n ++ n1 (if capturedAt m = none then 1 else 2) ++ n1 m.kind.number ++ n4 m.addr.block ++ n2 m.addr.sample ++
      n2 (m.tag.getD 0) ++
      n1 ((if capturedAt m = none then 0 else 1) + (if m.spread = none then 0 else 2) + (if m.partner = none then 0 else 4) +
        (if decide (m.tag = loadedTag s) then 8 else 0)) ++
      n4 ((capturedAt m).getD 0) ++ n2 (m.spread.getD 0) ++ n1 (m.partner.getD 0) ++ n1 m.owner ++ yesNo m.locked ++
      yesNo (decide (m.tag = loadedTag s)) ++ n4 (if decide (m.tag = loadedTag s) then tickValue s m else 0) ++ n1 m.label.length ++
      m.label := by
  have state : ((m.standing.number : Nat) : Int) = if capturedAt m = none then 1 else 2 := by
    unfold capturedAt
    cases m.standing <;> rfl
  have presence : (((if (capturedAt m).isSome then 1 else 0) + (if m.spread.isSome then 2 else 0) +
      (if m.partner.isSome then 4 else 0) + (if decide (m.tag = loadedTag s) then 8 else 0) : Nat) : Int) =
      (if capturedAt m = none then 0 else 1) + (if m.spread = none then 0 else 2) + (if m.partner = none then 0 else 4) +
        (if decide (m.tag = loadedTag s) then 8 else 0) := by
    cases capturedAt m <;> cases m.spread <;> cases m.partner <;> simp
  rw [← state, ← presence, markRecord, mark] <;> rfl

theorem reqMarkRead_low (low : n ≤ 99) (ctx : Ctx) : reqMarkRead n ctx s = (.okWith (markRecord s n), s) :=
  if_neg (Nat.not_lt.mpr low)

/-- A search that names a mark is answered with it. -/
theorem findResp_found (mark : markAt s n = some m) :
    findResp s (some (n, tickValue s m)) = .okWith (n1 n ++ addrField m.addr ++ n4 (tickValue s m)) := by
  rw [findResp, findReply_eq mark]

section
variable (mark : markAt s n = some m) (ctx : Ctx)
include mark

theorem reqFindNext_found (known : quality s ≠ .unknown) (found : findNext s = some (n, tickValue s m)) :
    reqFindNext ctx s = (.okWith (n1 n ++ addrField m.addr ++ n4 (tickValue s m)), s) := by
  rw [reqFindNext, if_neg known, found, findResp_found mark]

theorem reqFindPrevious_found (known : quality s ≠ .unknown) (found : findPrevious s = some (n, tickValue s m)) :
    reqFindPrevious ctx s = (.okWith (n1 n ++ addrField m.addr ++ n4 (tickValue s m)), s) := by
  rw [reqFindPrevious, if_neg known, found, findResp_found mark]

theorem reqFindNearest_found {a : Addr} (low : a.block ≤ 1048575) (low' : a.sample < spb s)
    (found : nearest s (tickOf a (spb s)) = some (n, tickValue s m)) :
    reqFindNearest a ctx s = (.okWith (n1 n ++ addrField m.addr ++ n4 (tickValue s m)), s) := by
  have range : ¬ AddrOut s a := by
    simp only [AddrOut, Config.maxBlock]
    omega
  rw [reqFindNearest, if_neg range, found, findResp_found mark]

theorem reqFindLabel_found {l : Label} (full : l ≠ []) (short : l.length ≤ 12) (plain : PlainLabel l)
    (found : labelled s l = some (n, tickValue s m)) :
    reqFindLabel l ctx s = (.okWith (n1 n ++ addrField m.addr ++ n4 (tickValue s m)), s) := by
  have accepted : ¬ (l = [] ∨ 12 < l.length ∨ ¬ PlainLabel l) := by
    rintro (h | h | h)
    · exact full h
    · omega
    · exact h plain
  rw [reqFindLabel, if_neg accepted, found, findResp_found mark]

end

/-- Settles O57: each search answers with the mark it names, MARK READ with the record of the slot. -/
theorem marksFound : Obligations.MarksFound := by
  intro h n m a l s form
  refine ⟨fun hears low free => ?_, fun hears low mark => ?_, fun mark current =>
    ⟨fun hears known ahead first => ?_, fun hears known behind last => ?_, fun hears low low' near => ?_,
      fun hears label full short plain lowest => ?_⟩⟩
  · have read := reqMarkRead_low (s := disregarding s) low (asker (.markRead h n))
    rw [markRecord_free (s := disregarding s) free] at read
    exact exec_read (r := .okWith _) hears nofun read
  · have read := reqMarkRead_low (s := disregarding s) low (asker (.markRead h n))
    rw [markRecord_taken (s := disregarding s) mark] at read
    exact exec_read (r := .okWith _) hears nofun read
  · exact exec_read (r := .okWith _) hears nofun (reqFindNext_found (s := disregarding s) mark (asker (.markFindNext h)) known
      (findNext_eq (s := disregarding s) form mark current ahead first))
  · exact exec_read (r := .okWith _) hears nofun (reqFindPrevious_found (s := disregarding s) mark (asker (.markFindPrevious h)) known
      (findPrevious_eq (s := disregarding s) form mark current behind last))
  · exact exec_read (r := .okWith _) hears nofun (reqFindNearest_found (s := disregarding s) mark (asker (.markFindNearest h a)) low
      low' (nearest_eq (s := disregarding s) form mark current near))
  · exact exec_read (r := .okWith _) hears nofun (reqFindLabel_found (s := disregarding s) mark (asker (.markFindLabel h l)) full short
      plain (labelled_eq (s := disregarding s) form mark current label lowest))

end

end Sys2Proof.Machine
end

section
/-!
MarksChange: the requests of unit 1 that change the mark table while nothing is planned (R32 to R43, R48, R150).
-/

namespace Sys2Proof.Machine

open Sys2Proof.Safety

/-! ## Reports to nobody (R48) -/

section
variable {s : State}

theorem reportToMotion_of_unlocated (loc : s.motion.loc = none) (held : s.motion.held = none) (r : Report) :
    reportToMotion s r = s := by
  have still : reportToLocate r s = s := by rw [reportToLocate, loc]
  rw [reportToMotion, still, reportToHeld, held]

theorem foldl_reportToMotion_of_unlocated (loc : s.motion.loc = none) (held : s.motion.held = none) (rs : List Report) :
    rs.foldl reportToMotion s = s := by
  induction rs with
  | nil => rfl
  | cons r rs ih => rw [List.foldl_cons, reportToMotion_of_unlocated loc held, ih]

theorem deliver_of_unlocated {rs : List Report} (full : rs ≠ []) (loc : s.motion.loc = none) (held : s.motion.held = none) :
    deliver rs s = reportToPunch rs s := by
  rw [deliver, if_neg full, foldl_reportToMotion_of_unlocated loc held]

theorem foldl_removeEntriesOf_of_empty (empty : s.punch.entries = []) (l : List Nat) : l.foldl removeEntriesOf s = s := by
  induction l with
  | nil => rfl
  | cons n l ih =>
    have kept : removeEntriesOf s n = s := by simp [removeEntriesOf, empty]
    rw [List.foldl_cons, kept, ih]

theorem guardReact_of_empty (empty : s.punch.entries = []) (quiet : NoRecording s) : guardReact s = recomputeZones s := by
  have manual : (recomputeZones s).punch.manual = .off := quiet.2.2
  have keys : entryKeys (recomputeZones s) = [] := by simp [entryKeys, recomputeZones, empty]
  simp only [guardReact, keys, List.foldl_nil, reformManual, manual]
  exact gateGuard_of_noRecording (by exact quiet)

theorem reportToPunch_of_empty (empty : s.punch.entries = []) (quiet : NoRecording s) (rs : List Report) :
    reportToPunch rs s = recomputeZones s := by
  rw [reportToPunch, foldl_removeEntriesOf_of_empty empty]
  have kept (l : List Nat) : moveEntries l s = s := by simp [moveEntries, empty]
  rw [kept, guardReact_of_empty empty quiet]

/-- With nothing planned a change of the marks moves the guard zones only. -/
theorem deliver_of_nothingPlanned {rs : List Report} (full : rs ≠ []) (h : NothingPlanned s) : deliver rs s = recomputeZones s := by
  obtain ⟨loc, held, empty, quiet⟩ := h
  rw [deliver_of_unlocated full loc held, reportToPunch_of_empty empty quiet]

end

/-! ## Unpaired marks -/

section
variable {n : Nat} {m : Mark} {s : State}

theorem partnerOf_unpaired (mark : markAt s n = some m) (alone : m.partner = none) : partnerOf s n = none := by
  rw [partnerOf_eq, linkOf, show slotGet n s.marks = some m from mark]
  exact alone

theorem unlink_unpaired (mark : markAt s n = some m) (alone : m.partner = none) : unlink n s = s := by
  rw [unlink, partnerOf_unpaired mark alone]

theorem unlinkReports_unpaired (mark : markAt s n = some m) (alone : m.partner = none) : unlinkReports n s = [] := by
  rw [unlinkReports, partnerOf_unpaired mark alone]

/-- A mark written where nothing is planned, into a free slot or over an unpaired mark, whose lock flag stays (R35, R36). -/
theorem writeMark_alone {lk : Bool} (planned : NothingPlanned s)
    (slot : (markAt s n = none ∧ lk = false) ∨ ∃ o, markAt s n = some o ∧ o.partner = none ∧ o.locked = lk)
    (fresh : m.locked = false) :
    writeMark n m s = recomputeZones (setMark n { m with locked := lk } s) := by
  unfold writeMark
  rcases slot with ⟨free, rfl⟩ | ⟨o, mark, alone, rfl⟩
  · rw [free, ← fresh]
    exact deliver_of_nothingPlanned (by simp) planned
  · rw [mark]
    dsimp only
    rw [unlink_unpaired mark alone]
    exact deliver_of_nothingPlanned (by simp) planned

end

/-! ## The checks of R33 -/

section
variable {n r : Nat} {m : Mark} {s : State}

theorem checkMark_passed (low : 1 ≤ n) (high : n ≤ 99) (mark : markAt s n = some m) (own : m.locked = false ∨ m.owner = r) :
    checkMark n r s = .ok m := by
  have allowed : ¬ (m.locked = true ∧ m.owner ≠ r) := by
    rintro ⟨locked, other⟩
    rcases own with free | same
    · exact Bool.noConfusion (free.symm.trans locked)
    · exact other same
  rw [checkMark, if_neg (by omega), if_neg (by omega), mark]
  exact if_neg allowed

/-- The slot that MARK SET and MARK HERE name, or the first free one (R35). -/
theorem checkSlot_passed {slot : Nat}
    (own : markAt s slot = none ∨ ∃ o, markAt s slot = some o ∧ (o.locked = false ∨ o.owner = r))
    (named : (n = slot ∧ 1 ≤ slot ∧ slot ≤ 99) ∨ (n = 255 ∧ firstFree s = some slot)) : checkSlot n r s = .ok slot := by
  rcases named with ⟨rfl, low, high⟩ | ⟨rfl, first⟩
  · have single : n ≠ choice := by
      unfold choice
      omega
    rw [checkSlot, if_neg single, if_neg (by omega), if_neg (by omega)]
    rcases own with free | ⟨o, mark, own⟩
    · rw [free]
    · rw [mark]
      refine if_neg ?_
      rintro ⟨locked, other⟩
      rcases own with free | same
      · exact Bool.noConfusion (free.symm.trans locked)
      · exact other same
  · have first' : (255 : Nat) = choice := rfl
    rw [checkSlot, if_pos first', first]

theorem addr_in {a : Addr} (low : a.block ≤ 1048575) (low' : a.sample < spb s) : ¬ AddrOut s a := by
  simp only [AddrOut, Config.maxBlock]
  omega

theorem clampedIf_decide (p : Prop) [Decidable p] (ps : List Byte) :
    Resp.clampedIf (decide p) ps = { code := if p then .clamped else .ok, payload := ps } := by
  by_cases h : p <;> simp [Resp.clampedIf, h]

end

/-! ## MARK SET and MARK HERE (R35, R36) -/

section
variable {n slot kind : Nat} {k : MarkKind} {l : Label} {s : State} {ctx : Ctx} (checked : checkSlot n ctx.station s = .ok slot)
  (kinds : kindOf kind = some k) (plain : PlainLabel l)
include checked kinds plain

theorem reqMarkSet_taken {a : Addr} (range : ¬ AddrOut s a) : reqMarkSet n kind a l ctx s =
    (.clampedIf (decide (12 < l.length)) (n1 slot ++ n1 1 ++ addrField a),
      writeMark slot { kind := k, addr := a, tag := loadedTag s, standing := .firm, spread := none, partner := none
                       label := l.take 12, owner := ctx.station, locked := false } s) := by
  unfold reqMarkSet
  rw [checked]
  dsimp only
  rw [kinds]
  dsimp only
  rw [if_neg range, if_neg (not_not_intro plain)]
  rfl

theorem reqMarkHere_taken {st : Standing} {sp : Option Nat} (captured : capture s = some (st, sp)) : reqMarkHere n kind l ctx s =
    (.clampedIf (decide (12 < l.length)) (n1 slot ++ n1 st.number ++ addrField (placeHere s)),
      writeMark slot { kind := k, addr := placeHere s, tag := loadedTag s, standing := st, spread := sp, partner := none
                       label := l.take 12, owner := ctx.station, locked := false } s) := by
  unfold reqMarkHere
  rw [checked]
  dsimp only
  rw [kinds]
  dsimp only
  rw [captured]
  dsimp only
  rw [if_neg (not_not_intro plain)]
  rfl

omit plain in
theorem reqMarkHere_unknown (unknown : quality s = .unknown) : reqMarkHere n kind l ctx s = (.refuse .noPosition, s) := by
  have captured : capture s = none := by rw [capture, unknown]
  unfold reqMarkHere
  rw [checked]
  dsimp only
  rw [kinds]
  dsimp only
  rw [captured]

end

theorem capture_locked {s : State} (locked : quality s = .locked) : capture s = some (.firm, none) := by rw [capture, locked]

theorem capture_reckoned {s : State} (reckoned : quality s = .reckoned) : capture s =
    some (.provisional s.tracker.counter, some (min 65535 (1 + (gapOf s.tracker.map s.tracker.counter / 2000).toNat))) := by
  rw [capture, reckoned]
  rfl

/-- Settles O53: the slot is checked, the mark is written, and only the guard zones follow. -/
theorem marksSet : Obligations.MarksSet := by
  intro h n slot kind k a l lk s planned old named kinds plain base
  have own : markAt s slot = none ∨ ∃ o, markAt s slot = some o ∧ (o.locked = false ∨ o.owner = h.station) := by
    rcases old with ⟨free, -⟩ | ⟨-, o, mark, -, rfl, own⟩
    · exact .inl free
    · exact .inr ⟨o, mark, own⟩
  have alone : (markAt s slot = none ∧ lk = false) ∨ ∃ o, markAt s slot = some o ∧ o.partner = none ∧ o.locked = lk := by
    rcases old with free | ⟨-, o, mark, alone, lock, -⟩
    · exact .inl free
    · exact .inr ⟨o, mark, alone, lock⟩
  have checked : checkSlot n h.station (disregarding s) = .ok slot := checkSlot_passed (s := disregarding s) own named
  refine ⟨fun hears low low' => ?_, fun hears => ⟨fun locked => ?_, fun reckoned => ?_, fun unknown => ?_⟩⟩
  · have taken := reqMarkSet_taken (s := disregarding s) (ctx := asker (.markSet h n kind a l)) checked kinds plain
      (addr_in (s := disregarding s) low low')
    rw [writeMark_alone (s := disregarding s) planned alone (by rfl), clampedIf_decide] at taken
    exact exec_silent hears nofun taken rfl
  · have taken := reqMarkHere_taken (s := disregarding s) (ctx := asker (.markHere h n kind l)) checked kinds plain
      (capture_locked (s := disregarding s) locked)
    rw [writeMark_alone (s := disregarding s) planned alone (by rfl), clampedIf_decide] at taken
    exact exec_silent hears nofun taken rfl
  · have taken := reqMarkHere_taken (s := disregarding s) (ctx := asker (.markHere h n kind l)) checked kinds plain
      (capture_reckoned (s := disregarding s) reckoned)
    rw [writeMark_alone (s := disregarding s) planned alone (by rfl), clampedIf_decide] at taken
    exact exec_silent hears nofun taken rfl
  · exact exec_read hears nofun (r := .refuse .noPosition)
      (reqMarkHere_unknown (s := disregarding s) (ctx := asker (.markHere h n kind l)) checked kinds unknown)

end Sys2Proof.Machine
end

section
/-!
MarksEdited: MARK MOVE, TRIM, NAME, LOCK, UNLOCK, PAIR, UNPAIR and RETIRE while nothing is planned (R37 to R43).
-/

namespace Sys2Proof.Machine

open Sys2Proof.Safety

/-! ## MARK MOVE and MARK TRIM (R37, R38) -/

section
variable {n : Nat} {m : Mark} {s : State} {ctx : Ctx} (checked : checkMark n ctx.station s = .ok m) (free : ¬ InUse s n)
include checked free

theorem reqMarkMove_taken {a : Addr} (current : m.tag = loadedTag s) (range : ¬ AddrOut s a)
    (pair : PairHolds s { m with addr := a, standing := .firm, spread := none }) : reqMarkMove n a ctx s =
    (.okWith (n1 n ++ n1 1 ++ addrField a), deliver [{ mark := n, change := .address }]
      (setMark n { m with addr := a, standing := .firm, spread := none } s)) := by
  unfold reqMarkMove
  rw [checked]
  dsimp only
  rw [if_neg (not_not_intro current), if_neg range, if_neg free, if_neg (not_not_intro pair)]
  rfl

theorem reqMarkTrim_taken {v : Int} (current : m.tag = loadedTag s) (low : -48000 ≤ v) (high : v ≤ 48000) (some : v ≠ 0)
    (firm : m.standing = .firm) (pair : PairHolds s { m with addr := trimAddr s m v }) : reqMarkTrim n v ctx s =
    (.clampedIf (decide (trimmed s m v < 0 ∨ trimTop s < trimmed s m v)) (n1 n ++ n1 1 ++ addrField (trimAddr s m v)),
      deliver [{ mark := n, change := .address }] (setMark n { m with addr := trimAddr s m v } s)) := by
  have settled : ¬ m.isProvisional = true := by simp [Mark.isProvisional, firm]
  unfold reqMarkTrim
  rw [checked]
  dsimp only
  rw [if_neg (not_not_intro current), if_neg (by omega), if_neg settled, if_neg free, if_neg (not_not_intro pair), if_neg some,
    markReply, firm]
  rfl

end

/-! ## MARK NAME, LOCK and UNLOCK (R39) -/

section
variable {n : Nat} {m : Mark} {s : State} {ctx : Ctx} (checked : checkMark n ctx.station s = .ok m)
include checked

theorem reqMarkName_taken {l : Label} (plain : PlainLabel l) : reqMarkName n l ctx s =
    (.clampedIf (decide (12 < l.length)) (n1 n), setMark n { m with label := l.take 12 } s) := by
  rw [reqMarkName, checked]
  exact if_neg (not_not_intro plain)

theorem lockMark_owned (own : m.owner = ctx.station) (b : Bool) :
    lockMark n b ctx s = (.okWith (n1 n), setMark n { m with locked := b } s) := by
  rw [lockMark, checked]
  exact if_neg (not_not_intro own)

theorem lockMark_other (other : m.owner ≠ ctx.station) (b : Bool) : lockMark n b ctx s = (.refuse .protectedMark, s) := by
  rw [lockMark, checked]
  exact if_pos other

end

section
variable {s : State}

theorem not_inUse_of_empty (empty : s.punch.entries = []) (n : Nat) : ¬ InUse s n := by
  simp [InUse, activeEntry, empty]

/-- Clamping leaves a value exactly where it is in range. -/
theorem clampInt_eq_self {lo hi x : Int} (order : lo ≤ hi) : clampInt lo hi x = x ↔ lo ≤ x ∧ x ≤ hi := by
  unfold clampInt
  omega

theorem spb_pos (s : State) : 0 < spb s := by
  unfold spb Tracker.spb
  split
  next => decide
  next r _ => cases r.rate <;> decide

/-- Settles O54: the mark's record changes in its slot, and the guard zones follow a change of place. -/
theorem marksChanged : Obligations.MarksChanged := by
  intro h n m a v l s low high mark own
  have checked : checkMark n h.station (disregarding s) = .ok m := checkMark_passed (s := disregarding s) low high mark own
  refine ⟨fun planned current => ⟨fun hears low low' pair => ?_, fun hears low high full firm => ?_⟩, fun hears plain => ?_,
    fun hears own => ?_, fun hears other => ?_, fun hears own => ?_⟩
  · obtain ⟨-, -, empty, -⟩ := id planned
    have taken := reqMarkMove_taken (s := disregarding s) (ctx := asker (.markMove h n a)) checked (not_inUse_of_empty empty n) current
      (addr_in (s := disregarding s) low low') pair
    rw [deliver_of_nothingPlanned (by simp) (by exact planned)] at taken
    exact exec_silent (r := .okWith _) hears nofun taken rfl
  · intro raw pos b u pair
    obtain ⟨-, -, empty, -⟩ := id planned
    have taken := reqMarkTrim_taken (s := disregarding s) (ctx := asker (.markTrim h n v)) checked (not_inUse_of_empty empty n) current
      low high full firm pair
    have code : (if trimmed s m v < 0 ∨ trimTop s < trimmed s m v then Code.clamped else .ok) = if pos = raw then .ok else .clamped := by
      have order : (0 : Int) ≤ trimTop s := by
        have := spb_pos s
        unfold trimTop
        omega
      have kept : pos = raw ↔ 0 ≤ raw ∧ raw ≤ trimTop s := clampInt_eq_self order
      have same : trimmed s m v = raw := rfl
      rw [same]
      by_cases inside : 0 ≤ raw ∧ raw ≤ trimTop s
      · rw [if_neg (by omega), if_pos (kept.mpr inside)]
      · rw [if_pos (by omega), if_neg (kept.not.mpr inside)]
    rw [deliver_of_nothingPlanned (by simp) (by exact planned), clampedIf_decide] at taken
    have answers := exec_silent hears nofun taken rfl
    rw [answers, ← code]
    rfl
  · have taken := reqMarkName_taken (s := disregarding s) (ctx := asker (.markName h n l)) checked plain
    rw [clampedIf_decide] at taken
    exact exec_silent hears nofun taken rfl
  · exact exec_silent (r := .okWith _) hears nofun
      (lockMark_owned (s := disregarding s) (ctx := asker (.markLock h n)) checked own true) rfl
  · exact exec_read (r := .refuse .protectedMark) hears nofun
      (lockMark_other (s := disregarding s) (ctx := asker (.markLock h n)) checked other true)
  · exact exec_silent (r := .okWith _) hears nofun
      (lockMark_owned (s := disregarding s) (ctx := asker (.markUnlock h n)) checked own false) rfl

/-! ## MARK PAIR, UNPAIR and RETIRE (R40 to R43) -/

section
variable {a b : Nat} {ma mb : Mark}

theorem reqMarkPair_taken {ctx : Ctx} (checkedA : checkMark a ctx.station s = .ok ma) (checkedB : checkMark b ctx.station s = .ok mb)
    (ne : a ≠ b) (currentA : ma.tag = loadedTag s) (currentB : mb.tag = loadedTag s) (kinds : kindsPair ma.kind mb.kind = true)
    (order : OrderHolds ma.kind (tickValue s ma) mb.kind (tickValue s mb)) (alone : ma.partner = none) :
    reqMarkPair a b ctx s = (.okWith (n1 a), linkMarks a b ma mb s) := by
  have current : ¬ (¬ IsCurrent s ma ∨ ¬ IsCurrent s mb) := not_or.mpr ⟨not_not_intro currentA, not_not_intro currentB⟩
  have apart : ¬ (a = b ∨ kindsPair ma.kind mb.kind = false) := by simp [ne, kinds]
  have unpaired : ¬ (ma.partner = some b ∧ mb.partner = some a) := by simp [alone]
  unfold reqMarkPair
  rw [checkedA]
  dsimp only
  rw [checkedB]
  dsimp only
  rw [if_neg current, if_neg apart, if_neg (not_not_intro order), if_neg unpaired]

theorem linkMarks_unpaired (planned : NothingPlanned s) (markA : markAt s a = some ma) (markB : markAt s b = some mb)
    (aloneA : ma.partner = none) (aloneB : mb.partner = none) : linkMarks a b ma mb s =
    recomputeZones (setMark a { ma with partner := some b } (setMark b { mb with partner := some a } s)) := by
  unfold linkMarks
  dsimp only
  rw [unlink_unpaired markA aloneA, unlink_unpaired markB aloneB]
  exact deliver_of_nothingPlanned (by simp) planned

/-- The kinds and the order of a pair (R40). -/
theorem pair_formed {x y : Int} {ka kb : MarkKind}
    (h : (ka = .punchIn ∧ kb = .punchOut ∧ x + 1000 ≤ y) ∨ (ka = .punchOut ∧ kb = .punchIn ∧ y + 1000 ≤ x) ∨
      (ka = .guardStart ∧ kb = .guardEnd ∧ x ≤ y) ∨ (ka = .guardEnd ∧ kb = .guardStart ∧ y ≤ x)) :
    kindsPair ka kb = true ∧ OrderHolds ka x kb y := by
  rcases h with ⟨rfl, rfl, order⟩ | ⟨rfl, rfl, order⟩ | ⟨rfl, rfl, order⟩ | ⟨rfl, rfl, order⟩ <;> simp [kindsPair, OrderHolds, order]

theorem unlink_paired (ne : a ≠ b) (markA : markAt s a = some ma) (markB : markAt s b = some mb) (pair : ma.partner = some b) :
    unlink a s = setMark a { ma with partner := none } (setMark b { mb with partner := none } s) ∧ unlinkReports a s ≠ [] := by
  have partner : partnerOf s a = some b := by
    rw [partnerOf_eq, linkOf, show slotGet a s.marks = some ma from markA]
    exact pair
  have cleared : clearPartner b s = setMark b { mb with partner := none } s := by rw [clearPartner, markB]
  have markA' : markAt (setMark b { mb with partner := none } s) a = some ma := by
    unfold markAt setMark
    rw [State.onMarks_marks, slotGet_slotPut_other ne]
    exact markA
  refine ⟨?_, by simp [unlinkReports, partner]⟩
  rw [unlink, partner]
  dsimp only
  rw [cleared, clearPartner, markA']

theorem reqMarkUnpair_taken {ctx : Ctx} (checked : checkMark a ctx.station s = .ok ma) :
    reqMarkUnpair a ctx s = (.okWith (n1 a), deliver (unlinkReports a s) (unlink a s)) := by
  rw [reqMarkUnpair, checked]

theorem reqMarkRetire_taken {ctx : Ctx} (checked : checkMark a ctx.station s = .ok ma) :
    reqMarkRetire a ctx s = (.okWith (n1 a), retireMarks [a] s) := by
  rw [reqMarkRetire, checked]

theorem retireMarks_unpaired (planned : NothingPlanned s) (mark : markAt s a = some ma) (alone : ma.partner = none) :
    retireMarks [a] s = recomputeZones (s.onMarks (slotDrop a)) := by
  have freed : freeSlot a s = s.onMarks (slotDrop a) := by rw [freeSlot, unlink_unpaired mark alone]
  simp only [retireMarks, List.foldl_cons, List.foldl_nil, retireOne, freed]
  exact deliver_of_nothingPlanned (by simp) planned

end

/-- Settles O55: two unpaired marks are linked, a pair is unlinked, an unpaired mark retired. -/
theorem marksLinked : Obligations.MarksLinked := by
  intro h a b ma mb s planned lowA highA lowB highB ne markA markB ownA ownB
  have checkedA : checkMark a h.station (disregarding s) = .ok ma := checkMark_passed (s := disregarding s) lowA highA markA ownA
  have checkedB : checkMark b h.station (disregarding s) = .ok mb := checkMark_passed (s := disregarding s) lowB highB markB ownB
  refine ⟨fun hears currentA currentB aloneA aloneB pair => ?_, fun hears pairA pairB form => ?_, fun hears alone => ?_,
    fun hears alone => ?_⟩
  · obtain ⟨kinds, order⟩ := pair_formed pair
    have taken := reqMarkPair_taken (s := disregarding s) (ctx := asker (.markPair h a b)) checkedA checkedB ne currentA currentB kinds
      order aloneA
    rw [linkMarks_unpaired (s := disregarding s) planned markA markB aloneA aloneB] at taken
    exact exec_silent (r := .okWith _) hears nofun taken rfl
  · obtain ⟨unlinked, full⟩ := unlink_paired (s := disregarding s) ne markA markB pairA
    have taken := reqMarkUnpair_taken (s := disregarding s) (ctx := asker (.markUnpair h a)) checkedA
    rw [unlinked, deliver_of_nothingPlanned full (by exact planned)] at taken
    exact exec_silent (r := .okWith _) hears nofun taken rfl
  · have taken := reqMarkUnpair_taken (s := disregarding s) (ctx := asker (.markUnpair h a)) checkedA
    rw [unlink_unpaired (s := disregarding s) markA alone, unlinkReports_unpaired (s := disregarding s) markA alone] at taken
    exact exec_read (r := .okWith _) hears nofun taken
  · have taken := reqMarkRetire_taken (s := disregarding s) (ctx := asker (.markRetire h a)) checkedA
    rw [retireMarks_unpaired (s := disregarding s) planned markA alone] at taken
    exact exec_silent (r := .okWith _) hears nofun taken rfl

end

end Sys2Proof.Machine
end

section
/-!
TransportAsked: ENGAGE, RELEASE, STOP, PLAY, CUE and WIND from the modes at rest (R62, R64, R66 to R72).
-/

namespace Sys2Proof.Machine

open Sys2Proof.Safety

/-! ## ENGAGE, RELEASE and STOP (R62, R64, R67) -/

section
variable {n : Nat} {s : State}

theorem beginEngage_from (mode : s.motion.mode = .released) : beginEngage n s = { s with
    store := { s.store with active := n }
    motion := { s.motion.entering .engaging with vCmd := 0, leader := none, rampK := 0, engageTimer := 0, setpoint := 0 }
    servo := { s.servo with
      cmdSupply := 0, cmdTakeUp := 0, drives := true, ready := 0, rampDone := false, winCount := 0
      refRoller := s.servo.accRoller, refSupply := s.servo.accSupply, refTakeUp := s.servo.accTakeUp
      rSupply := midpoint (s.store.profiles.getD n Config.factoryProfile)
      rTakeUp := midpoint (s.store.profiles.getD n Config.factoryProfile) }
    capstan := s.capstan.driven .engaging } := by
  unfold beginEngage
  dsimp only
  rw [enterMode_from (m₀ := .released) (by exact mode) (by simp) (by simp)]
  rfl

variable {ctx : Ctx}

theorem reqEngage_taken (mode : s.motion.mode = .released) (tape : s.scanner.optical = .opaqueTape) (clear : s.monitor.faults = [])
    (low : n ≤ 7) : reqEngage n ctx s = (.ok, beginEngage n s) := by
  have threaded : ¬ s.scanner.optical = .clear := by simp [tape]
  rw [reqEngage, mode]
  dsimp only
  rw [if_neg threaded, if_neg (not_not_intro clear), if_neg (Nat.not_lt.mpr low)]

theorem reqEngage_noTape (mode : s.motion.mode = .released) (tape : s.scanner.optical = .clear) :
    reqEngage n ctx s = (.refuse .noTape, s) := by
  rw [reqEngage, mode]
  exact if_pos tape

theorem reqEngage_faulted (mode : s.motion.mode = .released) (tape : s.scanner.optical = .opaqueTape) (faults : s.monitor.faults ≠ []) :
    reqEngage n ctx s = (.refuse .faulted, s) := by
  have threaded : ¬ s.scanner.optical = .clear := by simp [tape]
  rw [reqEngage, mode]
  dsimp only
  rw [if_neg threaded, if_pos faults]

theorem dropHeld_of_none (held : s.motion.held = none) (r : LocEnd) : dropHeld r s = s := by
  rw [dropHeld, held]

theorem reqRelease_stopped {l : Level} (mode : s.motion.mode = .stopped l) (held : s.motion.held = none) :
    reqRelease ctx s = (.ok, enterReleasing s) := by
  rw [reqRelease, mode]
  dsimp only
  rw [enterReleasing_from mode (by simp)]
  rw [dropHeld_of_none (by exact held)]

theorem stopEffect_turning (mode : s.motion.mode = .cue ∨ s.motion.mode = .wind) : stopEffect s = enterStopping .normal s := by
  rcases mode with mode | mode <;> rw [stopEffect, mode]

theorem stopEffect_full (mode : s.motion.mode = .stopped .full) : stopEffect s = s.onMotion fun x => { x with idle := 0 } := by
  rw [stopEffect, mode]

/-- Settles O44, request by request and mode by mode. -/
theorem transportRequests : Obligations.TransportRequests := by
  intro h n l ps s
  refine ⟨fun hears mode => ⟨fun tape clear low => ?_, fun tape => ?_, fun tape faults => ?_⟩, fun hears mode held => ?_,
    fun hears => ⟨fun mode => ?_, fun mode => ?_⟩⟩
  · have taken := reqEngage_taken (s := disregarding s) (ctx := asker (.engage h n)) mode tape clear low
    rw [beginEngage_from (s := disregarding s) mode] at taken
    exact exec_silent (r := .ok) hears nofun taken rfl
  · exact exec_read (r := .refuse .noTape) hears nofun
      (reqEngage_noTape (s := disregarding s) (ctx := asker (.engage h n)) mode tape)
  · exact exec_read (r := .refuse .faulted) hears nofun
      (reqEngage_faulted (s := disregarding s) (ctx := asker (.engage h n)) mode tape faults)
  · have taken := reqRelease_stopped (s := disregarding s) (ctx := asker (.release h)) mode held
    rw [enterReleasing_from (s := disregarding s) mode (by simp)] at taken
    exact exec_silent (r := .ok) hears nofun taken rfl
  · have stopped : reqStop (asker (.stop h ps)) (disregarding s) = (.ok, enterStopping .normal (disregarding s)) :=
      congrArg (Prod.mk _) (stopEffect_turning (s := disregarding s) mode)
    rcases mode with mode | mode <;>
    · rw [enterStopping_from (s := disregarding s) .normal mode (by simp)] at stopped
      exact exec_silent (r := .ok) hears nofun stopped rfl
  · have stopped : reqStop (asker (.stop h ps)) (disregarding s) = _ :=
      congrArg (Prod.mk _) (stopEffect_full (s := disregarding s) mode)
    exact exec_silent (r := .ok) hears nofun stopped rfl

/-! ## PLAY, CUE and WIND (R69 to R72) -/

theorem captureReturn_unknown (unknown : quality s = .unknown) : captureReturn s = s := by
  have captured : capture s = none := by rw [capture, unknown]
  rw [captureReturn, captured]

/-- The mark that an accepted PLAY leaves at the place of the heads (R31). -/
abbrev returnMark (st : Standing) (sp : Option Nat) (s : State) : Mark :=
  { kind := .cue, addr := placeHere s, tag := loadedTag s, standing := st, spread := sp, partner := none, label := [], owner := 0
    locked := false }

theorem captureReturn_taken {st : Standing} {sp : Option Nat} (captured : capture s = some (st, sp)) (planned : NothingPlanned s) :
    captureReturn s = recomputeZones (setMark 0 (returnMark st sp s) s) := by
  rw [captureReturn, captured]
  exact deliver_of_nothingPlanned (by simp) planned

theorem capture_known (known : quality s ≠ .unknown) : capture s =
    some (if quality s = .locked then .firm else .provisional s.tracker.counter,
      if quality s = .locked then none else some (min 65535 (1 + (gapOf s.tracker.map s.tracker.counter / 2000).toNat))) := by
  cases q : quality s with
  | locked => exact capture_locked q
  | reckoned => exact capture_reckoned q
  | unknown => exact absurd q known

theorem reqPlay_now (mode : s.motion.mode = .stopped .full) : reqPlay ctx s = (.ok, beginPlay (captureReturn s)) := by
  rw [reqPlay, mode]
  rfl

theorem reqPlay_held (mode : s.motion.mode = .stopped .eased) :
    reqPlay ctx s = (.ok, holdRequest .play (captureReturn s)) := by
  rw [reqPlay, mode]
  rfl

theorem reqCue_now {v : Int} (mode : s.motion.mode = .stopped .full) : reqCue v ctx s =
    (.clampedIf (decide (cueSpeed s v ≠ v)) [], beginCue (100 * cueSpeed s v) s) := by
  rw [reqCue, mode]
  rfl

/-- The number of a direction in WIND's payload (R72). -/
abbrev windNumber : Dir → Nat
  | .forward => 0
  | .reverse => 1

theorem dirOf_windNumber (d : Dir) : dirOf (windNumber d) = some d := by
  cases d <;> rfl

theorem reqWind_now {d : Dir} {x : Nat} (mode : s.motion.mode = .stopped .full) (low : 1 ≤ x) (high : x ≤ 1200) :
    reqWind (windNumber d) x ctx s = (.clampedIf (decide ((activeProfile s).windMax < x)) [], beginWind (windWant s d x) s) := by
  rw [reqWind, mode, dirOf_windNumber]
  exact if_neg (by omega)

theorem reqWind_held {d : Dir} {x : Nat} (mode : s.motion.mode = .stopped .eased) (low : 1 ≤ x) (high : x ≤ 1200) :
    reqWind (windNumber d) x ctx s =
      (.clampedIf (decide ((activeProfile s).windMax < x)) [], holdRequest (.wind (windWant s d x)) s) := by
  rw [reqWind, mode, dirOf_windNumber]
  exact if_neg (by omega)

theorem holdRequest_eased (mode : s.motion.mode = .stopped .eased) (held : s.motion.held = none) (x : Held) : holdRequest x s = { s with
    motion := { s.motion.entering (.stopped .restoring) with
      restoreK := 0, setpoint := ((activeProfile s).tPlay : Int) / 2, held := some x }
    servo := s.servo.entering (.stopped .eased) (.stopped .restoring)
    capstan := s.capstan.driven (.stopped .restoring) } := by
  have turned : ¬ s.motion.mode = .stopped .restoring := by simp [mode]
  unfold holdRequest
  dsimp only
  rw [dropHeld_of_none held, if_neg turned, enterMode_from mode (by simp) (by simp)]
  rfl

theorem windCode (x : Nat) : (if (activeProfile s).windMax < x then Code.clamped else .ok) =
    if x ≤ (activeProfile s).windMax then .ok else .clamped := by
  by_cases fits : x ≤ (activeProfile s).windMax
  · rw [if_neg (Nat.not_lt.mpr fits), if_pos fits]
  · rw [if_pos (Nat.not_le.mp fits), if_neg fits]

end

/-- Settles O45: the request begins from STOPPED FULL, or is held over the restore of STOPPED EASED. -/
theorem motionRequests : Obligations.MotionRequests := by
  refine ⟨fun h v d x s loc => ?_, fun h s hears mode planned known => ?_⟩
  · intro drive speed dn wound
    have number : dn = windNumber d := by cases d <;> rfl
    have want : wound = windWant s d x := by cases d <;> rfl
    rw [number, want]
    refine ⟨fun mode => ⟨fun hears unknown => ?_, fun hears => ?_, fun hears low high => ?_⟩,
      fun mode held => ⟨fun hears unknown => ?_, fun hears low high => ?_⟩⟩
    · have taken := reqPlay_now (s := disregarding s) (ctx := asker (.play h)) mode
      rw [captureReturn_unknown (s := disregarding s) unknown,
        beginPlay_from (s := disregarding s) mode (by simp) loc] at taken
      exact exec_silent (r := .ok) hears nofun taken rfl
    · have taken := reqCue_now (s := disregarding s) (ctx := asker (.cue h v)) (v := v) mode
      have code : (if speed ≠ v then Code.clamped else .ok) = if speed = v then .ok else .clamped := ite_not ..
      rw [beginCue_from (s := disregarding s) _ mode (by simp) loc, clampedIf_decide] at taken
      rw [exec_silent hears nofun taken rfl, ← code]
      rfl
    · have taken := reqWind_now (s := disregarding s) (ctx := asker (.wind h (windNumber d) x)) (d := d) mode low high
      rw [beginWind_from (s := disregarding s) _ mode (by simp) loc, clampedIf_decide] at taken
      rw [exec_silent hears nofun taken rfl, ← windCode]
      rfl
    · have taken := reqPlay_held (s := disregarding s) (ctx := asker (.play h)) mode
      rw [captureReturn_unknown (s := disregarding s) unknown, holdRequest_eased (s := disregarding s) mode held] at taken
      exact exec_silent (r := .ok) hears nofun taken rfl
    · have taken := reqWind_held (s := disregarding s) (ctx := asker (.wind h (windNumber d) x)) (d := d) mode low high
      rw [holdRequest_eased (s := disregarding s) mode held, clampedIf_decide] at taken
      rw [exec_silent hears nofun taken rfl, ← windCode]
      rfl
  · intro m
    obtain ⟨loc, -⟩ := id planned
    have taken := reqPlay_now (s := disregarding s) (ctx := asker (.play h)) mode
    rw [captureReturn_taken (s := disregarding s) (capture_known (s := disregarding s) known) planned,
      beginPlay_from (m₀ := .stopped .full) (by exact mode) (by simp) (by exact loc)] at taken
    exact exec_silent (r := .ok) hears nofun taken rfl

end Sys2Proof.Machine
end

section
/-!
LocateAsked: a LOCATE taken in STOPPED FULL: its target, first phase and reply (R80 to R83).
-/

namespace Sys2Proof.Machine

open Sys2Proof.Safety

section
variable {s : State}

/-! ## Targets (R81, R82) -/

/-- What checks 1 to 3 of LOCATE make of its target field, and the tick and approach distance that the target then has. -/
structure Resolved (s : State) (x : LocTarget) (g : Target) (base near : Int) : Prop where
  inside : targetOut x s = false
  target : resolveTarget x s = .ok g
  base : base = targetBase s g
  near : near = approachDistance s g

theorem resolved_address {a : Addr} (low : a.block ≤ 1048575) (low' : a.sample < spb s) :
    Resolved s (.address a) (.address a) (a.block * 100 + a.sample * 100 / spb s) 30000 where
  inside := decide_eq_false (addr_in low low')
  target := rfl
  base := rfl
  near := rfl

/-- A current mark as the target, however the target field names it. -/
theorem resolved_mark {x : LocTarget} {n : Nat} {m : Mark} (mark : markAt s n = some m) (inside : targetOut x s = false)
    (target : resolveTarget x s = .ok (.mark n)) :
    Resolved s x (.mark n) (tickValue s m) (30000 + 100 * (m.spread.getD 0 : Nat)) where
  inside := inside
  target := target
  base := by rw [targetBase, markTick, mark]
  near := by
    rw [approachDistance, mark]
    dsimp only
    rw [spreadOf]
    cases m.spread <;> rfl

theorem resolveTarget_mark {n : Nat} {m : Mark} (mark : markAt s n = some m) (current : m.tag = loadedTag s) :
    resolveTarget (.mark n) s = .ok (.mark n) := by
  rw [resolveTarget, mark]
  exact if_pos current

theorem resolveTarget_next {n : Nat} {t : Int} (known : quality s ≠ .unknown) (found : findNext s = some (n, t)) :
    resolveTarget .next s = .ok (.mark n) := by
  rw [resolveTarget, if_neg known, found]

theorem resolveTarget_previous {n : Nat} {t : Int} (known : quality s ≠ .unknown) (found : findPrevious s = some (n, t)) :
    resolveTarget .previous s = .ok (.mark n) := by
  rw [resolveTarget, if_neg known, found]

/-! ## The locate begun (R83) -/

theorem reqLocate_now {ctx : Ctx} {x : LocTarget} {g : Target} {pre f limit : Nat} {fo : FollowOn} {base near : Int}
    (mode : s.motion.mode = .stopped .full) (follow : followOnOf f = some fo) (low : pre ≤ 3000) (low' : limit ≤ 60000)
    (resolved : Resolved s x g base near) : reqLocate x pre f limit ctx s =
    (.clampedIf (decide (TargetClamped s g pre))
        (locateReply s (newLocate g pre fo limit s) (firstPhase (newLocate g pre fo limit s) s).number),
      beginLocate (newLocate g pre fo limit s) s) := by
  have inside : ¬ LocateOut x pre limit s := by
    rintro (out | out | out)
    · exact Bool.noConfusion (resolved.inside.symm.trans out)
    · omega
    · omega
  rw [reqLocate, mode, follow]
  dsimp only [motionGate]
  rw [if_neg inside, resolved.target]
  rfl

theorem entering_locate (p : LocPhase) (x : Motion) : x.entering (.locate p) = { x with
    mode := .locate p, liftersUp := if p = .run then true else x.liftersUp, pinchIn := false, brakesOn := false } := by
  cases p <;> rfl

theorem beginLocate_from {m₀ : Mode} {c : LocCtx} (mode : s.motion.mode = m₀) (h : m₀ ≠ .play .run) (loc : s.motion.loc = none) :
    beginLocate c s = { s with
      motion := { s.motion with
        mode := .locate (firstPhase c s), loc := some c
        liftersUp := if firstPhase c s = .run then true else s.motion.liftersUp, pinchIn := false, brakesOn := false, still := 0 }
      servo := s.servo.entering m₀ (.locate (firstPhase c s))
      capstan := s.capstan.driven (.locate (firstPhase c s)) } := by
  unfold beginLocate
  dsimp only
  rw [endLocate_of_none loc, enterMode_from (m₀ := m₀) (by exact mode) h (by simp)]
  simp only [State.onMotion, entering_locate, setLoc]

theorem markField (g : Target) (n : Nat) (same : ∀ k, g = .mark k → k = n) :
    optField (fun n : Nat => n1 n) g.markNumber = if g = .mark n then [1#8] ++ n1 n else [0#8] := by
  cases g with
  | mark k =>
    obtain rfl := same k rfl
    rw [if_pos rfl]
    rfl
  | address a =>
    rw [if_neg (by simp)]
    rfl

end

/-- Settles O46: the target is resolved, and the locate begins in the phase that the estimate asks for. -/
theorem locateBegins : Obligations.LocateBegins := by
  intro h x g base near a n m pre f limit fo s hears mode loc follow low low' cases raw tick ph c
  have resolved : Resolved s x g base near := by
    rcases cases with ⟨rfl, rfl, low, low', rfl, rfl⟩ | ⟨rfl, mark, current, rfl, rfl, named⟩
    · exact resolved_address low low'
    · rcases named with ⟨rfl, low⟩ | ⟨rfl, form, known, ahead, first⟩ | ⟨rfl, form, known, behind, last⟩
      · exact resolved_mark mark (decide_eq_false (Nat.not_lt.mpr low)) (resolveTarget_mark mark current)
      · exact resolved_mark mark rfl (resolveTarget_next known (findNext_eq form mark current ahead first))
      · exact resolved_mark mark rfl (resolveTarget_previous known (findPrevious_eq form mark current behind last))
  have number : ∀ k, g = .mark k → k = n := by
    rcases cases with ⟨-, rfl, -⟩ | ⟨rfl, -⟩
    · simp
    · simp [eq_comm]
  obtain rfl := resolved.base
  obtain rfl := resolved.near
  have taken := reqLocate_now (s := disregarding s) (ctx := asker (.locate h x pre f limit)) mode follow low low'
    ⟨resolved.inside, resolved.target, resolved.base, resolved.near⟩
  rw [beginLocate_from (s := disregarding s) mode (by simp) loc, clampedIf_decide] at taken
  have code : (if raw ≠ tick then Code.clamped else .ok) = if raw = tick then .ok else .clamped := ite_not ..
  rw [exec_silent hears nofun taken rfl, ← code, ← markField g n number]
  rfl

end Sys2Proof.Machine
end

section
/-!
CardAsked: FAULT CLEAR, PROFILE WRITE, STORE SAVE, RESET and REFERENCE SELECT (R134, R138, R171, R174, R192, R198).
-/

namespace Sys2Proof.Machine

open Sys2Proof.Safety

section
variable {s : State} {ctx : Ctx}

/-! ## FAULT CLEAR and PROFILE WRITE (R171, R198) -/

theorem reqFaultClear_parked (parked : Parked s) : reqFaultClear ctx s =
    (.okWith (n1 (s.monitor.faults.length - (keptFaults s).length : Nat) ++ n1 (keptFaults s).length),
      s.onMonitor fun m => { m with faults := keptFaults s }) :=
  if_pos parked

/-- A profile written to `n` changes the reel that the active one describes (R105). -/
abbrev ReelTurned (n : Nat) (p : Profile) (s : State) : Prop :=
  n = s.store.active ∧ (p.hub ≠ (activeProfile s).hub ∨ p.flange ≠ (activeProfile s).flange)

theorem writeProfile_eq (n : Nat) (p : Profile) (s : State) : writeProfile n p s =
    { s with
      store := { s.store with profiles := s.store.profiles.set n p }
      servo := { s.servo with
        rSupply := if ReelTurned n p s then midpoint p else s.servo.rSupply
        rTakeUp := if ReelTurned n p s then midpoint p else s.servo.rTakeUp } } := by
  have same : (n = s.store.active ∧ (p.hub ≠ (s.store.profiles.getD n Config.factoryProfile).hub ∨
      p.flange ≠ (s.store.profiles.getD n Config.factoryProfile).flange)) ↔ ReelTurned n p s :=
    and_congr_right fun active => by rw [active, activeProfile]
  unfold writeProfile
  dsimp only
  by_cases h : ReelTurned n p s
  · rw [if_pos (same.mpr h)]
    simp only [if_pos h]
    rfl
  · rw [if_neg (same.not.mpr h)]
    simp only [if_neg h]
    rfl

theorem reqProfileWrite_taken {n : Nat} {p : Profile} (low : n ≤ 7) (name : NameOk p.name) (ranges : ProfileRanges p)
    (idle : n ≠ s.store.active ∨ Parked s) : reqProfileWrite n p ctx s = (.ok, writeProfile n p s) := by
  have unused : ¬ (n = s.store.active ∧ ¬ Parked s) := by tauto
  rw [reqProfileWrite, if_neg (Nat.not_lt.mpr low), if_neg (not_not_intro name), if_neg (not_not_intro ranges), if_neg unused]

/-! ## STORE SAVE and RESET (R174, R192) -/

theorem reqStoreSave_free (free : s.store.save = none) : reqStoreSave ctx s =
    (.okWith (n1 (snapshot s).marks.length), s.onStore fun c =>
      { c with save := some { stage := 1, snapshot := snapshot s }, sectorFlag := false, user := { c.user with marker := false } }) := by
  rw [reqStoreSave, free]

theorem reqReset_parked (parked : Parked s) : reqReset ctx s = (.ok, if ctx.broadcast then warmReset s else s) := if_pos parked

/-- RESET is answered, and owes the warm reset behind its reply. -/
theorem exec_reset {h : Hdr} (hears : Hears (.reset h) s) (parked : Parked s) : exec (.reset h) s = .next { s with
    link := { answered (.reset h) .ok [] s with
      tx := .replyDue (replyTo { hdr := h, unit := 3, cmd := 0x05, payload := [] } .ok [] s) true } } := by
  obtain ⟨w, wire, takes⟩ := hears
  cases wire
  have taken : handlerOf (.reset h) (askedBy { hdr := h, unit := 3, cmd := 0x05, payload := [] }) (disregarding s) =
      (.ok, disregarding s) := reqReset_parked (s := disregarding s) parked
  rw [exec_takes rfl takes, taken]
  rfl

theorem exec_reset_broadcast {h : Hdr} (running : s.inReset = false) (audible : s.link.silent = false) (quiet : s.link.tx = .quiet)
    (all : h.dest = 31) (station : StationOk h.station) (parked : Parked s) :
    exec (.reset h) s = exec .warmReset { s with link := { s.link with rx := .disregard, tx := .sending true } } := by
  have taken : handlerOf (.reset h) { station := h.station, broadcast := true } (disregarding s) = (.ok, warmReset (disregarding s)) :=
    reqReset_parked (s := disregarding s) parked
  have silent : quieted { s with link := { s.link with rx := .disregard, tx := .sending true } } = disregarding s := by
    simp only [quieted, State.onLink, ← quiet]
  rw [exec_broadcast (i := .reset h) rfl running audible quiet all station, taken, exec_warmReset_sending (by exact running) rfl, silent]

/-! ## REFERENCE SELECT (R134, R138) -/

theorem selectInternal_internal (internal : s.capstan.refState = .internal) :
    selectInternal s = s.onCapstan fun c => { c with selection := .internal } := by
  rw [selectInternal, if_pos (by exact internal)]

/-- The clock deselected while it is in use: the internal reference takes over. -/
theorem selectInternal_external (quiet : NoRecording s) (external : s.capstan.refState = .external) : selectInternal s = { s with
    capstan := { (({ s.capstan with selection := .internal } : Capstan).moved s.motion.mode .internal).requalified with silence := none }
    link := raised .referenceChange s.link } := by
  have clocked : ¬ s.capstan.refState = .internal := by simp [external]
  unfold selectInternal
  dsimp only
  rw [if_neg (by exact clocked), moveRefState_of_quiet .internal (by exact quiet), if_neg (by exact clocked)]
  rfl

theorem selectWordClock_internal (quiet : NoRecording s) (internal : s.capstan.refState = .internal) : selectWordClock s = { s with
    capstan := (({ s.capstan with selection := .wordClock } : Capstan).moved s.motion.mode .qualifying).requalified
    link := raised .referenceChange s.link } := by
  have turned : ¬ s.capstan.refState = .qualifying := by simp [internal]
  unfold selectWordClock
  rw [moveRefState_of_quiet .qualifying (by exact quiet), if_neg (by exact turned)]
  rfl

theorem moved_of_internal {c : Capstan} (m : Mode) (internal : c.refState = .internal) :
    c.moved m .qualifying = { c with refState := .qualifying } := by
  rw [Capstan.moved, if_neg (by simp [internal]), if_neg (by simp [internal])]

theorem moved_of_external {c : Capstan} (m : Mode) (external : c.refState = .external) : c.moved m .internal =
    ({ c with refState := .internal, period := 10000, lastEdge := c.lastInternal, vRef := 10000 } : Capstan).unlocked.driven m := by
  rw [Capstan.moved, if_neg (by simp [external]), if_pos external]

end

/-- Settles O52, request by request. -/
theorem cardRequests : Obligations.CardRequests := by
  refine ⟨fun h n p s => ⟨fun hears parked => ?_, fun hears low name ranges idle => ?_, fun hears free => ?_,
    fun hears parked => exec_reset hears parked,
    fun running audible quiet all station parked => exec_reset_broadcast running audible quiet all station parked⟩,
    fun h s quiet => ⟨fun hears internal => ?_, fun hears internal => ?_, fun hears external => ?_⟩⟩
  · exact exec_silent (r := .okWith _) hears nofun (reqFaultClear_parked (s := disregarding s) (ctx := asker (.faultClear h)) parked) rfl
  · intro turned
    have taken := reqProfileWrite_taken (s := disregarding s) (ctx := asker (.profileWrite h n p)) low name ranges idle
    rw [writeProfile_eq] at taken
    exact exec_silent (r := .ok) hears nofun taken rfl
  · exact exec_silent (r := .okWith _) hears nofun (reqStoreSave_free (s := disregarding s) (ctx := asker (.storeSave h)) free) rfl
  · have taken : reqReferenceSelect 1 (asker (.referenceSelect h 1)) (disregarding s) = (.ok, selectWordClock (disregarding s)) := rfl
    rw [selectWordClock_internal (s := disregarding s) quiet internal, moved_of_internal _ (by exact internal)] at taken
    exact exec_answered (r := .ok) hears nofun taken rfl
  · have taken : reqReferenceSelect 0 (asker (.referenceSelect h 0)) (disregarding s) = (.ok, selectInternal (disregarding s)) := rfl
    rw [selectInternal_internal (s := disregarding s) internal] at taken
    exact exec_silent (r := .ok) hears nofun taken rfl
  · have taken : reqReferenceSelect 0 (asker (.referenceSelect h 0)) (disregarding s) = (.ok, selectInternal (disregarding s)) := rfl
    rw [selectInternal_external (s := disregarding s) quiet external, moved_of_external _ (by exact external)] at taken
    refine ⟨_, exec_answered (r := .ok) hears nofun taken rfl, ⟨rfl, rfl, fun b hb => ?_⟩, rfl, rfl, rfl, rfl, rfl, rfl, rfl, rfl, rfl⟩
    cases b <;> simp at hb <;> rfl

end Sys2Proof.Machine
end

section
/-!
Scans: the rotation pointer, and what a completion writes to the sensor table (R120, R124, R125).
-/

namespace Sys2Proof.Machine

open Sys2Proof.Safety

section
variable {c : ScanCodes} {s : State}

theorem exec_scan (running : s.inReset = false) : exec .scan s = .next (scanStart s) := live_of_running running

theorem scanCompletion_entry {n : Nat} (c : ScanCodes) (full : s.scanner.table.length = 7) (n7 : n < 7) :
    (scanCompletion c s).scanner.table.getD n blankChannel =
      if n = 0 then converted 0 c.supplyArm
      else if n = 1 then converted 1 c.takeUpArm
      else if n = s.scanner.pointer then converted n c.rotating
      else aged (s.scanner.table.getD n blankChannel) := by
  rw [scanCompletion_table, scanTable_getD c (by omega)]

theorem scanCompletion_optical (c : ScanCodes) (s : State) : (scanCompletion c s).scanner.optical =
    if s.scanner.pointer = 6 then opticalAfter c.rotating s.scanner.optical else s.scanner.optical := by
  rw [scanCompletion_scanner]
  rfl

theorem judgeDue_of_none (due : s.monitor.due = none) : judgeDue s = s := by rw [judgeDue, due]

/-- No judgement reads channel 6. -/
theorem scanCompletion_sixth (pointer : s.scanner.pointer = 6) (due : s.monitor.due = none) : scanCompletion c s = writeScan c s := by
  have last : (writeScan c s).scanner.pointer = 6 := pointer
  rw [scanCompletion, judgeDue_of_none due, last]
  rfl

end

/-- Settles O31: the table is the one the completion writes, and channel 6 is judged by nobody. -/
theorem scansTaken : Obligations.ScansTaken := by
  refine ⟨fun s running => exec_scan running, fun n c s running full n7 pointer => ?_⟩
  have entry := scanCompletion_entry (n := n) c full n7
  refine ⟨_, exec_scanCompletion c running, by rw [scanCompletion_scanner]; rfl, by rw [scanCompletion_scanner]; rfl, ?_, ?_, ?_, ?_, ?_, ?_⟩
  · rintro rfl
    rw [entry, if_pos rfl]
    exact ⟨rfl, rfl, rfl⟩
  · rintro rfl
    rw [entry, if_neg (by omega), if_pos rfl]
    exact ⟨rfl, rfl, rfl⟩
  · intro supply takeUp other
    rw [entry, if_neg supply, if_neg takeUp, if_neg other]
    rfl
  · rintro rfl
    rw [entry, if_neg (by omega), if_neg (by omega), if_pos rfl]
    exact ⟨rfl, rfl, rfl⟩
  · intro six
    refine ⟨fun due => ?_, by rw [scanCompletion_optical, if_pos six]; rfl⟩
    rw [scanCompletion_sixth six due]
    exact ⟨rfl, rfl, fun b hb => by cases b <;> simp at hb <;> rfl⟩
  · intro other
    rw [scanCompletion_optical, if_neg other]

/-! ## Roller and reel counts (R3, R101) -/

section
variable {s : State} (d : Dir)

/-- The card once a roller count has stepped the counter and the accumulator. -/
abbrev counted (d : Dir) (s : State) : State := servoRoller d (s.onTracker fun t => { t with counter := stepCounter d t.counter })

theorem exec_rollerCount (running : s.inReset = false) : exec (.rollerCount d) s = .next (positionTest (counted d s)) :=
  live_of_running running

theorem exec_tachometer (r : Reel) (running : s.inReset = false) :
    exec (.reelTachometerCount r d) s = .next (tachometer r d s) :=
  live_of_running running

theorem positionTest_outside (run : ¬ InRun s) : positionTest s = s := if_neg run

theorem activeEntry_of_empty (empty : s.punch.entries = []) : activeEntry s = none := by
  simp [activeEntry, empty]

theorem positionTest_of_quiet (empty : s.punch.entries = []) (quiet : NoRecording s) : positionTest s = s := by
  have active : activePosition s = s := by rw [activePosition, activeEntry_of_empty empty]
  have manual : manualPosition s = s := by rw [manualPosition, quiet.2.2]
  have keys : entryKeys s = [] := by rw [entryKeys, empty]; rfl
  unfold positionTest
  split
  · simp only [active, manual, gateGuard_of_noRecording quiet, keys, List.foldl_nil]
  · rfl

theorem positionTest_counted_onlyIn : OnlyIn [.tracker, .servo, .punch, .link] s (positionTest (counted d s)) := by
  refine ⟨by simp, by simp, fun b hb => ?_⟩
  cases b <;> simp at hb <;> simp [kept]

end

/-- Settles O36: the counter and the accumulator step, and outside PLAY RUN, or with nothing to test, the Punch Unit is still. -/
theorem countsTaken : Obligations.CountsTaken := by
  intro d s running
  refine ⟨⟨_, exec_rollerCount d running, positionTest_counted_onlyIn d, ?_, ?_, fun still => ?_⟩, ?_, ?_⟩
  · rw [(positionTest_frame _).1]
    cases d <;> rfl
  · rw [(positionTest_frame _).2.2.2.1]
    cases d <;> rfl
  · have same : positionTest (counted d s) = counted d s := by
      rcases still with run | ⟨empty, quiet⟩
      · exact positionTest_outside (by exact run)
      · exact positionTest_of_quiet (by exact empty) (by exact quiet)
    rw [same]
    exact ⟨rfl, rfl⟩
  · rw [exec_tachometer d .supply running]
    cases d <;> rfl
  · rw [exec_tachometer d .takeUp running]
    cases d <;> rfl

end Sys2Proof.Machine
end

section
/-!
PositionTested: a roller count in PLAY RUN with one entry in the list (R155, R156, R158).
-/

namespace Sys2Proof.Machine

open Sys2Proof.Safety

section
variable {e f : Entry} {ain : Addr} {s : State}

theorem entryKeys_single (single : s.punch.entries = [e]) : entryKeys s = [e.inMark] := by rw [entryKeys, single]; rfl

theorem entryFor_single (single : s.punch.entries = [e]) : entryFor s e.inMark = some e := by simp [entryFor, single]

/-! ## Entries that a test leaves alone -/

theorem leadCheck_of_complete {r : PunchResult} {x y : Option Addr} (single : s.punch.entries = [e]) (done : e.state = .complete r x y) :
    leadCheck s e.inMark = s := by
  rw [leadCheck, entryFor_single single]
  dsimp only
  rw [done]

theorem missEntry_of_complete {r : PunchResult} {x y : Option Addr} (passed : State → Entry → Bool) (single : s.punch.entries = [e])
    (done : e.state = .complete r x y) : missEntry passed s e.inMark = s := by
  rw [missEntry, entryFor_single single]
  dsimp only
  rw [done]

theorem missEntry_of_cleared {ms : Bool} {passed : State → Entry → Bool} (single : s.punch.entries = [e])
    (cleared : e.state = .armed .cleared ms) (short : passed s e = false) : missEntry passed s e.inMark = s := by
  rw [missEntry, entryFor_single single]
  dsimp only
  rw [cleared]
  exact if_neg (by simp [short])

theorem manualPosition_of_off (off : s.punch.manual = .off) : manualPosition s = s := by rw [manualPosition, off]

/-! ## The drop point (R158) -/

theorem activePosition_drops {late : Bool} {point : Int} (single : s.punch.entries = [e])
    (active : e.state = .active late (some point) ain) (recording : e.rehearse = false) (on : GateOn s) (reached : point ≤ estimate s) :
    activePosition s = raise .punchDone (s.onPunch fun p => { p with
      gateA := false, gateB := false, offset := 0
      entries := [{ e with state := .complete .uncleanOut (some ain) (some (placeHere s)) }]
      last := some (completion e .uncleanOut (some ain) (some (placeHere s))) }) := by
  have closed : closeGates 0 s = s.onPunch fun p => { p with gateA := false, gateB := false, offset := 0 } := if_pos on
  unfold activePosition
  rw [activeEntry_single single active]
  dsimp only
  rw [active]
  dsimp only
  rw [if_pos reached, closeEntry, if_neg (by simp [recording]), closed, completeEntry_single (e := e) (by exact single)]
  rfl

/-- The position test where only the ACTIVE entry or its drop point has anything to do. -/
theorem positionTest_of_complete {u : State} {r : PunchResult} {x y : Option Addr} (run : InRun s) (active : activePosition s = u)
    (quiet : NoRecording u) (single : u.punch.entries = [f]) (done : f.state = .complete r x y) : positionTest s = u := by
  unfold positionTest
  rw [if_pos run]
  dsimp only
  rw [active, manualPosition_of_off quiet.2.2, gateGuard_of_noRecording quiet, entryKeys_single single, List.foldl_cons, List.foldl_nil,
    leadCheck_of_complete single done, entryKeys_single single, List.foldl_cons, List.foldl_nil, missEntry_of_complete _ single done]

/-! ## The lead check (R156) -/

section
variable (run : InRun s) (single : s.punch.entries = [e]) (waiting : e.state = .armed .waiting false) (quiet : NoRecording s)
include run single waiting quiet

theorem positionTest_of_waiting : positionTest s =
    (entryKeys (leadCheck s e.inMark)).foldl (missEntry passedByPosition) (leadCheck s e.inMark) := by
  have idle : activeEntry s = none := activeEntry_of_idle (by simp [single, Entry.isActive, waiting])
  have active : activePosition s = s := by rw [activePosition, idle]
  unfold positionTest
  rw [if_pos run]
  dsimp only
  rw [active, manualPosition_of_off quiet.2.2, gateGuard_of_noRecording quiet, entryKeys_single single, List.foldl_cons, List.foldl_nil]

variable (lead : leadPoint s e ≤ estimate s) (clear : s.punch.zones = [])
include lead clear

omit run quiet in
theorem leadCheck_of_waiting : leadCheck s e.inMark =
    if PunchTests s e then s.onPunch fun p => { p with entries := [{ e with state := .armed .cleared false }] }
    else raise .punchDone (s.onPunch fun p =>
      { p with entries := [{ e with state := .complete .suppressed none none }], last := some (completion e .suppressed none none) }) := by
  have unguarded : ¬ (OverlapsGuard s (entryIn s e) (entryTop s e) ∨ InGuard s (estimate s)) := by simp [OverlapsGuard, InGuard, clear]
  unfold leadCheck
  rw [entryFor_single single]
  dsimp only
  rw [waiting]
  dsimp only
  rw [if_pos lead, if_neg unguarded, completeEntry_single single]
  simp only [State.onPunch, single, putEntry, List.map_cons, List.map_nil, if_true]

theorem positionTest_clears (tests : PunchTests s e) (short : estimate s < ((markBlock s e.inMark : Int) + 3) * 100) :
    positionTest s = s.onPunch fun p => { p with entries := [{ e with state := .armed .cleared false }] } := by
  rw [positionTest_of_waiting run single waiting quiet, leadCheck_of_waiting single waiting lead clear, if_pos tests]
  have single' : (s.onPunch fun p => { p with entries := [{ e with state := .armed .cleared false }] }).punch.entries =
      [{ e with state := .armed .cleared false }] := rfl
  rw [entryKeys_single single', List.foldl_cons, List.foldl_nil]
  exact missEntry_of_cleared single' rfl (decide_eq_false (Int.not_le.mpr short))

theorem positionTest_suppresses (tests : ¬ PunchTests s e) : positionTest s = raise .punchDone (s.onPunch fun p =>
    { p with entries := [{ e with state := .complete .suppressed none none }], last := some (completion e .suppressed none none) }) := by
  rw [positionTest_of_waiting run single waiting quiet, leadCheck_of_waiting single waiting lead clear, if_neg tests]
  have single' : (raise .punchDone (s.onPunch fun p =>
      { p with entries := [{ e with state := .complete .suppressed none none }]
               last := some (completion e .suppressed none none) })).punch.entries =
      [{ e with state := .complete .suppressed none none }] := rfl
  rw [entryKeys_single single', List.foldl_cons, List.foldl_nil]
  exact missEntry_of_complete _ single' rfl

end

end

/-- Settles O37: the drop point of a recording, and the lead check of a waiting entry, at one roller count. -/
theorem positionTests : Obligations.PositionTests := by
  intro e ain point s running run single
  have tracker : (positionTest (counted .forward s)).tracker = (counted .forward s).tracker := by simp
  have place : estimate (positionTest (counted .forward s)) = estimate (counted .forward s) := estimate_congr tracker
  refine ⟨_, exec_rollerCount .forward running, positionTest_counted_onlyIn .forward,
    fun active recording off silent on reached => ?_, fun waiting quiet lead clear locked => ?_⟩
  · have here : placeHere (positionTest (counted .forward s)) = placeHere (counted .forward s) := by
      unfold placeHere spb
      rw [place, tracker]
    have drops := activePosition_drops (s := counted .forward s) single active recording on (place ▸ reached)
    have quiet : NoRecording (raise .punchDone ((counted .forward s).onPunch fun p => { p with
        gateA := false, gateB := false, offset := 0
        entries := [{ e with state := .complete .uncleanOut (some ain) (some (placeHere (counted .forward s))) }]
        last := some (completion e .uncleanOut (some ain) (some (placeHere (counted .forward s)))) })) :=
      ⟨by simp [GateOn], silent, off⟩
    have tested := positionTest_of_complete (s := counted .forward s) run drops quiet rfl rfl
    rw [here, tested]
    exact ⟨by rw [completion, recording]; rfl, rfl⟩
  · rw [place] at lead
    rw [quality_congr tracker] at locked
    have tests : PunchTests (counted .forward s) e ↔ s.capstan.lock = true ∧
        (e.rehearse = true ∨ (s.punch.permit = true ∧ TrackFree s e.tracks)) :=
      ⟨fun ⟨_, lock, _, _, free⟩ => ⟨lock, free⟩, fun ⟨lock, free⟩ => ⟨run, lock, locked, quiet.2.2, free⟩⟩
    refine ⟨fun free lock short => ?_, fun missing => ?_⟩
    · rw [positionTest_clears (s := counted .forward s) run single waiting quiet lead clear (tests.mpr ⟨lock, free⟩) (place ▸ short)]
      exact ⟨rfl, rfl⟩
    · have fails : ¬ PunchTests (counted .forward s) e := by
        rw [tests]
        rintro ⟨lock, free⟩
        rcases missing with h | h
        · exact h free
        · exact Bool.noConfusion (h.symm.trans lock)
      rw [positionTest_suppresses (s := counted .forward s) run single waiting quiet lead clear fails]
      exact ⟨rfl, rfl⟩

end Sys2Proof.Machine
end

section
/-!
Computation: what a servo computation leaves of its figures once the judgements have given their orders (R102 to R110).
-/

namespace Sys2Proof.Machine

open Sys2Proof.Safety

/-! ## Figures that no order touches -/

/-- The Reel Servo but for its lines and the ready window. -/
abbrev unlined (v : Servo) : Servo := { v with cmdSupply := 0, cmdTakeUp := 0, drives := false, ready := 0, rampDone := false }

/-- The Reel Servo but for these and the judgements' counts and flags. -/
abbrev figuresOf (v : Servo) : Servo := { unlined v with loss := 0, runaway := 0, stopSupply := false, stopTakeUp := false }

section
variable (s : State)

theorem entering_unlined (m₀ m : Mode) (v : Servo) : unlined (v.entering m₀ m) = unlined v := by
  unfold Servo.entering
  dsimp only
  split <;> split <;> rfl

@[simp] theorem enterMode_unlined (m : Mode) : unlined (enterMode m s).servo = unlined s.servo := by
  rw [enterMode_servo, entering_unlined]

@[simp] theorem enterStoppedFull_unlined : unlined (enterStoppedFull s).servo = unlined s.servo := enterMode_unlined s _
@[simp] theorem enterStopping_unlined (k : StopKind) : unlined (enterStopping k s).servo = unlined s.servo := enterMode_unlined s _
@[simp] theorem enterReleasing_unlined : unlined (enterReleasing s).servo = unlined s.servo := enterMode_unlined s _

@[simp] theorem giveOrder_unlined (c : FaultClass) : unlined (giveOrder c s).servo = unlined s.servo := by
  cases c
  · change unlined (safeStop s).servo = _
    unfold safeStop
    split <;> simp
  · change unlined (haltOrder s).servo = _
    unfold haltOrder
    split <;> simp
  · change unlined (releaseOrder s).servo = _
    unfold releaseOrder
    split <;> simp

@[simp] theorem recordFault_servo (c : Cause) : (recordFault c s).servo = s.servo := by
  unfold recordFault
  split <;> rfl

@[simp] theorem reportIf_unlined (b : Bool) (c : Cause) : unlined (reportIf b c s).servo = unlined s.servo := by
  unfold reportIf
  split
  · rw [faultReport, giveOrder_unlined, recordFault_servo]
  · rfl

@[simp] theorem judgeChannel_unlined (p code : Nat) : unlined (judgeChannel p code s).servo = unlined s.servo := by
  unfold judgeChannel judgeReel2 judgeReel3 judgeCapstan judgeSupply
  split_ifs <;> simp

@[simp] theorem judgeDue_unlined : unlined (judgeDue s).servo = unlined s.servo := by
  unfold judgeDue
  split <;> simp

@[simp] theorem readyStep_unlined : unlined (readyStep s).servo = unlined s.servo := by
  unfold readyStep
  split_ifs <;> simp

theorem figures_of_unlined {v w : Servo} (h : unlined v = unlined w) : figuresOf v = figuresOf w := (congrArg figuresOf h :)

theorem judgeStep_figures (m : Mode) : figuresOf (judgeStep m s).servo = figuresOf s.servo := by
  unfold judgeStep
  split
  · have reported : unlined (reportIf (runawayReached s) .speedRunaway (reportIf (stopReached s.servo) .armLimit
        (reportIf (lossReached s.servo) .tensionLoss (judged s)))).servo = unlined (judged s).servo := by simp
    exact (figures_of_unlined reported :)
  · rfl

/-- A computation leaves the figures that its steps 1 to 4 formed. -/
theorem servoComputation_figures : figuresOf (servoComputation s).servo = figuresOf (servoFigures s).servo :=
  calc figuresOf (servoComputation s).servo
    _ = figuresOf (compute s).servo := figures_of_unlined (judgeDue_unlined (compute s))
    _ = figuresOf (readyStep (servoFigures s)).servo := judgeStep_figures _ _
    _ = figuresOf (servoFigures s).servo := figures_of_unlined (readyStep_unlined (servoFigures s))

end

/-! ## Torque commands -/

/-- The torque commands are `a` and `b`, or 0 in a mode that forces them (R111). -/
structure Torques (a b : Int) (s : State) : Prop where
  zero : s.motion.mode.forcedZero = true → s.servo.cmdSupply = 0 ∧ s.servo.cmdTakeUp = 0
  free : s.motion.mode.forcedZero = false → s.servo.cmdSupply = a ∧ s.servo.cmdTakeUp = b

section
variable {a b : Int} {s t : State}

theorem Torques.congr (h : Torques a b s) (mode : t.motion.mode = s.motion.mode) (servo : t.servo = s.servo) : Torques a b t :=
  ⟨by rw [mode, servo]; exact h.zero, by rw [mode, servo]; exact h.free⟩

theorem Torques.enterMode (h : Torques a b s) (m : Mode) (k : s.motion.mode.forcedZero = false) : Torques a b (enterMode m s) := by
  obtain ⟨supply, takeUp⟩ := h.free k
  refine ⟨fun forced => ?_, fun free => ?_⟩
  · rw [enterMode_mode] at forced
    rw [enterMode_servo, Servo.entering]
    simp [forced]
  · rw [enterMode_mode] at free
    rw [enterMode_servo, Servo.entering, if_neg (by simp [free])]
    split <;> exact ⟨supply, takeUp⟩

theorem Torques.enterStopping (h : Torques a b s) (k : StopKind) (free : s.motion.mode.forcedZero = false) :
    Torques a b (enterStopping k s) :=
  (h.enterMode _ free).congr rfl rfl

theorem Torques.enterReleasing (h : Torques a b s) (free : s.motion.mode.forcedZero = false) : Torques a b (enterReleasing s) :=
  (h.enterMode _ free).congr rfl rfl

theorem Torques.safeStop (h : Torques a b s) : Torques a b (safeStop s) := by
  unfold Machine.safeStop
  split
  case h_1 m => exact h.enterReleasing (by rw [m]; rfl)
  case h_2 m => exact (h.congr (t := dropHeld .fault s) (by simp) (by simp)).enterStopping _ (by simp [m, Mode.forcedZero])
  case h_3 m => exact h.enterStopping _ (by rw [m]; rfl)
  case h_4 m => exact h.enterStopping _ (by rw [m]; rfl)
  case h_5 m => exact h.enterStopping _ (by rw [m]; rfl)
  case h_6 m => exact (h.congr (t := endLocate .fault s) (by simp) (by simp)).enterStopping _ (by simp [m, Mode.forcedZero])
  case h_7 m => exact h.enterMode _ (by rw [m]; rfl)
  case h_8 => exact h

theorem forcedZero_of_haltable {m : Mode} (h : m.haltable = true) : m.forcedZero = false := by
  revert h
  cases m <;> simp [Mode.haltable, Mode.forcedZero]

theorem Torques.haltOrder (h : Torques a b s) : Torques a b (haltOrder s) := by
  unfold Machine.haltOrder
  split
  next haltable =>
    have dropped : Torques a b (dropHeld .fault (endLocate .fault s)) := h.congr (by simp) (by simp)
    exact (dropped.enterMode .halting (by simp [forcedZero_of_haltable haltable])).congr rfl rfl
  · exact h

theorem Torques.releaseOrder (h : Torques a b s) : Torques a b (releaseOrder s) := by
  unfold Machine.releaseOrder
  split
  next m => exact h.enterReleasing (by rw [m]; rfl)
  · exact h

theorem Torques.reportIf (h : Torques a b s) (b' : Bool) (c : Cause) : Torques a b (reportIf b' c s) := by
  have recorded : Torques a b (recordFault c s) := h.congr (by simp) (by simp)
  unfold Machine.reportIf
  split
  · unfold faultReport
    cases c.faultClass
    · exact recorded.safeStop
    · exact recorded.haltOrder
    · exact recorded.releaseOrder
  · exact h

theorem Torques.judgeChannel (h : Torques a b s) (p code : Nat) : Torques a b (judgeChannel p code s) := by
  unfold Machine.judgeChannel judgeReel2 judgeReel3 judgeCapstan judgeSupply
  split_ifs
  case neg => exact h
  all_goals exact (h.congr (t := s.onMonitor _) rfl rfl).reportIf _ _

theorem Torques.judgeDue (h : Torques a b s) : Torques a b (judgeDue s) := by
  unfold Machine.judgeDue
  split
  · exact (h.congr (t := s.onMonitor _) rfl rfl).judgeChannel _ _
  · exact h

theorem Torques.readyStep (h : Torques a b s) : Torques a b (readyStep s) := by
  unfold Machine.readyStep
  split
  next m =>
    split
    · exact (h.enterMode (.stopped .full) (by rw [m]; rfl)).congr rfl rfl
    · exact ⟨h.zero, h.free⟩
  · exact h

theorem Torques.judgeStep (h : Torques a b s) (m : Mode) : Torques a b (judgeStep m s) := by
  unfold Machine.judgeStep
  split
  · have flagged : Torques a b (judged s) := ⟨h.zero, h.free⟩
    exact ((flagged.reportIf _ _).reportIf _ _).reportIf _ _
  · exact ⟨h.zero, h.free⟩

theorem Torques.computation (h : Torques a b (servoFigures s)) : Torques a b (servoComputation s) :=
  (h.readyStep.judgeStep _).judgeDue

end

/-! ## Steps 1 to 4 (R103 to R110) -/

section
variable (s : State)

theorem radiusStep_servo : (radiusStep s).servo = { s.servo with
    winCount := (radiusStep s).servo.winCount, refRoller := (radiusStep s).servo.refRoller
    refSupply := (radiusStep s).servo.refSupply, refTakeUp := (radiusStep s).servo.refTakeUp
    rSupply := (radiusStep s).servo.rSupply, rTakeUp := (radiusStep s).servo.rTakeUp } := by
  unfold radiusStep
  split <;> rfl

/-- The card after steps 1 to 3 and the finding of the arms. -/
abbrev measured : State := findStops (tensionStep (radiusStep (measureSpeed s)))

theorem channelCode_congr {s t : State} (scanner : t.scanner = s.scanner) (n : Nat) : channelCode t n = channelCode s n := by
  unfold channelCode
  rw [scanner]

theorem measured_servo : (measured s).servo = { (radiusStep (measureSpeed s)).servo with
    codeSupply := channelCode s 0, codeTakeUp := channelCode s 1
    tSupply := tensionOf s.servo.calSupply (channelCode s 0), tTakeUp := tensionOf s.servo.calTakeUp (channelCode s 1)
    foundSupply := atStop (channelCode s 0), foundTakeUp := atStop (channelCode s 1) } := by
  have codes (n : Nat) : channelCode (radiusStep (measureSpeed s)) n = channelCode s n := channelCode_congr (by simp) n
  simp only [measured, findStops, tensionStep, State.onServo_servo, codes]
  rw [radiusStep_servo]
  rfl

theorem tensionSetpoint_congr {s t : State} (motion : t.motion = s.motion) (store : t.store = s.store) :
    tensionSetpoint t = tensionSetpoint s := by
  unfold tensionSetpoint
  rw [motion, activeProfile_congr store]

theorem driveTerm_measured : driveTerm (measured s) =
    if InRun s then 0 else ((s.motion.vCmd - (measured s).servo.vMeas) * (activeProfile s).kv).tdiv 1024 := by
  have motion : (measured s).motion = s.motion := by simp
  unfold driveTerm InRun
  rw [motion, activeProfile_congr (s := s) (by simp)]

theorem servoFigures_servo : (servoFigures s).servo =
    if s.motion.mode.forcedZero then { (measured s).servo with tSet := tensionSetpoint s, cmdSupply := 0, cmdTakeUp := 0 }
    else { (measured s).servo with
      tSet := tensionSetpoint s
      cmdSupply := torqueCommand (activeProfile s) s.servo.cmdSupply (tensionTorque
        (demand (activeProfile s) (tensionSetpoint s) (measured s).servo.tSupply) (measured s).servo.rSupply - driveTerm (measured s))
      cmdTakeUp := torqueCommand (activeProfile s) s.servo.cmdTakeUp (tensionTorque
        (demand (activeProfile s) (tensionSetpoint s) (measured s).servo.tTakeUp) (measured s).servo.rTakeUp + driveTerm (measured s)) } := by
  have mode : (measured s).motion.mode = s.motion.mode := by simp
  have commands : (measured s).servo.cmdSupply = s.servo.cmdSupply ∧ (measured s).servo.cmdTakeUp = s.servo.cmdTakeUp := by
    rw [measured_servo, radiusStep_servo]
    exact ⟨rfl, rfl⟩
  change (torqueStep (measured s)).servo = _
  unfold torqueStep
  rw [State.onServo_servo, mode, activeProfile_congr (s := s) (by simp), tensionSetpoint_congr (s := s) (by simp) (by simp), commands.1,
    commands.2]

theorem servoFigures_tSet : (servoFigures s).servo.tSet = tensionSetpoint s := by
  rw [servoFigures_servo]
  split <;> rfl

theorem servoFigures_motion : (servoFigures s).motion = s.motion := by simp [servoFigures]

theorem servoFigures_torques : Torques
    (torqueCommand (activeProfile s) s.servo.cmdSupply (tensionTorque
      (demand (activeProfile s) (tensionSetpoint s) (measured s).servo.tSupply) (measured s).servo.rSupply - driveTerm (measured s)))
    (torqueCommand (activeProfile s) s.servo.cmdTakeUp (tensionTorque
      (demand (activeProfile s) (tensionSetpoint s) (measured s).servo.tTakeUp) (measured s).servo.rTakeUp + driveTerm (measured s)))
    (servoFigures s) := by
  refine ⟨fun forced => ?_, fun free => ?_⟩
  · rw [servoFigures_motion] at forced
    rw [servoFigures_servo, if_pos forced]
    exact ⟨rfl, rfl⟩
  · rw [servoFigures_motion] at free
    rw [servoFigures_servo, if_neg (by simp [free])]
    exact ⟨rfl, rfl⟩

theorem servoFigures_forced (forced : s.motion.mode.forcedZero = true) : Torques 0 0 (servoFigures s) := by
  have commands : (servoFigures s).servo.cmdSupply = 0 ∧ (servoFigures s).servo.cmdTakeUp = 0 := by
    rw [servoFigures_servo, if_pos forced]
    exact ⟨rfl, rfl⟩
  exact ⟨fun _ => commands, fun _ => commands⟩

theorem Torques.of_zero {s : State} (h : Torques 0 0 s) : s.servo.cmdSupply = 0 ∧ s.servo.cmdTakeUp = 0 := by
  cases forced : s.motion.mode.forcedZero
  · exact h.free forced
  · exact h.zero forced

theorem computation_forced (forced : s.motion.mode.forcedZero = true) :
    (servoComputation s).servo.cmdSupply = 0 ∧ (servoComputation s).servo.cmdTakeUp = 0 :=
  (servoFigures_forced s forced).computation.of_zero

theorem computation_tSet : (servoComputation s).servo.tSet = tensionSetpoint s :=
  (congrArg Servo.tSet (servoComputation_figures s) :).trans (servoFigures_tSet s)

end

/-- Settles O33: the setpoint is the mode's, formed before any judgement, and a forced zero outlasts the judgements. -/
theorem tensionSetpoint' : Obligations.TensionSetpoint := by
  intro ph k s running
  refine ⟨_, exec_servoComputation running, ?_⟩
  rw [computation_tSet]
  refine ⟨fun m => ?_, fun m => ?_, fun m => ?_, fun m => ?_, fun m => ?_, fun m => ?_, fun m => ?_, fun m => ?_, fun m => ?_,
    fun m => ⟨?_, computation_forced s (by rw [m]; rfl)⟩, fun m => ⟨?_, computation_forced s (by rcases m with m | m <;> rw [m] <;> rfl)⟩⟩
  case refine_3 => rcases m with m | m | m | m <;> simp [tensionSetpoint, m]
  case refine_9 => rcases m with m | m | m <;> simp [tensionSetpoint, m]
  case refine_11 => rcases m with m | m <;> simp [tensionSetpoint, m]
  all_goals simp [Machine.tensionSetpoint, m]

/-! ## The figures of a computation -/

section
variable (s : State)

/-- The figures that a computation leaves, whatever its judgements order. -/
theorem computation_figures : figuresOf (servoComputation s).servo =
    figuresOf { (measured s).servo with tSet := tensionSetpoint s } := by
  rw [servoComputation_figures, servoFigures_servo]
  split <;> rfl

theorem measured_history : (measured s).servo.history = (s.servo.accRoller :: s.servo.history).take 17 := by
  rw [measured_servo, radiusStep_servo]
  rfl

theorem measured_vMeas : (measured s).servo.vMeas =
    ((s.servo.accRoller - (measured s).servo.history.getD 16 0).toInt * 1000).tdiv 16 := by
  rw [measured_servo, radiusStep_servo]
  rfl

theorem computation_onlyIn : OnlyIn [.motion, .servo, .capstan, .monitor, .punch, .link] s (servoComputation s) := by
  refine ⟨by simp, by simp, fun b hb => ?_⟩
  cases b <;> simp at hb <;> simp [kept]

end

/-- Settles O34: the figures are those of steps 1 to 4, and the torque commands stand where no order turns the mode. -/
theorem servoFiguresFormed : Obligations.ServoFiguresFormed := by
  intro s running
  have figures := computation_figures s
  have history : (servoComputation s).servo.history = (measured s).servo.history := (congrArg Servo.history figures :)
  have vMeas : (servoComputation s).servo.vMeas = (measured s).servo.vMeas := (congrArg Servo.vMeas figures :)
  have tSet : (servoComputation s).servo.tSet = tensionSetpoint s := computation_tSet s
  have tSupply : (servoComputation s).servo.tSupply = (measured s).servo.tSupply := (congrArg Servo.tSupply figures :)
  have tTakeUp : (servoComputation s).servo.tTakeUp = (measured s).servo.tTakeUp := (congrArg Servo.tTakeUp figures :)
  have rSupply : (servoComputation s).servo.rSupply = (measured s).servo.rSupply := (congrArg Servo.rSupply figures :)
  have rTakeUp : (servoComputation s).servo.rTakeUp = (measured s).servo.rTakeUp := (congrArg Servo.rTakeUp figures :)
  refine ⟨_, exec_servoComputation running, computation_onlyIn s, ?_, ?_, ?_, ?_, ?_, ?_, ?_, ?_, fun mode free => ?_⟩
  · rw [history, measured_history]
  · rw [vMeas, history, measured_vMeas]
  · exact (congrArg Servo.codeSupply figures :).trans (by rw [measured_servo])
  · exact (congrArg Servo.codeTakeUp figures :).trans (by rw [measured_servo])
  · exact (congrArg Servo.foundSupply figures :).trans (by rw [measured_servo]; rfl)
  · exact (congrArg Servo.foundTakeUp figures :).trans (by rw [measured_servo]; rfl)
  · exact tSupply.trans (by rw [measured_servo]; rfl)
  · exact tTakeUp.trans (by rw [measured_servo]; rfl)
  · obtain ⟨supply, takeUp⟩ := (servoFigures_torques s).computation.free (mode ▸ free)
    rw [supply, takeUp, vMeas, tSet, tSupply, tTakeUp, rSupply, rTakeUp, driveTerm_measured]
    exact ⟨rfl, rfl⟩

end Sys2Proof.Machine
end

section
/-!
Cue reports: the first fault report of a card in CUE with its order, and the limits of a servo computation (R102 to R116,
R194, R195).
-/

namespace Sys2Proof.Machine

open Sys2Proof.Safety

/-! ## The first report, in CUE -/

/-- The fault set of one record, made in CUE. -/
abbrev cueRecord (c : Cause) (s : State) : List FaultRec :=
  [{ cause := c, count := 1, mode := .cue, estimate := estimate s, quality := quality s }]

/-- The transport halted (R78). -/
abbrev Motion.halted (x : Motion) : Motion := { x with
  mode := .halting, vCmd := 0, liftersUp := true, pinchIn := false, brakesOn := true, haltTimer := 0, haltStill := 0 }

/-- The transport stopping safely (R77). -/
abbrev Motion.safelyStopping (x : Motion) : Motion := { x with
  mode := .stopping .safe, pinchIn := false, brakesOn := false, still := 0 }

section
variable {s : State} {c : Cause}

theorem recordFault_cue (cue : s.motion.mode = .cue) (fresh : s.monitor.faults = []) : recordFault c s = { s with
    monitor := { s.monitor with faults := cueRecord c s }
    link := raised .fault s.link } := by
  rw [recordFault_fresh (by simp [HasRecord, fresh]), fresh, insertFault, firstRecord, cue]

/-- A cause of the safe class stops a card in CUE. -/
theorem faultReport_safe_cue (kind : c.faultClass = .safe) (cue : s.motion.mode = .cue) (fresh : s.monitor.faults = []) :
    faultReport c s = { s with
      motion := s.motion.safelyStopping
      capstan := { s.capstan with enable := false, command := 0 }
      monitor := { s.monitor with faults := cueRecord c s }
      link := raised .fault s.link } := by
  rw [faultReport, kind, recordFault_cue cue fresh]
  change safeStop _ = _
  unfold safeStop
  simp only [cue]
  rw [enterStopping_from (m₀ := .cue) .safe (by exact cue) (by simp)]
  rfl

/-- A cause of the abrupt class halts a card in CUE. -/
theorem faultReport_abrupt_cue (kind : c.faultClass = .abrupt) (cue : s.motion.mode = .cue) (loc : s.motion.loc = none)
    (held : s.motion.held = none) (fresh : s.monitor.faults = []) :
    faultReport c s = { s with
      motion := s.motion.halted
      servo := { s.servo with cmdSupply := 0, cmdTakeUp := 0, drives := false }
      capstan := { s.capstan with enable := false, command := 0 }
      monitor := { s.monitor with faults := cueRecord c s }
      link := raised .fault s.link } := by
  rw [faultReport, kind, recordFault_cue cue fresh]
  change haltOrder _ = _
  unfold haltOrder
  rw [if_pos (by simp only [cue]; rfl), endLocate_of_none (by exact loc), dropHeld_of_none (by exact held),
    enterMode_from (m₀ := .cue) (by exact cue) (by simp) (by simp)]
  rfl

end

/-! ## Steps 5 and 6 of a computation -/

section
variable (s : State)

@[simp] theorem recordFault_due (c : Cause) : (recordFault c s).monitor.due = s.monitor.due := by
  unfold recordFault
  split <;> simp

@[simp] theorem reportIf_due (b : Bool) (c : Cause) : (reportIf b c s).monitor.due = s.monitor.due := by
  unfold reportIf faultReport
  split <;> simp

theorem judgeStep_due (m : Mode) : (judgeStep m s).monitor.due = s.monitor.due := by
  unfold judgeStep
  split <;> simp [judged, unjudged]

theorem servoFigures_eq : servoFigures s = { s with servo := (servoFigures s).servo } := by
  unfold servoFigures torqueStep findStops tensionStep radiusStep measureSpeed
  dsimp only
  split <;> rfl

/-- Steps 1 to 4 leave the counts and flags of the judgements and form the codes that these read. -/
theorem servoFigures_judged : (servoFigures s).servo = { (servoFigures s).servo with
    loss := s.servo.loss, runaway := s.servo.runaway, stopSupply := s.servo.stopSupply, stopTakeUp := s.servo.stopTakeUp
    codeSupply := channelCode s 0, codeTakeUp := channelCode s 1 } := by
  rw [servoFigures_servo, measured_servo, radiusStep_servo]
  split <;> rfl

theorem servoFigures_loss : (servoFigures s).servo.loss = s.servo.loss := (congrArg Servo.loss (servoFigures_judged s) :)
theorem servoFigures_runaway : (servoFigures s).servo.runaway = s.servo.runaway :=
  (congrArg Servo.runaway (servoFigures_judged s) :)
theorem servoFigures_codeSupply : (servoFigures s).servo.codeSupply = channelCode s 0 :=
  (congrArg Servo.codeSupply (servoFigures_judged s) :)
theorem servoFigures_codeTakeUp : (servoFigures s).servo.codeTakeUp = channelCode s 1 :=
  (congrArg Servo.codeTakeUp (servoFigures_judged s) :)

theorem stopReached_servoFigures : stopReached (servoFigures s).servo =
    ((atStop (channelCode s 0) && !s.servo.stopSupply) || (atStop (channelCode s 1) && !s.servo.stopTakeUp)) := by
  unfold stopReached
  rw [servoFigures_judged]

/-- The card after the judgements' counts and flags, before any report. -/
theorem judged_servoFigures : judged (servoFigures s) = { s with servo := (judged (servoFigures s)).servo } := by
  conv_lhs => unfold judged
  rw [servoFigures_eq]
  rfl

variable {s}

theorem servoComputation_cue (cue : s.motion.mode = .cue) (due : s.monitor.due = none) : servoComputation s =
    reportIf (runawayReached (servoFigures s)) .speedRunaway (reportIf (stopReached (servoFigures s).servo) .armLimit
      (reportIf (lossReached (servoFigures s).servo) .tensionLoss (judged (servoFigures s)))) := by
  have still : readyStep (servoFigures s) = servoFigures s := if_neg (by rw [servoFigures_motion, cue]; simp)
  have computed : compute s = judgeStep .cue (servoFigures s) := by rw [compute, cue, still]
  have kept : (judgeStep .cue (servoFigures s)).monitor.due = none := by
    rw [judgeStep_due, servoFigures_eq]
    exact due
  rw [servoComputation, computed, judgeDue_of_none kept]
  rfl

theorem runaway_short (count : s.servo.runaway < 9) : runawayReached (servoFigures s) = false := by
  unfold runawayReached nextRunaway
  rw [servoFigures_runaway]
  split <;> simp
  omega

theorem loss_short (count : s.servo.loss < 19) : lossReached (servoFigures s).servo = false := by
  unfold lossReached nextLoss
  rw [servoFigures_loss]
  split <;> simp
  omega

end

/-! ## The limits of a computation -/

section
variable {s : State}

/-- With every report short of its limit a computation in CUE leaves the flags and counts that it judged, and no more. -/
theorem servoComputation_cue_quiet (cue : s.motion.mode = .cue) (due : s.monitor.due = none)
    (runaway : runawayReached (servoFigures s) = false) (stop : stopReached (servoFigures s).servo = false)
    (loss : lossReached (servoFigures s).servo = false) :
    servoComputation s = { s with servo := (judged (servoFigures s)).servo } := by
  rw [servoComputation_cue cue due, runaway, stop, loss]
  exact judged_servoFigures s

theorem servoComputation_loss (cue : s.motion.mode = .cue) (due : s.monitor.due = none) (fresh : s.monitor.faults = [])
    (runaway : runawayReached (servoFigures s) = false) (stop : stopReached (servoFigures s).servo = false)
    (loss : lossReached (servoFigures s).servo = true) :
    servoComputation s = { s with
      motion := s.motion.safelyStopping
      servo := (judged (servoFigures s)).servo
      capstan := { s.capstan with enable := false, command := 0 }
      monitor := { s.monitor with faults := cueRecord .tensionLoss s }
      link := raised .fault s.link } := by
  rw [servoComputation_cue cue due, runaway, stop, loss]
  change faultReport .tensionLoss (judged (servoFigures s)) = _
  rw [judged_servoFigures, faultReport_safe_cue rfl (by exact cue) (by exact fresh)]
  rfl

theorem servoComputation_runaway (cue : s.motion.mode = .cue) (due : s.monitor.due = none) (fresh : s.monitor.faults = [])
    (runaway : runawayReached (servoFigures s) = true) (stop : stopReached (servoFigures s).servo = false)
    (loss : lossReached (servoFigures s).servo = false) :
    servoComputation s = { s with
      motion := s.motion.safelyStopping
      servo := (judged (servoFigures s)).servo
      capstan := { s.capstan with enable := false, command := 0 }
      monitor := { s.monitor with faults := cueRecord .speedRunaway s }
      link := raised .fault s.link } := by
  rw [servoComputation_cue cue due, runaway, stop, loss]
  change faultReport .speedRunaway (judged (servoFigures s)) = _
  rw [judged_servoFigures, faultReport_safe_cue rfl (by exact cue) (by exact fresh)]
  rfl

theorem servoComputation_stop (cue : s.motion.mode = .cue) (due : s.monitor.due = none) (loc : s.motion.loc = none)
    (held : s.motion.held = none) (fresh : s.monitor.faults = [])
    (runaway : runawayReached (servoFigures s) = false) (stop : stopReached (servoFigures s).servo = true)
    (loss : lossReached (servoFigures s).servo = false) :
    servoComputation s = { s with
      motion := s.motion.halted
      servo := { (judged (servoFigures s)).servo with cmdSupply := 0, cmdTakeUp := 0, drives := false }
      capstan := { s.capstan with enable := false, command := 0 }
      monitor := { s.monitor with faults := cueRecord .armLimit s }
      link := raised .fault s.link } := by
  rw [servoComputation_cue cue due, runaway, stop, loss]
  change faultReport .armLimit (judged (servoFigures s)) = _
  rw [judged_servoFigures, faultReport_abrupt_cue rfl (by exact cue) (by exact loc) (by exact held) (by exact fresh)]
  rfl

theorem nextLoss_reached (count : s.servo.loss = 19)
    (out : OutOfWindow (servoFigures s).servo.tSet (servoFigures s).servo.tSupply) : nextLoss (servoFigures s).servo = 20 := by
  unfold nextLoss
  rw [if_pos (.inl out), servoFigures_loss, count]
  rfl

theorem nextRunaway_reached (count : s.servo.runaway = 9)
    (fast : ((activeProfile s).windMax : Int) * 125 < mag (servoFigures s).servo.vMeas) : nextRunaway (servoFigures s) = 10 := by
  unfold nextRunaway
  rw [servoFigures_runaway, count, if_pos]
  · rfl
  · rw [Overspeed, activeProfile_congr (s := s) (by simp [servoFigures])]
    exact fast

theorem stop_clear (supply : atStop (channelCode s 0) = false) (takeUp : atStop (channelCode s 1) = false) :
    stopReached (servoFigures s).servo = false := by
  rw [stopReached_servoFigures, supply, takeUp]
  rfl

/-- In an engaged mode the flags are the arms as the codes find them. -/
theorem servoComputation_flags (engaged : s.motion.mode.engaged = true) (due : s.monitor.due = none) :
    (servoComputation s).servo.stopSupply = atStop (channelCode s 0) ∧
    (servoComputation s).servo.stopTakeUp = atStop (channelCode s 1) := by
  have still : readyStep (servoFigures s) = servoFigures s :=
    if_neg (by rw [servoFigures_motion]; intro m; rw [m] at engaged; cases engaged)
  have kept : (compute s).monitor.due = none := by
    rw [compute, still, judgeStep_due, servoFigures_eq]
    exact due
  have computed : unlined (compute s).servo = unlined (judged (servoFigures s)).servo := by
    rw [compute, still, judgeStep, if_pos engaged]
    simp
  rw [servoComputation, judgeDue_of_none kept]
  refine ⟨(congrArg Servo.stopSupply computed :).trans ?_, (congrArg Servo.stopTakeUp computed :).trans ?_⟩
  · exact congrArg atStop (servoFigures_codeSupply s)
  · exact congrArg atStop (servoFigures_codeTakeUp s)

/-- Outside the engaged modes a computation judges nothing. -/
theorem servoComputation_idle (idle : s.motion.mode.engaged = false) (due : s.monitor.due = none) :
    servoComputation s = unjudged (readyStep (servoFigures s)) := by
  have computed : compute s = unjudged (readyStep (servoFigures s)) := by
    rw [compute, judgeStep, if_neg (by simp [idle])]
  have kept : (compute s).monitor.due = none := by
    rw [compute, judgeStep_due]
    simpa [servoFigures] using due
  rw [servoComputation, judgeDue_of_none kept, computed]

theorem readyStep_link : (readyStep s).link = s.link := by
  unfold readyStep
  split
  next engaging =>
    split
    · rw [enterStoppedFull_from engaging (by simp)]
    · rfl
  · rfl

/-- The radii and references that the last computation of a window leaves. -/
theorem servoFigures_window (count : s.servo.winCount = 15) : (servoFigures s).servo = { (servoFigures s).servo with
    winCount := 0, refRoller := s.servo.accRoller, refSupply := s.servo.accSupply, refTakeUp := s.servo.accTakeUp
    rSupply := windowRadius (activeProfile s) (countDiff s.servo.accRoller s.servo.refRoller)
      (countDiff s.servo.accSupply s.servo.refSupply) s.servo.rSupply
    rTakeUp := windowRadius (activeProfile s) (countDiff s.servo.accRoller s.servo.refRoller)
      (countDiff s.servo.accTakeUp s.servo.refTakeUp) s.servo.rTakeUp } := by
  have ends : radiusStep (measureSpeed s) = restartWindow (formRadii (measureSpeed s)) :=
    if_pos (by change 16 ≤ s.servo.winCount + 1; omega)
  rw [servoFigures_servo, measured_servo, ends]
  split <;> rfl

end

/-- Settles O35: the window's end by the figures of steps 1 to 4, the reports of CUE by the three tests on them. -/
theorem servoLimits : Obligations.ServoLimits := by
  intro s running
  have rows := computationRows running _ (exec_servoComputation running)
  obtain ⟨-, window, lossRow, runawayRow⟩ := rows
  refine ⟨fun count => ?_, fun cue loc fresh due supply takeUp => ⟨fun count short out => ?_, fun count short fast => ?_⟩,
    fun due => ⟨_, exec_servoComputation running, fun idle => ?_, fun engaged => servoComputation_flags engaged due,
      fun cue lossCount runawayCount => ⟨fun stop loc held fresh => ?_, fun clearS clearT => ?_⟩⟩⟩
  · have figures : figuresOf (servoComputation s).servo = _ := (servoComputation_figures s).trans
      (congrArg figuresOf (servoFigures_window count))
    rw [if_pos (by omega)] at window
    exact ⟨_, window, (congrArg Servo.winCount figures :), (congrArg Servo.refRoller figures :), (congrArg Servo.refSupply figures :),
      (congrArg Servo.refTakeUp figures :), (congrArg Servo.rSupply figures :), (congrArg Servo.rTakeUp figures :)⟩
  · have next : nextLoss (servoFigures s).servo = 20 := nextLoss_reached count out
    have ends := servoComputation_loss cue due fresh (runaway_short short) (stop_clear supply takeUp)
      (by rw [lossReached, servoFigures_loss, next, count]; rfl)
    have loss : (servoComputation s).servo.loss = 20 := by rw [ends]; exact next
    rw [if_pos ⟨by omega, loss⟩] at lossRow
    refine ⟨_, lossRow, ?_, loss, ?_⟩
    · rw [ends]
      refine ⟨by simp, by simp, fun b hb => ?_⟩
      cases b <;> simp at hb <;> rfl
    · rw [ends]
      exact ⟨rfl, rfl, rfl, rfl⟩
  · have next : nextRunaway (servoFigures s) = 10 := nextRunaway_reached count fast
    have ends := servoComputation_runaway cue due fresh (by rw [runawayReached, servoFigures_runaway, next, count]; rfl)
      (stop_clear supply takeUp) (loss_short short)
    have runaway : (servoComputation s).servo.runaway = 10 := by rw [ends]; exact next
    rw [if_pos ⟨by omega, runaway⟩] at runawayRow
    refine ⟨_, runawayRow, ?_, runaway, ?_⟩
    · rw [ends]
      refine ⟨by simp, by simp, fun b hb => ?_⟩
      cases b <;> simp at hb <;> rfl
    · rw [ends]
      exact ⟨rfl, rfl, rfl, rfl⟩
  · rw [servoComputation_idle idle due]
    refine ⟨rfl, rfl, rfl, rfl, ?_, ?_⟩
    · simp [unjudged, servoFigures]
    · change (readyStep (servoFigures s)).link = _
      rw [readyStep_link, servoFigures_eq]
  · have reached : stopReached (servoFigures s).servo = true := by
      rw [stopReached_servoFigures]
      rcases stop with ⟨found, flag⟩ | ⟨found, flag⟩ <;> simp [atStop, found, flag]
    rw [servoComputation_stop cue due loc held fresh (runaway_short runawayCount) reached (loss_short lossCount)]
    refine ⟨⟨by simp, by simp, fun b hb => ?_⟩, rfl, rfl, rfl, rfl, rfl, rfl, rfl⟩
    cases b <;> simp at hb <;> rfl
  · have reached : stopReached (servoFigures s).servo = false := by
      rw [stopReached_servoFigures]
      simp only [atStop, Bool.or_eq_false_iff, Bool.and_eq_false_iff, decide_eq_false_iff_not, Bool.not_eq_false']
      exact ⟨or_iff_not_imp_left.mpr fun h => clearS (not_not.mp h), or_iff_not_imp_left.mpr fun h => clearT (not_not.mp h)⟩
    rw [servoComputation_cue_quiet cue due (runaway_short runawayCount) reached (loss_short lossCount)]
    refine ⟨by simp, by simp, fun b hb => ?_⟩
    cases b <;> simp at hb <;> rfl

end Sys2Proof.Machine
end

section
/-!
Judgements: a conversion whose judgement brings a report, before the next computation and behind it (R121, R126 to R128).
-/

namespace Sys2Proof.Machine

open Sys2Proof.Safety

/-! ## What a report leaves behind -/

section
variable (s : State)

theorem recordFault_monitor (c : Cause) :
    (recordFault c s).monitor = { s.monitor with faults := (recordFault c s).monitor.faults } := by
  unfold recordFault
  split <;> rfl

theorem reportIf_monitor (b : Bool) (c : Cause) :
    (reportIf b c s).monitor = { s.monitor with faults := (reportIf b c s).monitor.faults } := by
  unfold reportIf faultReport
  split
  · rw [show (giveOrder c.faultClass (recordFault c s)).monitor = (recordFault c s).monitor by simp]
    exact recordFault_monitor s c
  · rfl

theorem recordFault_has (c : Cause) : HasRecord (recordFault c s) c := by
  unfold recordFault
  split
  next has =>
    obtain ⟨r, mem, cause⟩ := has
    exact ⟨_, List.mem_map_of_mem mem, by rw [if_pos cause]; exact cause⟩
  · exact ⟨firstRecord c s, mem_insertFault.mpr (.inl rfl), rfl⟩

theorem faultReport_has (c : Cause) : HasRecord (faultReport c s) c := by
  have recorded := recordFault_has s c
  unfold HasRecord at recorded ⊢
  simpa [faultReport] using recorded

end

/-! ## A halt order behind other orders -/

/-- Halted, with the reel drives off and both commands 0. -/
structure Halted (s : State) : Prop where
  mode : s.motion.mode = .halting
  supply : s.servo.cmdSupply = 0
  takeUp : s.servo.cmdTakeUp = 0
  drives : s.servo.drives = false

/-- The reel drives are in use, or halted. -/
def Driving (s : State) : Prop := s.motion.mode.haltable = true ∨ Halted s

section
variable {s t : State}

theorem Halted.congr (h : Halted s) (mode : t.motion.mode = s.motion.mode) (servo : t.servo = s.servo) : Halted t :=
  ⟨mode.trans h.mode, servo ▸ h.supply, servo ▸ h.takeUp, servo ▸ h.drives⟩

theorem Driving.congr (h : Driving s) (mode : t.motion.mode = s.motion.mode) (servo : t.servo = s.servo) : Driving t :=
  h.imp (fun on => by rw [mode]; exact on) fun off => off.congr mode servo

theorem haltOrder_halts (h : Driving s) : Halted (haltOrder s) := by
  unfold Machine.haltOrder
  rcases h with on | off
  · rw [if_pos on]
    refine ⟨enterMode_mode _ _, ?_, ?_, ?_⟩
    all_goals
      rw [State.onMotion_servo, enterMode_servo]
      rfl
  · rw [if_neg (by rw [off.mode]; decide)]
    exact off

theorem safeStop_driving (h : Driving s) : Driving (safeStop s) := by
  unfold Machine.safeStop
  split
  case h_8 => exact h
  all_goals exact .inl (congrArg Mode.haltable (enterMode_mode _ _))

theorem releaseOrder_driving (h : Driving s) : Driving (releaseOrder s) := by
  unfold Machine.releaseOrder
  split
  · exact .inl (congrArg Mode.haltable (enterMode_mode .releasing s))
  · exact h

theorem recordFault_driving (h : Driving s) (c : Cause) : Driving (recordFault c s) := h.congr (by simp) (by simp)

theorem reportIf_driving (h : Driving s) (b : Bool) (c : Cause) : Driving (reportIf b c s) := by
  unfold reportIf
  split
  · unfold faultReport
    cases c.faultClass
    · exact safeStop_driving (recordFault_driving h c)
    · exact .inr (haltOrder_halts (recordFault_driving h c))
    · exact releaseOrder_driving (recordFault_driving h c)
  · exact h

theorem judgeStep_driving (m : Mode) (engaged : m.engaged = true) (powered : s.motion.mode.haltable = true) :
    Driving (judgeStep m s) := by
  rw [judgeStep, if_pos engaged]
  have flagged : Driving (judged s) := .inl powered
  exact reportIf_driving (reportIf_driving (reportIf_driving flagged _ _) _ _) _ _

end

/-! ## Completions whose judgement brings a report (R121) -/

section
variable {c : ScanCodes} {s : State}

theorem scanCompletion_reports (due : s.monitor.due = none)
    (reports : reportsAt s.scanner.pointer c.rotating s.monitor = true) : scanCompletion c s =
      (writeScan c s).onMonitor fun m => { m with due := some { channel := s.scanner.pointer, code := c.rotating } } := by
  rw [scanCompletion, judgeDue_of_none due]
  exact if_pos reports

/-- The row's order: the judgement before the next computation. -/
theorem judgedCompletion_reports (due : s.monitor.due = none)
    (reports : reportsAt s.scanner.pointer c.rotating s.monitor = true) :
    judgedCompletion c s = judgeChannel s.scanner.pointer c.rotating (writeScan c s) := by
  rw [judgedCompletion, scanCompletion_reports due reports]
  have monitor : { s.monitor with due := none } = s.monitor := by rw [← due]
  change judgeChannel _ _ { writeScan c s with monitor := { s.monitor with due := none } } = _
  rw [monitor]
  rfl

theorem judgeReel2_reports {v : Int} (count : s.monitor.reel2 = 9) (over' : overReel v = true) :
    judgeReel2 v s = faultReport .reelCurrent { s with monitor := { s.monitor with reel2 := 10 } } := by
  simp only [judgeReel2, State.onMonitor, count, over']
  rfl

theorem judgeReel3_reports {v : Int} (count : s.monitor.reel3 = 9) (over' : overReel v = true) :
    judgeReel3 v s = faultReport .reelCurrent { s with monitor := { s.monitor with reel3 := 10 } } := by
  simp only [judgeReel3, State.onMonitor, count, over']
  rfl

theorem judgeCapstan_reports {v : Int} (count : s.monitor.overload = 199) (over' : overCapstan v = true) :
    judgeCapstan v s = faultReport .capstanOverload { s with monitor := { s.monitor with overload := 200 } } := by
  simp only [judgeCapstan, State.onMonitor, count, over']
  rfl

theorem judgeSupply_reports {v : Int} (up : s.monitor.supplyLow = false) (count : s.monitor.lowCount = 1) (low : v < 38000) :
    judgeSupply v s = faultReport .supplyLow { s with monitor := { s.monitor with supplyLow := true, lowCount := 2 } } := by
  have after : supplyAfter v s.monitor = { s.monitor with supplyLow := true, lowCount := 2 } := by
    rw [supplyAfter, if_neg (by simp [up]), if_pos low, count]
    rfl
  rw [judgeSupply, supplyFalls, State.onMonitor, after, up]
  rfl

end

/-! ## A judgement behind a computation in CUE -/

section
variable {s : State}

theorem compute_cue (cue : s.motion.mode = .cue) : compute s = judgeStep .cue (servoFigures s) := by
  rw [compute, cue, readyStep, if_neg (by rw [servoFigures_motion, cue]; simp)]

theorem compute_cue_driving (cue : s.motion.mode = .cue) : Driving (compute s) := by
  rw [compute_cue cue]
  exact judgeStep_driving .cue rfl (by rw [servoFigures_motion, cue]; rfl)

theorem judgeStep_monitor (m : Mode) :
    (judgeStep m s).monitor = { s.monitor with faults := (judgeStep m s).monitor.faults } := by
  unfold judgeStep
  split
  · rw [reportIf_monitor, reportIf_monitor, reportIf_monitor]
    rfl
  · rfl

/-- The order of a reel current's judgement behind the computation of its conversion. -/
theorem servoComputation_reel2 {code : Nat} (cue : s.motion.mode = .cue) (count : s.monitor.reel2 = 9)
    (due : s.monitor.due = some { channel := 2, code := code }) (high : overReel (channelValue 2 code) = true) :
    servoComputation s = faultReport .reelCurrent { compute s with
      monitor := { (compute s).monitor with reel2 := 10, due := none } } := by
  have monitor : (compute s).monitor = { s.monitor with faults := (compute s).monitor.faults } := by
    rw [compute_cue cue, judgeStep_monitor]
    simp [servoFigures]
  have kept : (compute s).monitor.due = some { channel := 2, code := code } := by
    rw [monitor]
    exact due
  have nine : (compute s).monitor.reel2 = 9 := by
    rw [monitor]
    exact count
  rw [servoComputation, judgeDue, kept]
  exact judgeReel2_reports (s := { compute s with monitor := { (compute s).monitor with due := none } }) nine high

theorem faultReport_monitor (c : Cause) :
    (faultReport c s).monitor = { s.monitor with faults := (faultReport c s).monitor.faults } :=
  reportIf_monitor s true c

end

/-! ## The rows in CUE, with nothing planned -/

section
variable {c : ScanCodes} {s : State}

/-- The card halted from CUE by a completion's judgement, with the Fault Monitor `m` before its record. -/
abbrev haltedBy (c : ScanCodes) (cause : Cause) (m : Monitor) (s : State) : State :=
  { writeScan c s with
    motion := s.motion.halted
    servo := { s.servo with cmdSupply := 0, cmdTakeUp := 0, drives := false }
    capstan := { s.capstan with enable := false, command := 0 }
    monitor := { m with faults := cueRecord cause s }
    link := raised .fault s.link }

theorem haltedBy_onlyIn (cause : Cause) (m : Monitor) :
    OnlyIn [.scanner, .monitor, .motion, .servo, .capstan, .link] s (haltedBy c cause m s) := by
  refine ⟨rfl, rfl, fun b hb => ?_⟩
  cases b <;> simp at hb <;> rfl

/-- A judgement of the abrupt class on a completion taken in CUE. -/
theorem judgedCompletion_halts {cause : Cause} {m : Monitor} (kind : cause.faultClass = .abrupt) (cue : s.motion.mode = .cue)
    (loc : s.motion.loc = none) (held : s.motion.held = none) (fresh : m.faults = []) (due : s.monitor.due = none)
    (reports : reportsAt s.scanner.pointer c.rotating s.monitor = true)
    (judges : judgeChannel s.scanner.pointer c.rotating (writeScan c s) = faultReport cause { writeScan c s with monitor := m }) :
    judgeDue (scanCompletion c s) = haltedBy c cause m s := by
  refine (judgedCompletion_reports due reports).trans (judges.trans ?_)
  rw [faultReport_abrupt_cue kind (by exact cue) (by exact loc) (by exact held) (by exact fresh)]
  rfl

theorem judgedCompletion_stops {cause : Cause} {m : Monitor} (kind : cause.faultClass = .safe) (cue : s.motion.mode = .cue)
    (fresh : m.faults = []) (due : s.monitor.due = none)
    (reports : reportsAt s.scanner.pointer c.rotating s.monitor = true)
    (judges : judgeChannel s.scanner.pointer c.rotating (writeScan c s) = faultReport cause { writeScan c s with monitor := m }) :
    judgeDue (scanCompletion c s) = { writeScan c s with
      motion := s.motion.safelyStopping
      capstan := { s.capstan with enable := false, command := 0 }
      monitor := { m with faults := cueRecord cause s }
      link := raised .fault s.link } := by
  refine (judgedCompletion_reports due reports).trans (judges.trans ?_)
  rw [faultReport_safe_cue kind (by exact cue) (by exact fresh)]
  rfl

end

/-- Settles O32: with the report's count one short, the row's judgement is the first report of a card in CUE, and the order
behind a computation halts whatever that computation ordered. -/
theorem conversionFaults : Obligations.ConversionFaults := by
  refine ⟨fun c s running cue loc held fresh due => ?_, fun c code s running cue count => ⟨fun due pointer high => ?_, fun due high => ?_⟩⟩
  · obtain ⟨reel, overload, supply⟩ := completionRows running c _ (exec_scanCompletion c running)
    refine ⟨fun pointer count high => ?_, fun pointer count high => ?_, fun pointer count high => ?_, fun pointer up count low => ?_⟩
    · have high' : overReel (channelValue 2 c.rotating) = true := decide_eq_true high
      have ends := judgedCompletion_halts (c := c) (cause := .reelCurrent) (m := { s.monitor with reel2 := 10 }) rfl cue loc held
        fresh due (by simp [reportsAt, pointer, count, high']) (by rw [pointer]; exact judgeReel2_reports (s := writeScan c s) count high')
      rw [ends, if_pos (.inl ⟨count, rfl⟩)] at reel
      exact ⟨_, reel, haltedBy_onlyIn _ _, rfl, rfl, rfl, rfl, rfl⟩
    · have high' : overReel (channelValue 3 c.rotating) = true := decide_eq_true high
      have ends := judgedCompletion_halts (c := c) (cause := .reelCurrent) (m := { s.monitor with reel3 := 10 }) rfl cue loc held
        fresh due (by simp [reportsAt, pointer, count, high']) (by rw [pointer]; exact judgeReel3_reports (s := writeScan c s) count high')
      rw [ends, if_pos (.inr ⟨count, rfl⟩)] at reel
      exact ⟨_, reel, rfl, rfl⟩
    · have high' : overCapstan (channelValue 4 c.rotating) = true := decide_eq_true high
      have ends := judgedCompletion_stops (c := c) (cause := .capstanOverload) (m := { s.monitor with overload := 200 }) rfl cue
        fresh due (by simp [reportsAt, pointer, count, high'])
        (by rw [pointer]; exact judgeCapstan_reports (s := writeScan c s) count high')
      rw [ends, if_pos ⟨count, rfl⟩] at overload
      refine ⟨_, overload, ⟨rfl, rfl, fun b hb => ?_⟩, rfl, rfl, rfl, rfl⟩
      cases b <;> simp at hb <;> rfl
    · have low' : channelValue 5 c.rotating < 38000 := low
      have ends := judgedCompletion_halts (c := c) (cause := .supplyLow) (m := { s.monitor with supplyLow := true, lowCount := 2 }) rfl
        cue loc held fresh due (by simp [reportsAt, pointer, supplyFalls, supplyAfter, up, count, low'])
        (by rw [pointer]; exact judgeSupply_reports (s := writeScan c s) up count low')
      rw [ends, if_pos ⟨up, rfl⟩] at supply
      exact ⟨_, supply, haltedBy_onlyIn _ _, rfl, rfl, rfl, rfl⟩
  · refine ⟨_, exec_scanCompletion c running, ?_⟩
    rw [scanCompletion_reports due (by simp [reportsAt, pointer, count, overReel, channelValue, high]), pointer]
    refine ⟨⟨rfl, rfl, fun b hb => ?_⟩, rfl⟩
    cases b <;> simp at hb <;> rfl
  · have ends := servoComputation_reel2 cue count due (by simp [overReel, channelValue, high])
    have tension : (servoComputation s).servo.tSet = (activeProfile s).tPlay := by
      rw [computation_tSet, tensionSetpoint, cue]
    refine ⟨_, exec_servoComputation running, tension, ?_⟩
    rw [ends]
    have driving : Driving { compute s with monitor := { (compute s).monitor with reel2 := 10, due := none } } :=
      (compute_cue_driving cue).congr rfl rfl
    have halted : Halted (faultReport .reelCurrent _) := haltOrder_halts (recordFault_driving driving .reelCurrent)
    have monitor := faultReport_monitor (s := { compute s with monitor := { (compute s).monitor with reel2 := 10, due := none } })
      .reelCurrent
    exact ⟨halted.mode, halted.supply, halted.takeUp, halted.drives, (congrArg Monitor.reel2 monitor :), (congrArg Monitor.due monitor :),
      faultReport_has _ _⟩

end Sys2Proof.Machine
end

section
/-!
Edges: internal edges, word-clock edges, and the changes of the reference in use that they and silence bring
(R132 to R144).
-/

namespace Sys2Proof.Machine

open Sys2Proof.Safety

section
variable {s : State} {n o : Count32}

/-! ## Reference edges (R144) -/

theorem referenceEdge_outside (outside : ¬ InRun s) : referenceEdge s = s := if_neg outside

theorem referenceEdge_counts (run : InRun s) (count : s.capstan.missed ≠ 3) : referenceEdge s = { s with
    capstan := { s.capstan with missed := min 4 (s.capstan.missed + 1) } } := by
  rw [referenceEdge, if_pos run, if_neg count]
  rfl

/-- The fourth missed edge takes the lock and the correction. -/
theorem referenceEdge_loses (run : InRun s) (count : s.capstan.missed = 3) (quiet : NoRecording s) : referenceEdge s = { s with
    capstan := { s.capstan with
      missed := 4, lock := false, lockCount := 0, correction := 0, enable := true, command := s.capstan.vRef } } := by
  have mode : s.motion.mode = .play .run := run
  rw [referenceEdge, if_pos run, if_pos count, gateGuard_of_noRecording (by exact quiet)]
  simp only [State.onCapstan, driveCapstan, mode]
  simp [Mode.capstanOn]

/-! ## Internal edges (R132) -/

/-- The capstan unit at an internal edge that is a reference edge. -/
abbrev Capstan.ticked (c : Capstan) : Capstan := { c with
  lastInternal := c.lastInternal + 10000, timebase := c.lastInternal + 10000, lastEdge := c.lastInternal + 10000 }

theorem internalEdge_inUse (used : s.capstan.refState ≠ .external) :
    internalEdge s = referenceEdge { s with capstan := s.capstan.ticked } := by
  simp only [internalEdge, State.onCapstan, used, reduceIte]

theorem internalEdge_external (unused : s.capstan.refState = .external) : internalEdge s = { s with
    capstan := { s.capstan with
      lastInternal := s.capstan.lastInternal + 10000, timebase := s.capstan.lastInternal + 10000 } } := by
  simp only [internalEdge, State.onCapstan, unused, reduceIte]

/-! ## Word-clock edges (R133, R136) -/

theorem wordClockEdge_internal (used : s.capstan.refState = .internal) :
    wordClockEdge n s = { s with capstan := { s.capstan with timebase := n } } :=
  if_pos used

theorem wordClockEdge_divided (clocked : s.capstan.refState ≠ .internal) (short : s.capstan.divider + 1 < spb s) :
    wordClockEdge n s = { s with
      capstan := { s.capstan with timebase := n, silence := some n, divider := s.capstan.divider + 1 } } := by
  unfold wordClockEdge
  dsimp only
  rw [if_neg (by exact clocked), if_neg (by change ¬ spb s ≤ s.capstan.divider + 1; omega)]
  rfl

/-- The capstan unit at a derived edge. -/
abbrev Capstan.derived (n : Count32) (c : Capstan) : Capstan := { c with
  timebase := n, silence := some n, divider := 0, openAt := some n }

theorem wordClockEdge_derived (clocked : s.capstan.refState ≠ .internal) (full : s.capstan.divider + 1 = spb s) :
    wordClockEdge n s = derivedEdge n { s with
      capstan := { s.capstan with timebase := n, silence := some n, divider := 0 } } := by
  unfold wordClockEdge
  dsimp only
  rw [if_neg (by exact clocked), if_pos (by change spb s ≤ s.capstan.divider + 1; omega)]
  rfl

theorem wordClockEdge_opens (clocked : s.capstan.refState ≠ .internal) (full : s.capstan.divider + 1 = spb s)
    (first : s.capstan.openAt = none) : wordClockEdge n s = { s with capstan := s.capstan.derived n } := by
  rw [wordClockEdge_derived clocked full]
  simp only [derivedEdge, first]
  rfl

theorem wordClockEdge_closes (clocked : s.capstan.refState ≠ .internal) (full : s.capstan.divider + 1 = spb s)
    (opened : s.capstan.openAt = some o) :
    wordClockEdge n s = derivedPeriod (n - o).toNat n { s with capstan := s.capstan.derived n } := by
  rw [wordClockEdge_derived clocked full]
  simp only [derivedEdge, opened]
  rfl

/-- The row of the fourth missed edge, where that edge brings the count to 4. -/
theorem exec_missedEdges (running : s.inReset = false) (count : s.capstan.missed = 3) {t : State}
    (edge : edgeInUse n s = t) (lost : t.capstan.missed = 4) : exec (.missedEdges n) s = .next t := by
  rw [missedRow running n t (by rw [← edge]; exact exec_edgeInUse running n), if_pos ⟨count, lost⟩]

end

/-- Settles O41, edge by edge. -/
theorem edgesTaken : Obligations.EdgesTaken := by
  refine fun n s running => ⟨fun used => ⟨fun outside => ?_, fun run count => ?_, fun run count quiet => ?_⟩, fun unused => ?_,
    fun used => ?_, fun clocked short => ?_, fun clocked full first => ?_⟩
  · rw [exec_internalEdge running, internalEdge_inUse used, referenceEdge_outside (by exact outside)]
  · rw [exec_internalEdge running, internalEdge_inUse used, referenceEdge_counts (by exact run) (by exact count)]
  · have edge : edgeInUse n s = referenceEdge { s with capstan := s.capstan.ticked } :=
      (if_neg used).trans (internalEdge_inUse used)
    rw [referenceEdge_loses (by exact run) (by exact count) (by exact quiet)] at edge
    exact exec_missedEdges running count edge rfl
  · rw [exec_internalEdge running, internalEdge_external unused]
  · rw [exec_wordClockEdge running, wordClockEdge_internal used]
  · rw [exec_wordClockEdge running, wordClockEdge_divided clocked short]
  · rw [exec_wordClockEdge running, wordClockEdge_opens clocked full first]

end Sys2Proof.Machine
end

section
/-!
Turns: derived periods, qualification, the fall back of the reference in use, and silence (R135, R136, R138, R139).
-/

namespace Sys2Proof.Machine

open Sys2Proof.Safety

section
variable {s : State} {n : Count32} {p : Nat}

/-- The capstan unit once it has taken a good period for its reference. -/
abbrev Capstan.timed (n : Count32) (p : Nat) (c : Capstan) : Capstan := { c with
  latest := some p, period := p, lastEdge := n, vRef := refSpeed p }

theorem derivedPeriod_qualifies (waiting : s.capstan.refState ≠ .external) (good : GoodPeriod p) (count : s.capstan.qual = 63)
    (quiet : NoRecording s) : derivedPeriod p n s = { s with
      capstan := ({ s.capstan.timed n p with refState := .external, qual := 64 } : Capstan).unlocked.driven s.motion.mode
      link := raised .referenceChange s.link } := by
  unfold derivedPeriod
  dsimp only
  rw [if_neg (by exact waiting), if_pos good, if_pos (by change 64 ≤ s.capstan.qual + 1; omega), enterExternal,
    referenceTurned_eq (by exact quiet)]
  rfl

theorem derivedPeriod_bad (waiting : s.capstan.refState ≠ .external) (bad : ¬ GoodPeriod p) : derivedPeriod p n s = { s with
    capstan := { s.capstan with latest := some p, qual := 0 } } := by
  unfold derivedPeriod
  dsimp only
  rw [if_neg (by exact waiting), if_neg bad]
  rfl

theorem derivedPeriod_keeps (used : s.capstan.refState = .external) (good : GoodPeriod p) : derivedPeriod p n s =
    referenceEdge { s with capstan := (s.capstan.timed n p).driven s.motion.mode } := by
  unfold derivedPeriod
  dsimp only
  rw [if_pos (by exact used), if_pos good]
  rfl

/-- The word clock falls back to the internal reference (R138). -/
abbrev Capstan.fallen (m : Mode) (c : Capstan) : Capstan :=
  ({ c with refState := .fallback, period := 10000, lastEdge := c.lastInternal, vRef := 10000 } : Capstan).unlocked.driven m

theorem moveRefState_fallback (used : s.capstan.refState = .external) (quiet : NoRecording s) : moveRefState .fallback s = { s with
    capstan := s.capstan.fallen s.motion.mode
    link := raised .referenceChange s.link } := by
  rw [moveRefState_of_quiet .fallback quiet, Capstan.moved]
  simp only [used]
  rfl

theorem derivedPeriod_falls (used : s.capstan.refState = .external) (bad : ¬ GoodPeriod p) (quiet : NoRecording s) :
    derivedPeriod p n s = { s with
      capstan := ({ s.capstan with latest := some p, qual := 0 } : Capstan).fallen s.motion.mode
      link := raised .referenceChange s.link } := by
  unfold derivedPeriod
  dsimp only
  rw [if_pos (by exact used), if_neg bad, moveRefState_fallback (by exact used) (by exact quiet)]
  rfl

theorem silenceTimeout_falls (used : s.capstan.refState = .external) (runs : s.capstan.silence ≠ none) (quiet : NoRecording s) :
    silenceTimeout s = { s with
      capstan := { (s.capstan.fallen s.motion.mode).requalified with silence := none }
      link := raised .referenceChange s.link } := by
  unfold silenceTimeout
  rw [if_neg (by simp [used, runs]), if_pos used, moveRefState_fallback used quiet]
  rfl

theorem silenceTimeout_waiting (waiting : s.capstan.refState = .qualifying) (runs : s.capstan.silence ≠ none) :
    silenceTimeout s = { s with capstan := { s.capstan.requalified with silence := none } } := by
  unfold silenceTimeout
  rw [if_neg (by simp [waiting, runs]), if_neg (by simp [waiting])]
  rfl

theorem bad_of_outside (outside : p < 8929 ∨ 11363 < p) : ¬ GoodPeriod p := by
  unfold GoodPeriod
  omega

/-- The row of qualification, where the edge makes the reference external. -/
theorem exec_qualified (running : s.inReset = false) (waiting : s.capstan.refState ≠ .external) {t : State}
    (edge : wordClockEdge n s = t) (used : t.capstan.refState = .external) : exec (.qualified n) s = .next t := by
  rw [qualifiedRow running n t (by rw [← edge]; exact exec_wordClockEdge running n), if_pos ⟨waiting, used⟩]

theorem driven_run {c : Capstan} {m : Mode} (run : m = .play .run) : c.driven m = { c with
    enable := true, command := c.vRef + c.correction } := by
  subst run
  rfl

theorem driven_outside {c : Capstan} {m : Mode} (outside : m ≠ .play .run) : c.driven m = { c with
    enable := m.capstanOn, command := if m.capstanOn then c.vRef else 0 } := by
  rw [Capstan.driven, if_neg outside]

end

/-- Settles O42, by what the closing edge finds: the reference in use, and a good or a bad period. -/
theorem referenceTurns : Obligations.ReferenceTurns := by
  refine fun n o s running quiet => ⟨fun waiting full opened => ?_, fun used full opened => ?_, fun used runs => ?_, fun waiting runs => ?_⟩
  · have outside : s.capstan.refState ≠ .external := by rcases waiting with w | w <;> simp [w]
    have edge := wordClockEdge_closes (n := n) (by rcases waiting with w | w <;> simp [w]) full opened
    refine ⟨fun count low high => ?_, fun bad => ?_⟩
    · rw [derivedPeriod_qualifies (by exact outside) ⟨low, high⟩ (by exact count) (by exact quiet)] at edge
      rw [exec_qualified running outside edge rfl]
      simp [Capstan.driven, Capstan.unlocked, refSpeed]
    · rw [exec_wordClockEdge running, edge, derivedPeriod_bad (by exact outside) (bad_of_outside bad)]
  · have edge := wordClockEdge_closes (n := n) (by simp [used]) full opened
    refine ⟨fun low high => ?_, fun bad => ?_⟩
    · rw [derivedPeriod_keeps (by exact used) ⟨low, high⟩] at edge
      refine ⟨fun outside => ?_, fun run count => ?_, fun run count => ?_⟩
      · rw [exec_wordClockEdge running, edge, referenceEdge_outside (by exact outside), driven_outside (by exact outside)]
        rfl
      · rw [exec_wordClockEdge running, edge, referenceEdge_counts (by exact run) (by exact count), driven_run (by exact run)]
        simp only [show s.motion.mode = .play .run from run]
        rfl
      · rw [referenceEdge_loses (by exact run) (by exact count) (by exact quiet)] at edge
        rw [exec_missedEdges running count ((if_pos used).trans edge) rfl]
        simp only [show s.motion.mode = .play .run from run]
        rfl
    · rw [exec_wordClockEdge running, edge, derivedPeriod_falls (by exact used) (bad_of_outside bad) (by exact quiet)]
      simp [Capstan.driven, Capstan.unlocked]
  · rw [show exec .silenceTimeout s = .next (silenceTimeout s) from live_of_running running, silenceTimeout_falls used runs quiet]
    simp [Capstan.driven, Capstan.unlocked, Capstan.requalified]
  · rw [show exec .silenceTimeout s = .next (silenceTimeout s) from live_of_running running, silenceTimeout_waiting waiting runs]
    rfl

end Sys2Proof.Machine
end

section
/-!
Inputs: the START input, the record permit, and the stages of a save on the medium (R95, R145, R149, R151, R173 to R176).
-/

namespace Sys2Proof.Machine

open Sys2Proof.Safety

section
variable {s : State}

/-! ## The record permit (R149, R151) -/

/-- With the laws of gates and monitors and no manual record the judgement of the conditions changes nothing. -/
theorem gateGuard_of_lawful (gate : GateLaw s) (monitor : MonitorLaw s) (manual : s.punch.manual = .off) : gateGuard s = s := by
  have kept : ¬ GateLost s := fun l => l.2 (gate l.1)
  have kept' : ¬ MonitorLost s := fun l => l.2 (monitor l.1)
  unfold gateGuard
  dsimp only
  rw [if_neg kept, if_neg kept', dropPending, manual]

/-- A condition lost while one entry records ends that recording and nothing else. -/
theorem gateGuard_recording {e : Entry} {late : Bool} {drop : Option Int} {ain : Addr} (single : s.punch.entries = [e])
    (active : e.state = .active late drop ain) (recording : e.rehearse = false) (lost : GateLost s) (off : ¬ MonitorOn s) :
    gateGuard s = raise .punchDone (s.onPunch fun p =>
      { p with
        gateA := false, gateB := false, offset := 0, manual := .off
        entries := [{ e with state := .complete .aborted (some ain) (some (placeHere s)) }]
        last := some (completion e .aborted (some ain) (some (placeHere s))) }) := by
  unfold gateGuard
  dsimp only
  rw [if_pos lost, dropGates_single single active recording lost.1]
  have kept : ¬ MonitorLost (raise .punchDone (s.onPunch fun p =>
      { p with
        gateA := false, gateB := false, offset := 0, manual := .off
        entries := [{ e with state := .complete .aborted (some ain) (some (placeHere s)) }]
        last := some (completion e .aborted (some ain) (some (placeHere s))) })) := fun l => off l.1
  rw [if_neg kept]
  rfl

theorem exec_permit (running : s.inReset = false) (b : Bool) : exec (.recordPermitChange b) s =
    .next (gateGuard { s with punch := { s.punch with permitPin := b, permit := b } }) :=
  live_of_running running

/-! ## The stages of a save (R173 to R175) -/

theorem exec_saveStageEnd (running : s.inReset = false) (b : Bool) : exec (.saveStageEnd b) s = .next (saveStageEnd b s) :=
  live_of_running running

theorem saveStageEnd_idle (idle : s.store.save = none) (b : Bool) : saveStageEnd b s = s := by
  rw [saveStageEnd, idle]

theorem saveStageEnd_short {v : Save} (save : s.store.save = some v) (short : v.stage < 4) (b : Bool) : saveStageEnd b s =
    s.onStore fun c => { c with save := some { v with stage := v.stage + 1 }, user := stageWritten v.stage v.snapshot c.user } := by
  rw [saveStageEnd, save]
  exact if_pos short

theorem saveStageEnd_last {v : Save} (save : s.store.save = some v) (last : v.stage = 4) (b : Bool) :
    saveStageEnd b s = saveEnd b v.snapshot s := by
  rw [saveStageEnd, save]
  exact if_neg (by omega)

/-! ## START (R95, R145) -/

theorem exec_startSample (running : s.inReset = false) (b : Bool) : exec (.startSample b) s = .next (startSample b s) :=
  live_of_running running

/-- The capstan unit after an edge of START. -/
abbrev Capstan.edged (c : Capstan) : Capstan := { c with
  startHigh := false, startCount := 0, startArmed := false, startEdges := (c.startEdges + 1) % 65536 }

theorem startSample_edge (armed : s.capstan.startArmed = true) (high : s.capstan.startHigh = true) :
    startSample false s = startEdge { s with capstan := s.capstan.edged } := by
  rw [startSample, if_neg Bool.false_ne_true, if_pos ⟨rfl, armed, high⟩]
  rfl

theorem startEdge_elsewhere (elsewhere : s.motion.mode ≠ .locate .hold) : startEdge s = s := by
  unfold startEdge
  split
  next hold => exact absurd hold elsewhere
  · rfl

theorem startSample_low (still : s.capstan.startArmed = false ∨ s.capstan.startHigh = false) : startSample false s =
    { s with capstan := { s.capstan with startHigh := false, startCount := 0 } } := by
  have no : ¬ StartEdgeNow s false := by
    rintro ⟨-, armed, high⟩
    rcases still with h | h <;> simp_all
  rw [startSample, if_neg Bool.false_ne_true, if_neg no]
  rfl

theorem endLocate_of_some {c : LocCtx} (loc : s.motion.loc = some c) (r : LocEnd) : endLocate r s = { s with
    motion := { s.motion with result := some (locResult r c s), loc := none }
    link := raised .locateDone s.link } := by
  rw [endLocate, loc]
  rfl

/-- The locate in HOLD, ended by START, and PLAY ENTRY. -/
theorem enterPlay_held {c : LocCtx} (hold : s.motion.mode = .locate .hold) (loc : s.motion.loc = some c) (r : LocEnd) :
    enterPlay (endLocate r s) = { s with
      motion := { ({ s.motion with result := some (locResult r c s), loc := none } : Motion).entering (.play .entry) with entryCount := 0 }
      servo := s.servo.entering (.locate .hold) (.play .entry)
      capstan := s.capstan.driven (.play .entry)
      link := raised .locateDone s.link } := by
  rw [endLocate_of_some loc, enterPlay_from (m₀ := .locate .hold) (by exact hold) (by simp)]

/-- START in HOLD, the place known and nothing armed: the return mark is taken and PLAY begins. -/
theorem startEdge_hold {c : LocCtx} {j : Judgement} {st : Standing} {sp : Option Nat} (hold : s.motion.mode = .locate .hold)
    (loc : s.motion.loc = some c) (held : s.motion.held = none) (judgement : c.judgement = some j) (empty : s.punch.entries = [])
    (quiet : NoRecording s) (captured : capture s = some (st, sp)) : startEdge s =
      recomputeZones { s with
        marks := slotPut 0 (returnMark st sp s) s.marks
        motion := { ({ s.motion with result := some (locResult j.toEnd c s), loc := none } : Motion).entering (.play .entry) with
          entryCount := 0 }
        servo := s.servo.entering (.locate .hold) (.play .entry)
        capstan := s.capstan.driven (.play .entry)
        link := raised .locateDone s.link } := by
  unfold startEdge
  rw [hold, loc]
  dsimp only
  rw [judgement, Option.getD_some, enterPlay_held hold loc]
  exact captureReturn_taken (by exact captured) ⟨rfl, by exact held, by exact empty, by exact quiet⟩

end

/-- Settles O43, input by input and stage by stage. -/
theorem inputsAndMedium : Obligations.InputsAndMedium := by
  refine ⟨fun c j s running => ⟨exec_startSample running true, fun still => ?_, fun armed high => ⟨fun elsewhere => ?_,
      fun hold loc held judgement none quiet known => ?_⟩⟩,
    fun e late drop ain s running => ⟨fun gate monitor manual => ?_, fun quiet => ?_, fun on off single active recording => ?_⟩,
    fun v s running => ⟨fun idle b => ?_, fun save => ⟨fun one b => ?_, fun two b => ?_, fun three b => ?_, fun four => ⟨?_, ?_⟩⟩⟩⟩
  · rw [exec_startSample running, startSample_low still]
  · rw [exec_startSample running, startSample_edge armed high, startEdge_elsewhere (by exact elsewhere)]
  · rw [exec_startSample running, startSample_edge armed high,
      startEdge_hold (by exact hold) (by exact loc) (by exact held) judgement (by exact none) (by exact quiet)
        (capture_known (s := { s with capstan := s.capstan.edged }) known)]
    have record (r : LocEnd) : locResult r c { s with capstan := s.capstan.edged } =
        { targetTick := c.targetTick, mark := c.target.markNumber, result := r, error := some (estimate s - c.targetTick)
          reversals := c.reversals } := by
      rw [locResult, if_neg (by exact known)]
      rfl
    rw [record]
    cases j <;> rfl
  · rw [exec_permit running, gateGuard_of_lawful (fun on => ?_) (by exact monitor) (by exact manual)]
    obtain ⟨conditions, -, tracks⟩ := gate on
    exact ⟨conditions, rfl, tracks⟩
  · rw [exec_permit running, gateGuard_of_noRecording (by exact quiet)]
  · have lost : GateLost { s with punch := { s.punch with permitPin := false, permit := false } } := ⟨on, by simp⟩
    rw [exec_permit running, gateGuard_recording (by exact single) active recording lost (by exact off)]
    rw [completion, recording]
    rfl
  · rw [exec_saveStageEnd running, saveStageEnd_idle idle]
  · rw [exec_saveStageEnd running, saveStageEnd_short save (by omega), one]
    rfl
  · rw [exec_saveStageEnd running, saveStageEnd_short save (by omega), two]
    rfl
  · rw [exec_saveStageEnd running, saveStageEnd_short save (by omega), three]
    rfl
  · rw [exec_saveStageEnd running, saveStageEnd_last save four]
    rfl
  · rw [exec_saveStageEnd running, saveStageEnd_last save four]
    rfl

end Sys2Proof.Machine
end

section
/-!
Moving: the profile update of a transport in motion outside a locate, on opaque tape; ENGAGING's ready window and the passage
of PLAY from ENTRY to RUN (R58, R61, R63, R69, R140, R152).
-/

namespace Sys2Proof.Machine

open Sys2Proof.Safety

section
variable {s : State}

/-! ## The ready window (R63, R112) -/

theorem servoFigures_ready : (servoFigures s).servo = { (servoFigures s).servo with
    rampDone := s.servo.rampDone, ready := s.servo.ready, drives := s.servo.drives } := by
  rw [servoFigures_servo, measured_servo, radiusStep_servo]
  split <;> rfl

theorem readyStep_ends (engaging : s.motion.mode = .engaging) (full : 50 ≤ nextReady s.servo) : readyStep s = { s with
    motion := { s.motion.entering (.stopped .full) with idle := 0 }
    servo := s.servo.entering .engaging (.stopped .full)
    capstan := s.capstan.driven (.stopped .full) } := by
  rw [readyStep, if_pos engaging, if_pos full, enterStoppedFull_from engaging (by simp)]

/-- The fiftieth computation in the ready window ends ENGAGING. -/
theorem servoComputation_ready (engaging : s.motion.mode = .engaging) (full : 50 ≤ nextReady (servoFigures s).servo)
    (due : s.monitor.due = none) : servoComputation s = unjudged { s with
      motion := { s.motion.entering (.stopped .full) with idle := 0 }
      servo := (servoFigures s).servo.entering .engaging (.stopped .full)
      capstan := s.capstan.driven (.stopped .full) } := by
  rw [servoComputation_idle (by rw [engaging]; rfl) due, readyStep_ends (by rw [servoFigures_motion, engaging]) full]
  conv_lhs => rw [servoFigures_eq]

/-! ## The update of a transport in motion -/

theorem lowerLifters_of_down (down : s.motion.liftersUp = false) : lowerLifters s = s := by
  rw [lowerLifters_eq, State.onMotion, down, ite_self, ← down]

/-- The transport after the parts of an update that form the speed, on opaque tape outside a locate. -/
def moving (s : State) : State :=
  (lowerLifters (s.onMotion fun x => { x with vCmd := nextSpeed s })).onMotion fun x => { x with leader := none }

theorem formSpeed_of_unlocated (free : isLocate s.motion.mode = false) :
    formSpeed s = lowerLifters (s.onMotion fun x => { x with vCmd := nextSpeed s }) := by
  unfold formSpeed
  rw [noteDirection_of_unlocated free, noteDirection_of_unlocated (by exact free)]

theorem phaseTests_of_unlocated (free : isLocate s.motion.mode = false) : phaseTests s = s := by
  unfold phaseTests
  split
  case h_6 => rfl
  all_goals
    next mode _ =>
      rw [mode] at free
      cases free

theorem speedPart_of_unlocated (free : isLocate s.motion.mode = false) (tape : s.scanner.optical = .opaqueTape) :
    speedPart s = moving s := by
  rw [speedPart, phaseTests_of_unlocated free, formSpeed_of_unlocated free, tapeEnd_of_opaque]
  · rfl
  · rw [lowerLifters_eq]
    exact tape

/-- In a mode that is neither a locate nor at rest the update is the mode's own part on the transport moving on. -/
theorem profileUpdate_of_unlocated (free : isLocate s.motion.mode = false) (tape : s.scanner.optical = .opaqueTape) :
    profileUpdate s = lowerLifters (modeTests (moving s)) := by
  have same : (moving s).motion.mode = s.motion.mode := by
    rw [moving, lowerLifters_eq]
    rfl
  unfold profileUpdate
  dsimp only
  rw [speedPart_of_unlocated free tape, if_pos same]

theorem moving_of_down (down : s.motion.liftersUp = false) : moving s = { s with
    motion := { s.motion with vCmd := nextSpeed s, leader := none } } := by
  rw [moving, lowerLifters_of_down (by exact down)]
  rfl

/-! ## PLAY ENTRY to RUN (R69) -/

theorem enterMode_run (entry : s.motion.mode = .play .entry) : enterMode (.play .run) s = { s with
    motion := s.motion.entering (.play .run)
    capstan := s.capstan.unlocked.driven (.play .run)
    punch := { s.punch with
      entries := s.punch.entries.map (restage { s with motion := s.motion.entering (.play .run) }) } } := by
  have outside : ¬ InRun s := by simp [entry]
  have same : endEngaging (.play .run) s = s := by
    rw [endEngaging, if_neg]
    simp [entry]
  rw [enterMode_of_enter outside, same]
  rfl

theorem entryUpdate_ends (count : s.motion.entryCount = 19)
    (down : s.motion.liftersUp = false) (near : mag (s.servo.vMeas - s.capstan.vRef) ≤ 500) :
    entryUpdate s = (enterMode (.play .run) s).onMotion fun x => { x with entryCount := 0 } := by
  rw [entryUpdate, if_pos ⟨down, near⟩, if_pos (by omega)]

theorem profileUpdate_entryToRun (entry : s.motion.mode = .play .entry) (count : s.motion.entryCount = 19)
    (down : s.motion.liftersUp = false) (near : mag (s.servo.vMeas - s.capstan.vRef) ≤ 500)
    (tape : s.scanner.optical = .opaqueTape) : profileUpdate s = { s with
      motion := { ({ s.motion with vCmd := nextSpeed s, leader := none } : Motion).entering (.play .run) with entryCount := 0 }
      capstan := s.capstan.unlocked.driven (.play .run)
      punch := { s.punch with
        entries := s.punch.entries.map (restage { s with motion := s.motion.entering (.play .run) }) } } := by
  rw [profileUpdate_of_unlocated (by rw [entry]; rfl) tape, moving_of_down down, modeTests_of_entry (by exact entry),
    entryUpdate_ends (by exact count) (by exact down) (by exact near), enterMode_run (by exact entry),
    lowerLifters_of_down (by exact down)]
  rfl

end

/-- Settles O26: the fiftieth computation in the window, and the twentieth update near the reference speed. -/
theorem modesReached : Obligations.ModesReached := by
  refine ⟨fun s running engaging ramp count window due => ?_, fun s running entry count down near tape => ?_⟩
  · have ready : (servoFigures s).servo.ready = 49 := (congrArg Servo.ready servoFigures_ready :).trans count
    have done : (servoFigures s).servo.rampDone = true := (congrArg Servo.rampDone servoFigures_ready :).trans ramp
    have full : 50 ≤ nextReady (servoFigures s).servo := by
      rw [nextReady, if_pos done, if_pos window, ready]
    have row := (computationRows running _ (exec_servoComputation running)).1
    rw [if_pos ⟨engaging, by omega, full⟩, servoComputation_ready engaging full due] at row
    refine ⟨_, row, ⟨rfl, rfl, fun b hb => ?_⟩, rfl, rfl, rfl, (congrArg Servo.drives servoFigures_ready :), rfl, rfl, rfl⟩
    cases b <;> simp at hb <;> rfl
  · have update := profileUpdate_entryToRun entry count down near tape
    refine ⟨_, exec_updateRow running update (by simp [passes, entry, Motion.entering]), ⟨rfl, rfl, fun b hb => ?_⟩, rfl, ?_, rfl⟩
    · cases b <;> simp at hb <;> rfl
    · simp [Capstan.driven, Capstan.unlocked, Mode.capstanOn]

end Sys2Proof.Machine
end

section
/-!
LatchKept: an event once raised stands in the summary through whatever a report of the Mark Table brings about (R48, R187).
-/

namespace Sys2Proof.Machine

open Sys2Proof.Safety

/-- Every event of `s` still stands in `t`. -/
def Latches (s t : State) : Prop := ∀ e, Latched e s → Latched e t

theorem and_ne_zero_of_or {a b c : BitVec 16} (h : a &&& c ≠ 0) : (a ||| b) &&& c ≠ 0 := by
  intro zero
  have bit : ∀ x y z : Bool, (x && z) = ((x || y) && z && x) := by decide
  have absorbed : a &&& c = ((a ||| b) &&& c) &&& a := by
    ext i
    simp only [BitVec.getElem_and, BitVec.getElem_or]
    exact bit _ _ _
  exact h (absorbed.trans (by simp [zero]))

theorem raised_latched (e : Event) (s : State) : Latched e (raise e s) := by
  have bit : ∀ x y : Bool, ((x || y) && y) = y := by decide
  have absorbed : (s.link.summary ||| e.bit) &&& e.bit = e.bit := by
    ext i
    simp only [BitVec.getElem_and, BitVec.getElem_or]
    exact bit _ _
  change (s.link.summary ||| e.bit) &&& e.bit ≠ 0
  rw [absorbed]
  cases e <;> decide

section
variable {s t u : State}

theorem Latches.refl (s : State) : Latches s s := fun _ h => h

theorem Latches.trans (h : Latches s t) (k : Latches t u) : Latches s u := fun e l => k e (h e l)

theorem Latches.of_link (h : t.link = s.link) : Latches s t := fun e l => by
  unfold Latched
  rw [h]
  exact l

theorem latches_raise (e : Event) (s : State) : Latches s (raise e s) := fun _ l => and_ne_zero_of_or l

theorem latches_foldl {α : Type} {f : State → α → State} (h : ∀ s a, Latches s (f s a)) (l : List α) (s : State) :
    Latches s (l.foldl f s) := by
  induction l generalizing s with
  | nil => exact .refl s
  | cons a l ih => exact (h s a).trans (ih (f s a))

theorem latches_ite {p : Prop} [Decidable p] (h : Latches s t) (k : Latches s u) : Latches s (if p then t else u) := by
  split
  · exact h
  · exact k

end

section
variable (s : State)

/-! ## The Punch Unit -/

theorem completeEntry_latches (e : Entry) (r : PunchResult) (x y : Option Addr) : Latches s (completeEntry e r x y s) :=
  (Latches.of_link (t := s.onPunch _) rfl).trans (latches_raise .punchDone _)

theorem endActive_latches (b : Bool) : Latches s (endActive b s) := by
  unfold endActive
  split
  · split
    · exact latches_ite (completeEntry_latches s _ _ _ _) (.refl s)
    · exact .refl s
  · exact .refl s

theorem dropGates_latches : Latches s (dropGates s) :=
  ((Latches.of_link (t := closeGates 0 s) (by simp)).trans (endActive_latches _ false)).trans (.of_link rfl)

theorem dropMonitors_latches : Latches s (dropMonitors s) :=
  (Latches.of_link (t := closeMonitors 0 s) (by simp)).trans (endActive_latches _ true)

theorem dropPending_latches : Latches s (dropPending s) := .of_link (by simp)
theorem recomputeZones_latches : Latches s (recomputeZones s) := .of_link (by simp)
theorem reformManual_latches : Latches s (reformManual s) := .of_link (by simp)
theorem moveEntries_latches (l : List Nat) : Latches s (moveEntries l s) := .of_link (by simp)

theorem gateGuard_latches : Latches s (gateGuard s) :=
  ((latches_ite (dropGates_latches s) (.refl s)).trans (latches_ite (dropMonitors_latches _) (.refl _))).trans (dropPending_latches _)

theorem abortActive_latches : Latches s (abortActive s) :=
  (latches_ite (dropGates_latches s) (.refl s)).trans (dropMonitors_latches _)

theorem judgeEntry_latches (n : Nat) : Latches s (judgeEntry s n) := by
  unfold judgeEntry
  split
  · split
    · exact latches_ite (completeEntry_latches s _ _ _ _) (.refl s)
    · exact latches_ite (abortActive_latches s) (.of_link rfl)
    · exact .refl s
  · exact .refl s

theorem guardReact_latches : Latches s (guardReact s) :=
  (((recomputeZones_latches s).trans (latches_foldl judgeEntry_latches _ _)).trans (reformManual_latches _)).trans
    (gateGuard_latches _)

theorem removeEntry_latches (n : Nat) : Latches s (removeEntry n s) :=
  (latches_ite (abortActive_latches s) (.refl s)).trans (.of_link rfl)

theorem removeEntriesOf_latches (n : Nat) : Latches s (removeEntriesOf s n) :=
  latches_foldl (fun s n => removeEntry_latches s n) _ _

theorem reportToPunch_latches (rs : List Report) : Latches s (reportToPunch rs s) :=
  ((latches_foldl removeEntriesOf_latches _ s).trans (moveEntries_latches _ _)).trans (guardReact_latches _)

theorem leaveRunPunch_latches : Latches s (leaveRunPunch s) :=
  ((dropGates_latches s).trans (dropMonitors_latches _)).trans (.of_link rfl)

/-! ## The Motion Controller -/

theorem enterMode_latches (m : Mode) : Latches s (enterMode m s) := by
  rcases enterMode_cases m s with steady | ⟨run, away⟩ | ⟨run, rfl⟩
  · exact .of_link (enterMode_link_steady steady)
  · exact (leaveRunPunch_latches s).trans (.of_link (enterMode_link_leave run away))
  · exact .of_link (by simp [enterMode_of_enter run])

theorem writeResult_latches (r : LocEnd) (c : LocCtx) : Latches s (writeResult r c s) :=
  (Latches.of_link (t := s.onMotion _) rfl).trans (latches_raise .locateDone _)

theorem endLocate_latches (r : LocEnd) : Latches s (endLocate r s) := by
  unfold endLocate
  split
  · exact (writeResult_latches s r _).trans (.of_link rfl)
  · exact .refl s

theorem dropHeld_latches (r : LocEnd) : Latches s (dropHeld r s) := by
  unfold dropHeld
  split
  · exact (writeResult_latches s r _).trans (.of_link rfl)
  · exact .of_link rfl
  · exact .refl s

theorem setLoc_latches (c : LocCtx) : Latches s (setLoc c s) := .of_link rfl

theorem toLocateRun_latches (c : LocCtx) : Latches s (toLocateRun c s) := (setLoc_latches s _).trans (enterMode_latches _ _)

theorem toApproach_latches (c : LocCtx) : Latches s (toApproach c s) :=
  ((setLoc_latches s _).trans (enterMode_latches _ _)).trans (.of_link rfl)

theorem judgeTarget_latches (c : LocCtx) : Latches s (judgeTarget c s) := by
  unfold judgeTarget
  dsimp only
  split
  case h_4 => exact setLoc_latches s c
  case h_1 => exact latches_ite (toLocateRun_latches s c) (latches_ite (setLoc_latches s _) (setLoc_latches s c))
  all_goals exact latches_ite (toLocateRun_latches s c) (latches_ite (toApproach_latches s c) (setLoc_latches s c))

theorem enterStopping_latches (k : StopKind) : Latches s (enterStopping k s) :=
  (enterMode_latches s _).trans (.of_link rfl)

theorem reportToLocate_latches (r : Report) : Latches s (reportToLocate r s) := by
  unfold reportToLocate
  split
  · exact latches_ite (latches_ite (judgeTarget_latches s _)
      (latches_ite ((endLocate_latches s _).trans (enterStopping_latches _ _)) (.refl s))) (.refl s)
  · exact .refl s

theorem reportToHeld_latches (r : Report) : Latches s (reportToHeld r s) := by
  unfold reportToHeld
  split
  · exact latches_ite (latches_ite (.of_link rfl) (latches_ite (dropHeld_latches s _) (.refl s))) (.refl s)
  · exact .refl s

theorem reportToMotion_latches (r : Report) : Latches s (reportToMotion s r) :=
  (reportToLocate_latches s r).trans (reportToHeld_latches _ r)

theorem deliver_latches (rs : List Report) : Latches s (deliver rs s) :=
  latches_ite (.refl s) ((latches_foldl reportToMotion_latches rs s).trans (reportToPunch_latches _ rs))

theorem captureReturn_latches : Latches s (captureReturn s) := by
  unfold captureReturn
  split
  · exact (Latches.of_link (t := setMark 0 _ s) (by simp)).trans (deliver_latches _ _)
  · exact .refl s

end

end Sys2Proof.Machine
end

section
/-!
Arrivals: the ends of a locate: a search without an address, the arrival test with its follow-ons and creep runs, and the
expiry of a hold (R90 to R98).
-/

namespace Sys2Proof.Machine

open Sys2Proof.Safety

section
variable {s : State} {c : LocCtx}

/-! ## An update whose phase test ends the locate -/

/-- With the locate ended by its phase test the update goes on as in the mode that the test entered. -/
theorem profileUpdate_of_ended {u : State} (phases : phaseTests s = u) (free : isLocate u.motion.mode = false)
    (tape : u.scanner.optical = .opaqueTape) (turned : u.motion.mode ≠ s.motion.mode) : profileUpdate s = lowerLifters (moving u) := by
  have part : speedPart s = moving u := by
    rw [speedPart, phases, formSpeed_of_unlocated free, tapeEnd_of_opaque]
    · rfl
    · rw [lowerLifters_eq]
      exact tape
  have mode : (moving u).motion.mode = u.motion.mode := by
    rw [moving, lowerLifters_eq]
    rfl
  unfold profileUpdate
  dsimp only
  rw [part, if_neg (by rw [mode]; exact turned)]

/-- What moving on leaves of a transport: all but the speed, the lifters and the leader side. -/
theorem lowerLifters_moving (s : State) : ∃ b, lowerLifters (moving s) = { s with
    motion := { s.motion with vCmd := nextSpeed s, leader := none, liftersUp := b } } := by
  refine ⟨(lowerLifters (moving s)).motion.liftersUp, ?_⟩
  rw [lowerLifters_eq, moving, lowerLifters_eq]
  rfl

/-! ## The arrival test (R93) -/

/-- A locate whose last run has ended: the settle latch is set, or the creep run is over. -/
structure RunEnded (c : LocCtx) (s : State) : Prop where
  loc : s.motion.loc = some c
  near : distance s c ≤ c.approach
  phase : (s.motion.mode = .locate .approach ∧ c.latch = true) ∨ (s.motion.mode = .locate .creep ∧ c.creep = none)

theorem phaseTests_of_ended (h : RunEnded c s) : phaseTests s = s := by
  have near : ¬ c.approach < distance s c := by have := h.near; omega
  rcases h.phase with ⟨mode, latch⟩ | ⟨mode, creep⟩
  · have same : ({ c with latch := true } : LocCtx) = c := by rw [← latch]
    unfold phaseTests
    simp only [mode, h.loc]
    rw [approachPhase, if_neg near, settle, same]
    have set : setLoc c s = s := by rw [setLoc, State.onMotion, ← h.loc]
    rw [set, ite_self]
  · unfold phaseTests
    simp only [mode, h.loc]
    rw [creepPhase, if_neg near, creep]

theorem wantedSpeed_of_ended (h : RunEnded c s) : wantedSpeed s = 0 := by
  rcases h.phase with ⟨mode, latch⟩ | ⟨mode, creep⟩
  · simp only [wantedSpeed, mode, h.loc, locateWant, latch, if_true]
  · simp only [wantedSpeed, mode, h.loc, locateWant, creep]

/-- The card at its arrival test. -/
abbrev arriving (s : State) : State := { s with motion := { s.motion with leader := none, liftersUp := false, still := 0 } }

theorem runEnded_row (h : RunEnded c s) : s.motion.mode.liftersRow = some false := by
  rcases h.phase with ⟨mode, -⟩ | ⟨mode, -⟩ <;> rw [mode] <;> rfl

theorem speedPart_of_ended (h : RunEnded c s) (tape : s.scanner.optical = .opaqueTape) (a : 0 ≤ decelLimit s)
    (speed : s.motion.vCmd = 0) (meas : mag s.servo.vMeas < 200) : speedPart s = { s with
      motion := { s.motion with leader := none, liftersUp := false } } := by
  have outside : ¬ InRun s := by rcases h.phase with ⟨mode, -⟩ | ⟨mode, -⟩ <;> simp [mode]
  have still : Standstill s := ⟨wantedSpeed_of_ended h, nextSpeed_of_still outside (wantedSpeed_of_ended h) speed a, fun _ => speed,
    .inr tape⟩
  rw [speedPart_of_standstill (by rw [phaseTests_of_ended h]; exact still), phaseTests_of_ended h, standing, State.onMotion,
    if_pos ⟨runEnded_row h, by omega⟩, sideAfter, if_pos tape, ← speed]

theorem modeTests_of_ended (h : RunEnded c s) : modeTests s = settledUpdate s := by
  rcases h.phase with ⟨mode, -⟩ | ⟨mode, -⟩
  · exact modeTests_of_approach mode
  · exact modeTests_of_creep mode

/-- The row of the arrival test: the twentieth stationary update of a run that has ended. -/
theorem exec_arrivalTest (running : s.inReset = false) (h : RunEnded c s) (tape : s.scanner.optical = .opaqueTape)
    (a : 0 ≤ decelLimit s) (still : s.motion.still = 19) (speed : s.motion.vCmd = 0) (meas : mag s.servo.vMeas < 200) :
    exec .arrivalTest s = .next (lowerLifters
      (if mag (estimate s - c.targetTick) ≤ 100 then arrive c (arriving s) else creepRun c (arriving s))) := by
  have part := speedPart_of_ended h tape a speed meas
  have count : stillCount (speedPart s) = 20 := by
    rw [part]
    exact stillCount_ends still speed meas
  have ended : RunEnded c (speedPart s) := by
    rw [part]
    exact ⟨h.loc, h.near, h.phase⟩
  have mode : (speedPart s).motion.mode = s.motion.mode := by rw [part]
  have update : profileUpdate s = lowerLifters
      (if mag (estimate s - c.targetTick) ≤ 100 then arrive c (arriving s) else creepRun c (arriving s)) := by
    unfold profileUpdate
    dsimp only
    rw [if_pos mode, modeTests_of_ended ended, settledUpdate, ended.loc, count]
    dsimp only
    rw [if_pos (by norm_num), arrivalTest, part]
    rfl
  refine exec_updateRow running update ?_
  have phase : s.motion.mode = .locate .approach ∨ s.motion.mode = .locate .creep := h.phase.imp And.left And.left
  rw [arrivalDue, decide_eq_true_eq]
  exact ⟨phase, mode, by rw [ended.loc]; simp, by omega⟩

/-! ## Follow-ons and creep runs (R94, R95) -/

theorem judgement_toEnd : (judgement s).toEnd = if quality s = .locked then .arrived else .reckoned := by
  unfold judgement
  split <;> rfl

theorem judgement_eq : judgement s = if quality s = .locked then .arrived else .reckoned := rfl

/-- A locate ended in STOPPED FULL. -/
theorem enterStoppedFull_located {ph : LocPhase} (mode : s.motion.mode = .locate ph) (loc : s.motion.loc = some c) (r : LocEnd) :
    enterStoppedFull (endLocate r s) = { s with
      motion := { s.motion with
        mode := .stopped .full, pinchIn := false, brakesOn := false, idle := 0, loc := none, result := some (locResult r c s) }
      capstan := { s.capstan with enable := true, command := s.capstan.vRef }
      link := raised .locateDone s.link } := by
  rw [endLocate_of_some loc, enterStoppedFull_from (m₀ := .locate ph) (by exact mode) (by simp)]
  rfl

theorem arrive_stop {ph : LocPhase} (mode : s.motion.mode = .locate ph) (loc : s.motion.loc = some c) (stop : c.followOn = .stop) :
    arrive c s = { s with
      motion := { s.motion with
        mode := .stopped .full, pinchIn := false, brakesOn := false, idle := 0, loc := none
        result := some (locResult (judgement s).toEnd c s) }
      capstan := { s.capstan with enable := true, command := s.capstan.vRef }
      link := raised .locateDone s.link } := by
  rw [arrive, stop]
  exact enterStoppedFull_located mode loc _

theorem arrive_hold {ph : LocPhase} (mode : s.motion.mode = .locate ph) (hold : c.followOn = .playOnTrigger) :
    arrive c s = { s with
      motion := { s.motion with
        mode := .locate .hold, pinchIn := false, brakesOn := false
        loc := some { c with judgement := some (judgement s), holdTimer := 0, creep := none } }
      capstan := { s.capstan with enable := true, command := s.capstan.vRef } } := by
  rw [arrive, hold]
  dsimp only
  rw [enterMode_from (m₀ := .locate ph) (by exact mode) (by simp) (by simp)]
  rfl

/-- A locate ended in PLAY ENTRY. -/
abbrev playedOn (r : LocEnd) (c : LocCtx) (s : State) : State := { s with
  motion := { s.motion with
    mode := .play .entry, pinchIn := false, brakesOn := false, entryCount := 0, loc := none, result := some (locResult r c s) }
  capstan := { s.capstan with enable := true, command := s.capstan.vRef }
  link := raised .locateDone s.link }

theorem arrive_play {ph : LocPhase} (mode : s.motion.mode = .locate ph) (loc : s.motion.loc = some c) (play : c.followOn = .play) :
    arrive c s = captureReturn (playedOn (judgement s).toEnd c s) := by
  rw [arrive, play]
  dsimp only
  rw [endLocate_of_some loc, enterPlay_from (m₀ := .locate ph) (by exact mode) (by simp)]
  rfl

theorem creepRun_short {ph : LocPhase} (mode : s.motion.mode = .locate ph) (short : reversalsAfter c (creepDir s c) < 4) :
    creepRun c s = { s with
      motion := { s.motion with
        mode := .locate .creep, pinchIn := false, brakesOn := false
        loc := some { c with reversals := reversalsAfter c (creepDir s c), creep := some (creepDir s c) } }
      capstan := { s.capstan with enable := true, command := s.capstan.vRef } } := by
  unfold creepRun
  dsimp only
  rw [if_neg (by omega), enterMode_from (m₀ := .locate ph) (by exact mode) (by simp) (by simp)]
  rfl

theorem creepRun_ends {ph : LocPhase} (mode : s.motion.mode = .locate ph) (last : reversalsAfter c (creepDir s c) = 4) :
    creepRun c s = { s with
      motion := { s.motion with
        mode := .stopped .full, pinchIn := false, brakesOn := false, idle := 0, loc := none
        result := some (locResult .inexact { c with reversals := 4 } s) }
      capstan := { s.capstan with enable := true, command := s.capstan.vRef }
      link := raised .locateDone s.link } := by
  unfold creepRun
  dsimp only
  rw [if_pos (by omega), enterStoppedFull_located (s := setLoc { c with reversals := 4 } s) mode rfl]
  rfl

theorem reversalsAfter_eq (c : LocCtx) (d : Dir) :
    reversalsAfter c d = if c.lastDir = none ∨ c.lastDir = some d then c.reversals else c.reversals + 1 := by
  unfold reversalsAfter
  cases c.lastDir <;> simp

/-! ## The return mark of a locate that plays on (R31, R95) -/

theorem reportToMotion_of_ended (loc : s.motion.loc = none) (r : Report) (keeps : ¬ r.change.Loses) : ∃ h, reportToMotion s r = { s with
    motion := { s.motion with held := h } } := by
  have same : reportToLocate r s = s := by rw [reportToLocate, loc]
  rw [reportToMotion, same]
  unfold reportToHeld
  split
  · split
    · split
      · exact ⟨_, rfl⟩
      · exact ⟨_, rfl⟩
    · exact ⟨_, rfl⟩
  · exact ⟨_, rfl⟩

theorem captureReturn_of_known {st : Standing} {sp : Option Nat} (captured : capture s = some (st, sp)) : captureReturn s =
    reportToPunch [{ mark := 0, change := if markAt s 0 = none then .current else .address }]
      (reportToMotion (setMark 0 (returnMark st sp s) s) { mark := 0, change := if markAt s 0 = none then .current else .address }) := by
  rw [captureReturn, captured]
  rfl

/-- The return mark touches no more of the transport than a LOCATE held to slot 0. -/
theorem captureReturn_motion (loc : s.motion.loc = none) : (captureReturn s).motion = { s.motion with
    held := (captureReturn s).motion.held } ∧ (captureReturn s).servo = s.servo ∧ (captureReturn s).capstan = s.capstan := by
  cases captured : capture s with
  | none =>
    have same : captureReturn s = s := by rw [captureReturn, captured]
    rw [same]
    exact ⟨rfl, rfl, rfl⟩
  | some p =>
    obtain ⟨st, sp⟩ := p
    obtain ⟨h, reported⟩ := reportToMotion_of_ended (s := setMark 0 (returnMark st sp s) s) (by exact loc)
      { mark := 0, change := if markAt s 0 = none then .current else .address } (by dsimp only; split <;> simp)
    rw [captureReturn_of_known captured, reported]
    simp only [reportToPunch_frame, setMark_frame, and_true]

theorem captureReturn_slot {st : Standing} {sp : Option Nat} (captured : capture s = some (st, sp)) :
    markAt (captureReturn s) 0 = some (returnMark st sp s) := by
  rw [captureReturn_of_known captured, markAt]
  simp [setMark]

end

/-! ## Phase tests that end the locate (R91, R96) -/

section
variable {c : LocCtx} {s : State}

/-- The card whose search has ended without an address. -/
abbrev exhausted (c : LocCtx) (s : State) : State := { s with
  motion := { s.motion with
    mode := .stopping .normal, pinchIn := false, brakesOn := false, still := 0, loc := none, result := some (locResult .noAddress c s) }
  capstan := { s.capstan with enable := true, command := s.capstan.vRef }
  link := raised .locateDone s.link }

theorem phaseTests_exhausted (loc : s.motion.loc = some c) (mode : s.motion.mode = .locate .search) (unknown : quality s = .unknown)
    (far : 300000 ≤ mag (s.tracker.counter - c.searchStart)) : phaseTests s = exhausted c s := by
  have test : phaseTests s = enterStopping .normal (endLocate .noAddress s) := by
    unfold phaseTests
    simp only [mode, loc]
    rw [searchPhase, if_neg (not_not_intro unknown), if_pos far]
  rw [test, endLocate_of_some loc, enterStopping_from (m₀ := .locate .search) .normal (by exact mode) (by simp)]
  rfl

theorem phaseTests_expired (loc : s.motion.loc = some c) (mode : s.motion.mode = .locate .hold) (near : distance s c ≤ c.approach)
    (limit : c.holdLimit ≠ 0) (expires : c.holdLimit ≤ c.holdTimer + 1) : phaseTests s = { s with
      motion := { s.motion with
        mode := .stopped .full, pinchIn := false, brakesOn := false, idle := 0, loc := none, result := some (locResult .holdExpired c s) }
      capstan := { s.capstan with enable := true, command := s.capstan.vRef }
      link := raised .locateDone s.link } := by
  have test : phaseTests s = enterStoppedFull (endLocate .holdExpired s) := by
    unfold phaseTests
    simp only [mode, loc]
    rw [holdPhase, if_neg (Int.not_lt.mpr near), if_pos ⟨limit, expires⟩]
  rw [test, enterStoppedFull_located mode loc]

end

/-- The row of an arrival that plays on. -/
theorem exec_arrival_play {c : LocCtx} {s : State} {ph : LocPhase} (running : s.inReset = false) (ended : RunEnded c s)
    (mode : s.motion.mode = .locate ph) (tape : s.scanner.optical = .opaqueTape) (a : 0 ≤ decelLimit s)
    (still : s.motion.still = 19) (speed : s.motion.vCmd = 0) (meas : mag s.servo.vMeas < 200)
    (within : mag (estimate s - c.targetTick) ≤ 100) (play : c.followOn = .play) : exec .arrivalTest s =
      .next (captureReturn (playedOn (if quality s = .locked then .arrived else .reckoned) c (arriving s))) := by
  have down : (captureReturn (playedOn (judgement (arriving s)).toEnd c (arriving s))).motion.liftersUp = false := by
    rw [(captureReturn_motion rfl).1]
  rw [exec_arrivalTest running ended tape a still speed meas, if_pos within,
    arrive_play (s := arriving s) mode ended.loc play, lowerLifters_of_down down, judgement_toEnd]
  rfl

/-- Settles O29: the phase test that ends a search or a hold, and the arrival test of a run that has ended. -/
theorem locatesEnd : Obligations.LocatesEnd := by
  refine fun c s running loc tape a => ⟨fun mode unknown far => ?_, fun phase still speed meas near => ?_,
    fun mode limit expires speed meas near => ?_⟩
  · have update := profileUpdate_of_ended (phaseTests_exhausted loc mode unknown far) rfl (by exact tape) (by rw [mode]; simp)
    obtain ⟨b, lowered⟩ := lowerLifters_moving (exhausted c s)
    rw [lowered] at update
    have record : locResult .noAddress c s =
        { targetTick := c.targetTick, mark := c.target.markNumber, result := .noAddress, error := none, reversals := c.reversals } := by
      rw [locResult, if_pos unknown]
    refine ⟨_, exec_updateRow running update (by simp [searchReached, mode, record]), ⟨rfl, rfl, fun b hb => ?_⟩, rfl, rfl, rfl,
      congrArg some record, rfl, rfl⟩
    cases b <;> simp at hb <;> rfl
  · have ended : RunEnded c s := ⟨loc, near, phase⟩
    have row := exec_arrivalTest running ended tape a still speed meas
    obtain ⟨ph, mode⟩ : ∃ ph, s.motion.mode = .locate ph := by
      rcases phase with ⟨mode, -⟩ | ⟨mode, -⟩ <;> exact ⟨_, mode⟩
    refine ⟨fun within stop => ?_, fun within play => ?_, fun within hold => ?_, fun beyond short => ?_, fun beyond last => ?_⟩
    · rw [row, if_pos within, arrive_stop (s := arriving s) mode loc stop, judgement_toEnd, lowerLifters_of_down rfl]
      rfl
    · obtain ⟨motion, servo, capstan⟩ := captureReturn_motion
        (s := playedOn (if quality s = .locked then .arrived else .reckoned) c (arriving s)) rfl
      refine ⟨_, exec_arrival_play running ended mode tape a still speed meas within play, ⟨by simp, by simp, fun b hb => ?_⟩, ?_, ?_, ?_, ?_,
        capstan, captureReturn_latches _ _ (raised_latched .locateDone (arriving s)), fun unknown => ?_, fun known => ?_⟩
      · cases b <;> simp at hb <;> simp [kept, servo]
      · rw [motion]
      · rw [motion]
      · rw [motion]
      · rw [motion]
        rfl
      · rw [captureReturn_unknown (by exact unknown)]
      · rw [captureReturn_slot (capture_known (by exact known))]
        rfl
    · rw [row, if_pos within, arrive_hold (s := arriving s) mode hold, judgement_eq, lowerLifters_of_down rfl]
      rfl
    · rw [row, if_neg (by omega), creepRun_short (s := arriving s) mode (by rw [reversalsAfter_eq]; exact short),
        lowerLifters_of_down rfl, reversalsAfter_eq]
      rfl
    · rw [row, if_neg (by omega), creepRun_ends (s := arriving s) mode (by rw [reversalsAfter_eq]; exact last),
        lowerLifters_of_down rfl]
      rfl
  · have update := profileUpdate_of_ended (phaseTests_expired loc mode near limit (by omega)) rfl (by exact tape) (by rw [mode]; simp)
    obtain ⟨b, lowered⟩ := lowerLifters_moving { s with
      motion := { s.motion with
        mode := .stopped .full, pinchIn := false, brakesOn := false, idle := 0, loc := none, result := some (locResult .holdExpired c s) }
      capstan := { s.capstan with enable := true, command := s.capstan.vRef }
      link := raised .locateDone s.link }
    rw [lowered] at update
    refine ⟨_, exec_updateRow running update (by simp [passes, mode]), ⟨rfl, rfl, fun b hb => ?_⟩, rfl, rfl, rfl, rfl, rfl, rfl⟩
    cases b <;> simp at hb <;> rfl

end Sys2Proof.Machine
end

section
/-!
SpeedCommand: the speed command that an update of a transport in motion forms, and the end of the tape (R58, R61, R75, R76).
-/

namespace Sys2Proof.Machine

open Sys2Proof.Safety

/-! ## The command outlasts the update (R58) -/

section
variable {s : State}

theorem endLocate_vCmd (r : LocEnd) (s : State) : (endLocate r s).motion.vCmd = s.motion.vCmd := by
  unfold endLocate
  split <;> rfl

theorem enterMode_vCmd (m : Mode) (s : State) : (enterMode m s).motion.vCmd = s.motion.vCmd := by
  rw [enterMode_motion]
  rfl

theorem arrive_vCmd (c : LocCtx) : (arrive c s).motion.vCmd = s.motion.vCmd := by
  unfold arrive
  split
  · exact (enterMode_vCmd _ _).trans (endLocate_vCmd _ _)
  · have free : (enterPlay (endLocate (judgement s).toEnd s)).motion.loc = none := by
      rw [enterPlay, State.onMotion_motion, enterMode_motion]
      unfold endLocate
      split
      · rfl
      next none => exact none
    rw [(captureReturn_motion free).1]
    exact (enterMode_vCmd _ _).trans (endLocate_vCmd _ _)
  · exact enterMode_vCmd _ _

theorem creepRun_vCmd (c : LocCtx) : (creepRun c s).motion.vCmd = s.motion.vCmd := by
  unfold creepRun
  dsimp only
  split
  · exact (enterMode_vCmd _ _).trans (endLocate_vCmd _ _)
  · exact enterMode_vCmd _ _

theorem settledUpdate_vCmd : (settledUpdate s).motion.vCmd = s.motion.vCmd := by
  unfold settledUpdate
  split
  · split
    · unfold arrivalTest
      dsimp only
      split
      · exact arrive_vCmd _
      · exact creepRun_vCmd _
    · rfl
  · rfl

theorem entryUpdate_vCmd : (entryUpdate s).motion.vCmd = s.motion.vCmd := by
  unfold entryUpdate
  split
  · split
    · exact enterMode_vCmd _ _
    · rfl
  · rfl

theorem stoppingUpdate_vCmd (k : StopKind) : (stoppingUpdate k s).motion.vCmd = s.motion.vCmd := by
  unfold stoppingUpdate
  split
  · split <;> exact enterMode_vCmd _ _
  · rfl

theorem modeTests_vCmd (moves : s.motion.mode.atRest = false) : (modeTests s).motion.vCmd = s.motion.vCmd := by
  unfold modeTests
  split
  case h_7 => exact entryUpdate_vCmd
  case h_8 => exact settledUpdate_vCmd
  case h_9 => exact settledUpdate_vCmd
  case h_10 => exact stoppingUpdate_vCmd _
  case h_13 => rfl
  all_goals
    rename_i m
    exact absurd moves (by rw [m]; decide)

/-- In a moving mode the command is the one formed once the phase has been judged. -/
theorem profileUpdate_vCmd (moves : s.motion.mode.atRest = false) : (profileUpdate s).motion.vCmd = nextSpeed (phaseTests s) := by
  have part : (speedPart s).motion.vCmd = nextSpeed (phaseTests s) := by rw [speedPart, tapeEnd_vCmd, formSpeed_vCmd]
  unfold profileUpdate
  dsimp only
  rw [lowerLifters_vCmd]
  split
  next same => rw [modeTests_vCmd (by rw [same]; exact moves), part]
  · exact part

/-! ## Signs -/

theorem signDir_forward {v : Int} : signDir v = some .forward ↔ 0 < v := by
  unfold signDir
  split_ifs <;> simp <;> omega

theorem signDir_reverse {v : Int} : signDir v = some .reverse ↔ v < 0 := by
  unfold signDir
  split_ifs <;> simp <;> omega

/-- A cap keeps the sign. -/
theorem capMag_sign {cap v : Int} (h : 0 ≤ cap) : (0 < capMag cap v → 0 < v) ∧ (capMag cap v < 0 → v < 0) := by
  unfold capMag clampInt
  omega

theorem signDir_capMag {cap v : Int} (h : 0 ≤ cap) {d : Dir} (sign : signDir (capMag cap v) = some d) : signDir v = some d := by
  cases d
  · exact signDir_forward.mpr ((capMag_sign h).1 (signDir_forward.mp sign))
  · exact signDir_reverse.mpr ((capMag_sign h).2 (signDir_reverse.mp sign))

theorem directionOf_of_sign {v : Int} {d : Dir} (sign : signDir v = some d) (w : Int) : directionOf v w = some d := by
  have moves : v ≠ 0 := by
    rintro rfl
    cases sign
  rw [directionOf, if_neg moves, sign]

theorem signDir_endZoneCap {v : Int} {d e : Dir} (sign : signDir (endZoneCap s e v) = some d) : signDir v = some d := by
  unfold endZoneCap at sign
  split at sign
  · exact signDir_capMag (by norm_num) sign
  · split at sign
    · exact signDir_capMag (isqrtInt_nonneg _) sign
    · exact sign

/-- In an end zone in the direction of the command, the command is at most 20,000 ticks/s (R76). -/
theorem applyCaps_zone {w v : Int} {d : Dir} (sign : signDir (applyCaps s w v) = some d) (zone : inEndZone s d = true) :
    mag (applyCaps s w v) ≤ 20000 := by
  unfold applyCaps at sign ⊢
  dsimp only at sign ⊢
  generalize capMag (((activeProfile s).windMax : Int) * 100) v = u at sign ⊢
  generalize (if s.motion.liftersUp = true then u else capMag Config.headContact u) = u at sign ⊢
  split at sign
  · cases sign
  next free =>
    rw [if_neg free]
    cases direction : directionOf u w with
    | none =>
      rw [direction] at sign
      rw [directionOf_of_sign sign w] at direction
      cases direction
    | some e =>
      rw [direction] at sign
      have same : some e = some d := direction.symm.trans (directionOf_of_sign (signDir_endZoneCap sign) w)
      cases same
      dsimp only
      rw [endZoneCap, if_pos zone]
      exact capMag_le (by norm_num)

theorem nextSpeed_zone {d : Dir} (sign : signDir (nextSpeed s) = some d) (zone : inEndZone s d = true) : mag (nextSpeed s) ≤ 20000 := by
  unfold nextSpeed at sign ⊢
  split at sign
  · cases sign
  next moves =>
    rw [if_neg moves]
    exact applyCaps_zone sign zone

/-! ## The end of the tape (R61) -/

/-- The transport once its speed has been formed, outside a locate. -/
abbrev sped (s : State) : State := s.onMotion fun x => { x with vCmd := nextSpeed s }

/-- In travel, on a clear sensor, with no other side noted, the motion ends. -/
theorem tapeEnd_ends {m : Mode} {d : Dir} (mode : s.motion.mode = m) (runs : m.runsTape = true) (outside : m ≠ .play .run)
    (loc : s.motion.loc = none) (clear : s.scanner.optical = .clear) (travels : travel s = some d)
    (leader : s.motion.leader = none ∨ s.motion.leader = some d) : tapeEnd s = { s with
      motion := { ({ s.motion with leader := some d } : Motion).entering (.stopping .normal) with still := 0 }
      servo := s.servo.entering m (.stopping .normal)
      capstan := s.capstan.driven (.stopping .normal)
      link := raised .tapeEnd s.link } := by
  unfold tapeEnd
  rw [clear, travels]
  dsimp only
  rw [if_pos ⟨by rw [mode]; exact runs, leader⟩, endLocate_of_none (by exact loc), enterStopping_from (m₀ := m) .normal (by exact mode) outside]
  rfl

end

/-- The card when the tape has ended in direction `d` (R61). -/
abbrev endedTape (d : Dir) (b : Bool) (s : State) : State := { s with
  motion := { ({ s.motion with vCmd := nextSpeed s, liftersUp := b, leader := some d } : Motion).entering (.stopping .normal) with still := 0 }
  servo := s.servo.entering s.motion.mode (.stopping .normal)
  capstan := s.capstan.driven (.stopping .normal)
  link := raised .tapeEnd s.link }

/-- Settles O23: the cap of the end zone on the command that the update formed, and the motion ended on a clear sensor. -/
theorem tapeEnds : Obligations.TapeEnds := by
  intro d s running mode
  have phases : phaseTests s = s := by
    unfold phaseTests
    rcases mode with m | m <;> rw [m]
  have moves : s.motion.mode.atRest = false := by rcases mode with m | m <;> rw [m] <;> rfl
  have free : isLocate s.motion.mode = false := by rcases mode with m | m <;> rw [m] <;> rfl
  refine ⟨_, exec_profileUpdate running, ?_, fun loc clear travels leader => ?_⟩
  · rw [profileUpdate_vCmd moves, phases]
    exact nextSpeed_zone
  · have lowered : ∃ b, formSpeed s = { s with motion := { s.motion with vCmd := nextSpeed s, liftersUp := b } } := by
      refine ⟨(formSpeed s).motion.liftersUp, ?_⟩
      rw [formSpeed_of_unlocated free, lowerLifters_eq]
      rfl
    obtain ⟨b, formed⟩ := lowered
    have part : speedPart s = endedTape d b s := by
      rw [speedPart, phases, formed]
      exact tapeEnd_ends rfl (by rcases mode with m | m <;> rw [m] <;> rfl) (by rcases mode with m | m <;> simp [m]) loc clear travels leader
    have update : profileUpdate s = endedTape d b s := by
      unfold profileUpdate
      dsimp only
      rw [part, if_neg (by rcases mode with m | m <;> simp [m, Motion.entering]), lowerLifters_of_row (by simp [Motion.entering, Mode.liftersRow])]
    rw [update]
    refine ⟨⟨rfl, rfl, fun b hb => ?_⟩, rfl, rfl, rfl, rfl, rfl, rfl⟩
    rcases mode with m | m <;> cases b <;> simp at hb <;> simp [kept, m, Servo.entering, Mode.forcedZero]

end Sys2Proof.Machine
end

section
/-!
MovingSpeeds: the speed command of every moving mode in the terms of section 3.8, and the phases of a locate that an update
keeps or changes (R57 to R59, R75, R76, R89 to R97).
-/

namespace Sys2Proof.Machine

open Sys2Proof.Safety

/-! ## The caps as one choice (R58, R75, R76) -/

/-- The greatest magnitude that wind maximum and head contact allow. -/
abbrev topSpeed (s : State) : Int :=
  let wind : Int := (activeProfile s).windMax * 100
  if s.motion.liftersUp = true then wind else min wind 40000

/-- An end zone lies in the direction of the speed `v`, or of the wanted speed `w` where `v` is 0. -/
abbrev ZoneAhead (s : State) (w v : Int) : Prop :=
  ((0 < v ∨ (v = 0 ∧ 0 < w)) ∧ inEndZone s .forward = true) ∨ ((v < 0 ∨ (v = 0 ∧ w < 0)) ∧ inEndZone s .reverse = true)

/-- The command of a mode that no approach cap touches. -/
abbrev cappedSpeed (s : State) (top w r : Int) : Int :=
  let v := capMag top r
  if ZoneAhead s w v then capMag 20000 v else v

/-- The command of a mode under the approach cap of the end zone. -/
abbrev windCapped (s : State) (top w r : Int) : Int :=
  let v := capMag top r
  if ZoneAhead s w v then capMag 20000 v
  else if quality s = .unknown then v
  else capMag (isqrtInt (400000000 + 2 * decelLimit s *
    (if 0 < v then (((activeProfile s).nominal : Int) - 500) * 100 - estimate s else estimate s - 50000))) v

section
variable {s : State} {w r : Int}

theorem capMag_capMag {a b v : Int} (ha : 0 ≤ a) (hb : 0 ≤ b) : capMag b (capMag a v) = capMag (min a b) v := by
  unfold capMag clampInt
  omega

theorem capMag_topSpeed : (if s.motion.liftersUp then capMag (((activeProfile s).windMax : Int) * 100) r
    else capMag Config.headContact (capMag (((activeProfile s).windMax : Int) * 100) r)) = capMag (topSpeed s) r := by
  rw [capMag_capMag (by omega) (by decide)]
  unfold topSpeed
  split <;> rfl

theorem directionOf_forward {v : Int} : directionOf v w = some .forward ↔ 0 < v ∨ (v = 0 ∧ 0 < w) := by
  unfold directionOf
  split_ifs with zero
  · rw [signDir_forward]
    omega
  · rw [signDir_forward]
    omega

theorem directionOf_reverse {v : Int} : directionOf v w = some .reverse ↔ v < 0 ∨ (v = 0 ∧ w < 0) := by
  unfold directionOf
  split_ifs with zero
  · rw [signDir_reverse]
    omega
  · rw [signDir_reverse]
    omega

theorem zoneAhead_iff {v : Int} : ZoneAhead s w v ↔ ∃ d, directionOf v w = some d ∧ inEndZone s d = true := by
  unfold ZoneAhead
  rw [← directionOf_forward, ← directionOf_reverse]
  constructor
  · rintro (⟨d, zone⟩ | ⟨d, zone⟩)
    · exact ⟨_, d, zone⟩
    · exact ⟨_, d, zone⟩
  · rintro ⟨d | d, e, zone⟩
    · exact .inl ⟨e, zone⟩
    · exact .inr ⟨e, zone⟩

theorem endZone_plain (wind : s.motion.mode ≠ .wind) (run : s.motion.mode ≠ .locate .run) (v : Int) :
    (match directionOf v w with
      | some d => endZoneCap s d v
      | none => v) = if ZoneAhead s w v then capMag 20000 v else v := by
  have free : ¬ ((s.motion.mode = .wind ∨ s.motion.mode = .locate .run) ∧ quality s ≠ .unknown) := by tauto
  cases direction : directionOf v w with
  | none => rw [if_neg (by rw [zoneAhead_iff]; rintro ⟨d, e, -⟩; rw [direction] at e; cases e)]
  | some d =>
    dsimp only
    rw [endZoneCap, if_neg free]
    have same : ZoneAhead s w v ↔ inEndZone s d = true := by
      rw [zoneAhead_iff]
      exact ⟨fun ⟨e, h, zone⟩ => by rw [direction] at h; cases h; exact zone, fun zone => ⟨d, direction, zone⟩⟩
    simp only [same]

theorem endZone_wind (mode : s.motion.mode = .wind ∨ s.motion.mode = .locate .run) (v : Int) :
    (match directionOf v w with
      | some d => endZoneCap s d v
      | none => v) = if ZoneAhead s w v then capMag 20000 v
        else if quality s = .unknown then v
        else capMag (isqrtInt (400000000 + 2 * decelLimit s *
          (if 0 < v then (((activeProfile s).nominal : Int) - 500) * 100 - estimate s else estimate s - 50000))) v := by
  cases direction : directionOf v w with
  | none =>
    have zero : v = 0 := by
      by_contra moves
      rcases Int.lt_or_gt_of_ne moves with low | high
      · rw [directionOf_reverse.mpr (.inl low)] at direction
        cases direction
      · rw [directionOf_forward.mpr (.inl high)] at direction
        cases direction
    rw [if_neg (by rw [zoneAhead_iff]; rintro ⟨d, e, -⟩; rw [direction] at e; cases e), zero, capMag_zero (isqrtInt_nonneg _), ite_self]
  | some d =>
    have same : ZoneAhead s w v ↔ inEndZone s d = true := by
      rw [zoneAhead_iff]
      exact ⟨fun ⟨e, h, zone⟩ => by rw [direction] at h; cases h; exact zone, fun zone => ⟨d, direction, zone⟩⟩
    dsimp only
    rw [endZoneCap]
    simp only [same, mode, true_and]
    split
    · rfl
    · by_cases unknown : quality s = .unknown
      · rw [if_neg (not_not_intro unknown), if_pos unknown]
      · rw [if_pos unknown, if_neg unknown]
        cases d with
        | forward =>
          rcases directionOf_forward.mp direction with high | ⟨rfl, -⟩
          · rw [if_pos high]
            rfl
          · rw [capMag_zero (isqrtInt_nonneg _), capMag_zero (isqrtInt_nonneg _)]
        | reverse =>
          have low : ¬ 0 < v := by
            have := directionOf_reverse.mp direction
            omega
          rw [if_neg low]
          rfl

theorem applyCaps_plain (wind : s.motion.mode ≠ .wind) (run : s.motion.mode ≠ .locate .run) (free : zeroCap s = false) :
    applyCaps s w r = cappedSpeed s (topSpeed s) w r := by
  unfold applyCaps
  dsimp only
  rw [free, capMag_topSpeed]
  exact endZone_plain wind run _

theorem applyCaps_wind (mode : s.motion.mode = .wind ∨ s.motion.mode = .locate .run) :
    applyCaps s w r = windCapped s (topSpeed s) w r := by
  have free : zeroCap s = false := by
    unfold zeroCap
    rcases mode with m | m <;> rw [m]
  unfold applyCaps
  dsimp only
  rw [free, capMag_topSpeed]
  exact endZone_wind mode _

end

/-! ## The command of each mode -/

section
variable {s : State}

/-- The ramped command toward `w`. -/
abbrev rampTo (s : State) (w : Int) : Int := moveToward s.motion.vCmd w (decelLimit s / 1000)

theorem nextSpeed_plain {w : Int} (moves : s.motion.mode.atRest = false) (outside : ¬ InRun s) (wind : s.motion.mode ≠ .wind)
    (run : s.motion.mode ≠ .locate .run) (free : zeroCap s = false) (wanted : wantedSpeed s = w) :
    nextSpeed s = cappedSpeed s (topSpeed s) w (rampTo s w) := by
  rw [nextSpeed, if_neg (by simp [moves]), wanted, ramped, if_neg outside, applyCaps_plain wind run free]

theorem nextSpeed_wind {w : Int} (mode : s.motion.mode = .wind ∨ s.motion.mode = .locate .run) (wanted : wantedSpeed s = w) :
    nextSpeed s = windCapped s (topSpeed s) w (rampTo s w) := by
  have moves : s.motion.mode.atRest = false := by rcases mode with m | m <;> rw [m] <;> rfl
  have outside : ¬ InRun s := by rcases mode with m | m <;> simp [m]
  rw [nextSpeed, if_neg (by simp [moves]), wanted, ramped, if_neg outside, applyCaps_wind mode]

theorem zeroCap_of_unlocated (free : isLocate s.motion.mode = false) : zeroCap s = false := by
  unfold zeroCap
  split
  next m _ => simp [m, isLocate] at free
  next m _ => simp [m, isLocate] at free
  · rfl

theorem nextSpeed_entry (mode : s.motion.mode = .play .entry) :
    nextSpeed s = cappedSpeed s (topSpeed s) s.capstan.vRef (rampTo s s.capstan.vRef) :=
  nextSpeed_plain (by rw [mode]; rfl) (by simp [mode]) (by simp [mode]) (by simp [mode]) (zeroCap_of_unlocated (by rw [mode]; rfl))
    (by rw [wantedSpeed, mode])

theorem nextSpeed_run (mode : s.motion.mode = .play .run) :
    nextSpeed s = cappedSpeed s (topSpeed s) s.capstan.vRef s.capstan.vRef := by
  have wanted : wantedSpeed s = s.capstan.vRef := by rw [wantedSpeed, mode]
  rw [nextSpeed, if_neg (by simp [mode, Mode.atRest]), wanted, ramped, if_pos mode,
    applyCaps_plain (by simp [mode]) (by simp [mode]) (zeroCap_of_unlocated (by rw [mode]; rfl))]

theorem nextSpeed_cue (mode : s.motion.mode = .cue) :
    nextSpeed s = cappedSpeed s (topSpeed s) s.motion.want (rampTo s s.motion.want) :=
  nextSpeed_plain (by rw [mode]; rfl) (by simp [mode]) (by simp [mode]) (by simp [mode]) (zeroCap_of_unlocated (by rw [mode]; rfl))
    (by rw [wantedSpeed, mode])

theorem nextSpeed_stopping {k : StopKind} (mode : s.motion.mode = .stopping k) :
    nextSpeed s = cappedSpeed s (topSpeed s) 0 (rampTo s 0) :=
  nextSpeed_plain (by rw [mode]; rfl) (by simp [mode]) (by simp [mode]) (by simp [mode]) (zeroCap_of_unlocated (by rw [mode]; rfl))
    (by rw [wantedSpeed, mode])

/-- In a phase of a locate that is neither RUN nor under a zero cap. -/
theorem nextSpeed_locate {ph : LocPhase} {c : LocCtx} {w : Int} (mode : s.motion.mode = .locate ph) (loc : s.motion.loc = some c)
    (run : ph ≠ .run) (free : zeroCap s = false) (wanted : locateWant ph s c = w) :
    nextSpeed s = cappedSpeed s (topSpeed s) w (rampTo s w) :=
  nextSpeed_plain (by rw [mode]; rfl) (by simp [mode]) (by simp [mode]) (by simpa [mode] using run) free
    (by rw [wantedSpeed, mode, loc]; exact wanted)

theorem nextSpeed_zeroCap (zero : zeroCap s = true) : nextSpeed s = 0 := by
  unfold nextSpeed applyCaps
  dsimp only
  rw [zero]
  exact ite_self _

/-! ## Phases kept and changed (R90 to R97) -/

/-- The context at the beginning of a phase of travel. -/
abbrev LocCtx.begun (c : LocCtx) : LocCtx := { c with latch := false, creep := none, judgement := none, holdTimer := 0 }

/-- The card in LOCATE RUN again. -/
abbrev inLocateRun (c : LocCtx) (s : State) : State := { s with
  motion := { s.motion with
    mode := .locate .run, liftersUp := true, pinchIn := false, brakesOn := false, loc := some c.begun }
  capstan := { s.capstan with enable := true, command := s.capstan.vRef } }

theorem toLocateRun_from {ph : LocPhase} (c : LocCtx) (mode : s.motion.mode = .locate ph) : toLocateRun c s = inLocateRun c s := by
  rw [toLocateRun, enterMode_from (m₀ := .locate ph) (by exact mode) (by simp) (by simp)]
  rfl

/-- The card in APPROACH, the settle test made. -/
abbrev inApproach (c : LocCtx) (s : State) : State := { s with
  motion := { s.motion with
    mode := .locate .approach, pinchIn := false, brakesOn := false, still := 0
    loc := some { c.begun with latch := decide (distance s c ≤ 100) } }
  capstan := { s.capstan with enable := true, command := s.capstan.vRef } }

theorem closeIn_from {ph : LocPhase} (c : LocCtx) (mode : s.motion.mode = .locate ph) : closeIn c s = inApproach c s := by
  have entered : toApproach c s = { s with
      motion := { s.motion with
        mode := .locate .approach, pinchIn := false, brakesOn := false, still := 0, loc := some c.begun }
      capstan := { s.capstan with enable := true, command := s.capstan.vRef } } := by
    rw [toApproach, enterMode_from (m₀ := .locate ph) (by exact mode) (by simp) (by simp)]
    rfl
  rw [closeIn, entered]
  dsimp only
  unfold settle
  split
  next near =>
    have near : distance s c ≤ 100 := near
    simp only [inApproach, near, decide_true]
    rfl
  next far =>
    have far : ¬ distance s c ≤ 100 := far
    simp only [inApproach, far, decide_false]

/-- Near enough, and slow enough, for APPROACH. -/
abbrev Closing (c : LocCtx) (s : State) : Prop := distance s c ≤ c.approach ∧ mag s.servo.vMeas ≤ Config.headContact

variable {c : LocCtx} (loc : s.motion.loc = some c)
include loc

theorem phaseTests_search (mode : s.motion.mode = .locate .search) : phaseTests s = searchPhase c s := by
  unfold phaseTests
  simp only [mode, loc]

theorem phaseTests_run (mode : s.motion.mode = .locate .run) : phaseTests s = runPhase c s := by
  unfold phaseTests
  simp only [mode, loc]

theorem phaseTests_approach (mode : s.motion.mode = .locate .approach) : phaseTests s = approachPhase c s := by
  unfold phaseTests
  simp only [mode, loc]

theorem phaseTests_creep (mode : s.motion.mode = .locate .creep) : phaseTests s = creepPhase c s := by
  unfold phaseTests
  simp only [mode, loc]

theorem phaseTests_hold (mode : s.motion.mode = .locate .hold) : phaseTests s = holdPhase c s := by
  unfold phaseTests
  simp only [mode, loc]

/-- Travel toward the target in APPROACH begins. -/
theorem phaseTests_closes (mode : s.motion.mode = .locate .run ∨ (s.motion.mode = .locate .search ∧ quality s ≠ .unknown))
    (closing : Closing c s) : phaseTests s = inApproach c s := by
  rcases mode with run | ⟨search, known⟩
  · rw [phaseTests_run loc run, runPhase, if_pos closing, closeIn_from c run]
  · have first : firstPhase c s = .approach := by rw [firstPhase, if_neg known, if_pos closing]
    rw [phaseTests_search loc search, searchPhase, if_pos known, first]
    exact closeIn_from c search

/-- Travel toward the target in RUN begins. -/
theorem phaseTests_recedes (away : (s.motion.mode = .locate .approach ∨ s.motion.mode = .locate .creep ∨ s.motion.mode = .locate .hold) ∧
      c.approach < distance s c ∨ s.motion.mode = .locate .search ∧ quality s ≠ .unknown ∧ ¬ Closing c s) :
    phaseTests s = inLocateRun c s := by
  rcases away with ⟨approach | creep | hold, far⟩ | ⟨search, known, far⟩
  · rw [phaseTests_approach loc approach, approachPhase, if_pos far, toLocateRun_from c approach]
  · rw [phaseTests_creep loc creep, creepPhase, if_pos far, toLocateRun_from c creep]
  · rw [phaseTests_hold loc hold, holdPhase, if_pos far, toLocateRun_from c hold]
  · have first : firstPhase c s = .run := by rw [firstPhase, if_neg known, if_neg far]
    rw [phaseTests_search loc search, searchPhase, if_pos known, first]
    exact toLocateRun_from c search

theorem setLoc_same : setLoc c s = s := by rw [setLoc, State.onMotion, ← loc]

/-- A phase that goes on changes its own context at most. -/
theorem phaseTests_kept_phase {ph : LocPhase} (mode : s.motion.mode = .locate ph) (same : (phaseTests s).motion.mode = s.motion.mode) :
    ∃ l, phaseTests s = { s with motion := { s.motion with loc := l } } := by
  have receding (away : phaseTests s = inLocateRun c s) (ne : ph ≠ .run) : False := by
    rw [away, mode] at same
    exact ne (by injection same with h; exact h.symm)
  have closing (near : phaseTests s = inApproach c s) (ne : ph ≠ .approach) : False := by
    rw [near, mode] at same
    exact ne (by injection same with h; exact h.symm)
  cases ph with
  | search =>
    by_cases unknown : quality s = .unknown
    · rw [phaseTests_search loc mode, searchPhase, if_neg (not_not_intro unknown)] at same ⊢
      split at same
      · rw [enterStopping, State.onMotion_motion, enterMode_motion, mode] at same
        cases same
      next short =>
        rw [if_neg short]
        exact ⟨_, rfl⟩
    · by_cases near : Closing c s
      · exact (closing (phaseTests_closes loc (.inr ⟨mode, unknown⟩) near) (by simp)).elim
      · exact (receding (phaseTests_recedes loc (.inr ⟨mode, unknown, near⟩)) (by simp)).elim
  | run =>
    by_cases near : Closing c s
    · exact (closing (phaseTests_closes loc (.inl mode) near) (by simp)).elim
    · rw [phaseTests_run loc mode, runPhase, if_neg near]
      exact ⟨_, rfl⟩
  | approach =>
    by_cases far : c.approach < distance s c
    · exact (receding (phaseTests_recedes loc (.inl ⟨.inl mode, far⟩)) (by simp)).elim
    · rw [phaseTests_approach loc mode, approachPhase, if_neg far, settle]
      split <;> exact ⟨_, rfl⟩
  | creep =>
    by_cases far : c.approach < distance s c
    · exact (receding (phaseTests_recedes loc (.inl ⟨.inr (.inl mode), far⟩)) (by simp)).elim
    · rw [phaseTests_creep loc mode, creepPhase, if_neg far]
      split
      · split <;> exact ⟨_, rfl⟩
      · exact ⟨_, rfl⟩
  | hold =>
    by_cases far : c.approach < distance s c
    · exact (receding (phaseTests_recedes loc (.inl ⟨.inr (.inr mode), far⟩)) (by simp)).elim
    · rw [phaseTests_hold loc mode, holdPhase, if_neg far] at same ⊢
      split at same
      · rw [enterStoppedFull, State.onMotion_motion, enterMode_motion, mode] at same
        cases same
      next short =>
        rw [if_neg short]
        exact ⟨_, rfl⟩

end

end Sys2Proof.Machine
end

section
/-!
SpeedsFormed: what a profile update of a transport in motion leaves as it was, and its speed command in every moving mode
(R57 to R59, R68 to R72, R75, R76, R89 to R97).
-/

namespace Sys2Proof.Machine

open Sys2Proof.Safety

/-! ## The frame of an update in motion -/

section
variable {s : State}

/-- Noting the direction leaves the context but for its last direction. -/
theorem noteDirection_loc (x : Option Dir) : (noteDirection s).motion.loc.map (fun c => { c with lastDir := x }) =
    s.motion.loc.map fun c => { c with lastDir := x } := by
  unfold noteDirection
  split
  next loc =>
    split
    · rw [loc]
      rfl
    · rfl
  · rfl

/-- The parts of an update that form the speed, on opaque tape, and what they leave of the context. -/
theorem formedSpeed_frame (tape : s.scanner.optical = .opaqueTape) : ∃ v b l, tapeEnd (formSpeed s) = { s with
      motion := { s.motion with vCmd := v, liftersUp := b, leader := none, loc := l } } ∧
    (∀ x, l.map (fun c => { c with lastDir := x }) = s.motion.loc.map fun c => { c with lastDir := x }) ∧
    (s.motion.mode.liftersRow ≠ some false → b = s.motion.liftersUp) := by
  obtain ⟨l₁, first⟩ := noteDirection_eq s
  obtain ⟨l₂, second⟩ := noteDirection_eq ((noteDirection s).onMotion fun x => { x with vCmd := nextSpeed s })
  have kept (x : Option Dir) := (noteDirection_loc (s := (noteDirection s).onMotion fun x => { x with vCmd := nextSpeed s }) x).trans
    (noteDirection_loc x)
  rw [second] at kept
  have formed : formSpeed s = { s with
      motion := { s.motion with vCmd := nextSpeed s, liftersUp := (formSpeed s).motion.liftersUp, loc := l₂ } } := by
    conv_lhs => rw [formSpeed, second, first, lowerLifters_eq]
    rw [formSpeed, second, first, lowerLifters_eq]
    rfl
  refine ⟨nextSpeed s, (formSpeed s).motion.liftersUp, l₂, ?_, kept, fun row => ?_⟩
  · rw [tapeEnd_of_opaque (by rw [formed]; exact tape)]
    conv_lhs => rw [formed]
    rfl
  · rw [formSpeed, second, first, lowerLifters_of_row (by exact row)]
    rfl

/-- The row of the lifters, however they stand. -/
theorem lowerLifters_only (s : State) : ∃ b, lowerLifters s = { s with motion := { s.motion with liftersUp := b } } :=
  ⟨_, lowerLifters_eq s⟩

/-- Short of the counts that end a mode, the mode's own part of an update in motion counts and no more. -/
theorem modeTests_counts (moves : s.motion.mode.atRest = false) (entry : s.motion.entryCount < 19) (still : s.motion.still < 19) :
    ∃ a b, modeTests s = { s with motion := { s.motion with still := a, entryCount := b } } := by
  have short : ¬ 20 ≤ stillCount s := by
    unfold stillCount
    split <;> omega
  have settled : ∃ a b, settledUpdate s = { s with motion := { s.motion with still := a, entryCount := b } } := by
    unfold settledUpdate
    split
    · rw [if_neg short]
      exact ⟨_, _, rfl⟩
    · exact ⟨_, _, rfl⟩
  unfold modeTests
  split
  case h_7 =>
    unfold entryUpdate
    rw [if_neg (show ¬ 20 ≤ s.motion.entryCount + 1 by omega)]
    split <;> exact ⟨_, _, rfl⟩
  case h_8 => exact settled
  case h_9 => exact settled
  case h_10 =>
    unfold stoppingUpdate
    rw [if_neg short]
    exact ⟨_, _, rfl⟩
  case h_13 => exact ⟨_, _, rfl⟩
  all_goals
    rename_i m
    exact absurd moves (by rw [m]; decide)

/-- An update that ends its phase by a change of mode. -/
theorem profileUpdate_of_turned {u : State} (phases : phaseTests s = u) (tape : u.scanner.optical = .opaqueTape)
    (turned : u.motion.mode ≠ s.motion.mode) : ∃ v b l, profileUpdate s = lowerLifters { u with
        motion := { u.motion with vCmd := v, liftersUp := b, leader := none, loc := l } } ∧
      (∀ x, l.map (fun c => { c with lastDir := x }) = u.motion.loc.map fun c => { c with lastDir := x }) ∧
      (u.motion.mode.liftersRow ≠ some false → b = u.motion.liftersUp) := by
  obtain ⟨v, b, l, part, kept⟩ := formedSpeed_frame tape
  refine ⟨v, b, l, ?_, kept⟩
  have speed : speedPart s = tapeEnd (formSpeed u) := by rw [speedPart, phases]
  unfold profileUpdate
  dsimp only
  rw [speed, part, if_neg (by exact turned)]

theorem phaseTests_of_none (loc : s.motion.loc = none) : phaseTests s = s := by
  unfold phaseTests
  rw [loc]
  split
  case h_6 => rfl
  all_goals rename_i absurd'; cases absurd'

/-- An update that keeps a moving mode, short of the counts that end it, moves the transport on and counts. -/
theorem profileUpdate_counts (tape : s.scanner.optical = .opaqueTape) (moves : s.motion.mode.atRest = false)
    (same : (profileUpdate s).motion.mode = s.motion.mode) (entry : s.motion.entryCount < 19) (still : s.motion.still < 19) :
    ∃ v b l x y, profileUpdate s = { s with
      motion := { s.motion with vCmd := v, liftersUp := b, leader := none, loc := l, still := x, entryCount := y } } := by
  have kept : (phaseTests s).motion.mode = s.motion.mode := by
    by_contra turned
    obtain ⟨v, b, l, update, -⟩ := profileUpdate_of_turned rfl (by simpa using tape) turned
    obtain ⟨b', lowered⟩ := lowerLifters_only { phaseTests s with
      motion := { (phaseTests s).motion with vCmd := v, liftersUp := b, leader := none, loc := l } }
    rw [update, lowered] at same
    exact turned same
  have phases : ∃ l, phaseTests s = { s with motion := { s.motion with loc := l } } := by
    cases located : isLocate s.motion.mode with
    | false =>
      exact ⟨s.motion.loc, phaseTests_of_unlocated located⟩
    | true =>
      cases loc : s.motion.loc with
      | none =>
        exact ⟨s.motion.loc, phaseTests_of_none loc⟩
      | some c =>
        obtain ⟨ph, mode⟩ : ∃ ph, s.motion.mode = .locate ph := by
          cases m : s.motion.mode <;> simp [m, isLocate] at located ⊢
        exact phaseTests_kept_phase loc mode kept
  obtain ⟨l₀, phases⟩ := phases
  obtain ⟨v, b, l, part, -⟩ := formedSpeed_frame (s := phaseTests s) (by simpa using tape)
  rw [phases] at part
  obtain ⟨x, y, tests⟩ := modeTests_counts (s := { s with motion := { s.motion with vCmd := v, liftersUp := b, leader := none, loc := l } })
    moves entry still
  obtain ⟨b', lowered⟩ := lowerLifters_only { s with
    motion := { s.motion with vCmd := v, liftersUp := b, leader := none, loc := l, still := x, entryCount := y } }
  have speed : speedPart s = { s with motion := { s.motion with vCmd := v, liftersUp := b, leader := none, loc := l } } := by
    rw [speedPart, phases]
    exact part
  refine ⟨v, b', l, x, y, ?_⟩
  unfold profileUpdate
  dsimp only
  rw [speed, if_pos rfl, tests]
  exact lowered

end

/-! ## CUE whole -/

section
variable {s : State}

theorem capMag_of_le {cap v : Int} (h : mag v ≤ cap) : capMag cap v = v := by
  rw [mag_le_iff] at h
  exact clampInt_inside h.1 h.2

theorem mag_moveToward {v w step c : Int} (h : 0 ≤ step) (start : mag v ≤ c) (goal : mag w ≤ c) : mag (moveToward v w step) ≤ c := by
  rw [mag_le_iff] at *
  unfold moveToward clampInt
  omega

theorem decelStep_nonneg (a : 0 ≤ decelLimit s) : 0 ≤ decelLimit s / 1000 := by omega

/-- With every speed within its limits no cap bites. -/
theorem nextSpeed_cue_free (cue : s.motion.mode = .cue) (forward : inEndZone s .forward = false) (reverse : inEndZone s .reverse = false)
    (a : 0 ≤ decelLimit s) (speed : mag s.motion.vCmd ≤ ((activeProfile s).windMax : Int) * 100)
    (want : mag s.motion.want ≤ ((activeProfile s).windMax : Int) * 100)
    (down : s.motion.liftersUp = false → mag s.motion.vCmd ≤ 40000 ∧ mag s.motion.want ≤ 40000) :
    nextSpeed s = rampTo s s.motion.want := by
  have within : mag (rampTo s s.motion.want) ≤ topSpeed s := by
    unfold topSpeed
    split
    · exact mag_moveToward (decelStep_nonneg a) speed want
    next up =>
      obtain ⟨speed', want'⟩ := down (by simpa using up)
      exact le_min (mag_moveToward (decelStep_nonneg a) speed want) (mag_moveToward (decelStep_nonneg a) speed' want')
  have free : ¬ ZoneAhead s s.motion.want (rampTo s s.motion.want) := by simp [ZoneAhead, forward, reverse]
  rw [nextSpeed_cue cue, cappedSpeed, capMag_of_le within]
  exact if_neg free

theorem profileUpdate_cue (cue : s.motion.mode = .cue) (tape : s.scanner.optical = .opaqueTape) : profileUpdate s = { s with
    motion := { s.motion with
      vCmd := nextSpeed s, leader := none
      liftersUp := if mag s.servo.vMeas ≤ 40000 ∧ mag (nextSpeed s) ≤ 40000 then false else s.motion.liftersUp } } := by
  have row : s.motion.mode.liftersRow = some false := by rw [cue]; rfl
  have moved : moving s = { s with
      motion := { s.motion with
        vCmd := nextSpeed s, leader := none
        liftersUp := if mag s.servo.vMeas ≤ 40000 ∧ mag (nextSpeed s) ≤ 40000 then false else s.motion.liftersUp } } := by
    rw [moving, lowerLifters_eq]
    simp only [State.onMotion, row, true_and]
  rw [profileUpdate_of_unlocated (by rw [cue]; rfl) tape, moved, lowerLifters_eq, modeTests]
  simp only [State.onMotion, cue, Mode.liftersRow, true_and]
  split <;> rfl

end

/-! ## The command in the phases of a locate -/

section
variable {s : State} {c : LocCtx} (loc : s.motion.loc = some c)
include loc

omit loc in
theorem runWant_eq : toward s c (runCurve s c) = if c.approach < distance s c
    then toward s c (min (((activeProfile s).windMax : Int) * 100)
      (isqrtInt (1600000000 + 2 * decelLimit s * (distance s c - c.approach))))
    else toward s c (approachCurve (distance s c)) := by
  unfold runCurve
  split <;> rfl

theorem phaseTests_settles (mode : s.motion.mode = .locate .approach) (near : distance s c ≤ c.approach) : phaseTests s = { s with
    motion := { s.motion with loc := some { c with latch := c.latch || decide (distance s c ≤ 100) } } } := by
  rw [phaseTests_approach loc mode, approachPhase, if_neg (Int.not_lt.mpr near), settle]
  split
  next settled => simp [setLoc, State.onMotion, settled]
  next unsettled => simp [unsettled, ← loc]

theorem phaseTests_creeps (mode : s.motion.mode = .locate .creep) (near : distance s c ≤ c.approach) : phaseTests s = { s with
    motion := { s.motion with
      loc := some { c with creep := c.creep.bind fun d => if creepReached s c d = true then none else some d } } } := by
  rw [phaseTests_creep loc mode, creepPhase, if_neg (Int.not_lt.mpr near)]
  split
  next d run =>
    split
    next reached => simp [setLoc, State.onMotion, run, reached]
    next short =>
      have same : (c.creep.bind fun d => if creepReached s c d = true then none else some d) = c.creep := by
        rw [run, Option.bind_some, if_neg short]
      rw [same]
      exact (setLoc_same loc).symm
  next ended =>
    have same : (c.creep.bind fun d => if creepReached s c d = true then none else some d) = c.creep := by rw [ended, Option.bind_none]
    rw [same]
    exact (setLoc_same loc).symm

/-- The wanted speed of APPROACH. -/
abbrev closeWant (c : LocCtx) (s : State) : Int := toward s c (approachCurve (distance s c))

theorem nextSpeed_search (mode : s.motion.mode = .locate .search) :
    nextSpeed s = cappedSpeed s (topSpeed s) 20000 (rampTo s 20000) :=
  nextSpeed_locate mode loc (by simp) (by simp [zeroCap, mode]) rfl

theorem nextSpeed_hold (mode : s.motion.mode = .locate .hold) : nextSpeed s = cappedSpeed s (topSpeed s) 0 (rampTo s 0) :=
  nextSpeed_locate mode loc (by simp) (by simp [zeroCap, mode]) rfl

theorem nextSpeed_locateRun (mode : s.motion.mode = .locate .run) :
    nextSpeed s = windCapped s (topSpeed s) (toward s c (runCurve s c)) (rampTo s (toward s c (runCurve s c))) :=
  nextSpeed_wind (.inr mode) (by rw [wantedSpeed, mode, loc]; rfl)

theorem nextSpeed_approach (mode : s.motion.mode = .locate .approach) : nextSpeed s =
    if c.latch = true then 0 else cappedSpeed s (topSpeed s) (closeWant c s) (rampTo s (closeWant c s)) := by
  have cap : zeroCap s = c.latch := by rw [zeroCap, mode, loc]
  split
  next latch => exact nextSpeed_zeroCap (cap.trans latch)
  next free =>
    have free : c.latch = false := by simpa using free
    exact nextSpeed_locate mode loc (by simp) (cap.trans free) (by simp [locateWant, free])

theorem nextSpeed_creep (mode : s.motion.mode = .locate .creep) : nextSpeed s =
    match c.creep with
    | some .forward => cappedSpeed s (topSpeed s) 2500 (rampTo s 2500)
    | some .reverse => cappedSpeed s (topSpeed s) (-2500) (rampTo s (-2500))
    | none => 0 := by
  have cap : zeroCap s = c.creep.isNone := by rw [zeroCap, mode, loc]
  split
  next run => exact nextSpeed_locate mode loc (by simp) (by rw [cap, run]; rfl) (by simp [locateWant, run])
  next run => exact nextSpeed_locate mode loc (by simp) (by rw [cap, run]; rfl) (by simp [locateWant, run])
  next ended => exact nextSpeed_zeroCap (by rw [cap, ended]; rfl)

omit loc in
theorem nextSpeed_creep_with (mode : s.motion.mode = .locate .creep) (x : Option Dir) :
    nextSpeed { s with motion := { s.motion with loc := some { c with creep := x } } } =
    match x with
    | some .forward => cappedSpeed s (topSpeed s) 2500 (rampTo s 2500)
    | some .reverse => cappedSpeed s (topSpeed s) (-2500) (rampTo s (-2500))
    | none => 0 := by
  rw [nextSpeed_creep rfl (by exact mode)]
  rcases x with _ | _ | _ <;> rfl

/-- A creep run goes on until its target is reached (R94). -/
theorem nextSpeed_creeps (mode : s.motion.mode = .locate .creep) (near : distance s c ≤ c.approach) : nextSpeed (phaseTests s) =
    if c.creep = some .forward ∧ estimate s < c.targetTick then cappedSpeed s (topSpeed s) 2500 (rampTo s 2500)
    else if c.creep = some .reverse ∧ c.targetTick < estimate s then cappedSpeed s (topSpeed s) (-2500) (rampTo s (-2500))
    else 0 := by
  rw [phaseTests_creeps loc mode near, nextSpeed_creep_with mode]
  rcases c.creep with _ | _ | _
  · rfl
  · by_cases short : estimate s < c.targetTick
    · simp [creepReached, short, Int.not_le.mpr short]
    · simp [creepReached, short, Int.not_lt.mp short]
  · by_cases short : c.targetTick < estimate s
    · simp [creepReached, short, Int.not_le.mpr short]
    · simp [creepReached, short, Int.not_lt.mp short]

end

/-- Settles O22: CUE whole, and in each moving mode the command of the mode that the phase test leaves. -/
theorem speedsFormed : Obligations.SpeedsFormed := by
  refine ⟨fun s running cue tape forward reverse a speed want down => ?_, fun s running => ?_⟩
  · rw [exec_profileUpdate running, profileUpdate_cue cue tape, nextSpeed_cue_free cue forward reverse a speed want down]
  · intro a wind ramp top zone speed edge windSpeed
    have command {m : Mode} (mode : s.motion.mode = m) (moves : m.atRest = false) :
        (profileUpdate s).motion.vCmd = nextSpeed (phaseTests s) := profileUpdate_vCmd (by rw [mode]; exact moves)
    have plain (free : isLocate s.motion.mode = false) := phaseTests_of_unlocated free
    refine ⟨_, exec_profileUpdate running, fun mode => ?_, fun mode => ?_, fun mode => ?_, fun mode => ?_, fun mode => ?_, fun c loc => ?_,
      fun tape same entry still modes => ?_⟩
    · rw [command mode rfl, plain (by rw [mode]; rfl), nextSpeed_entry mode]
    · rw [command mode rfl, plain (by rw [mode]; rfl), nextSpeed_run mode]
    · rw [command mode rfl, plain (by rw [mode]; rfl), nextSpeed_cue mode]
    · rw [command mode rfl, plain (by rw [mode]; rfl), nextSpeed_wind (w := s.motion.want) (.inl mode) (by rw [wantedSpeed, mode])]
    · rcases mode with mode | mode <;> rw [command mode rfl, plain (by rw [mode]; rfl), nextSpeed_stopping mode]
    · intro d near signed close curve
      have loc : s.motion.loc = some c := loc
      have located {ph : LocPhase} (mode : s.motion.mode = .locate ph) := command mode rfl
      refine ⟨fun mode unknown short => ?_, fun mode unknown far => ?_, fun mode away => ?_, fun mode within => ?_, fun phase closes => ?_,
        fun mode within => ?_, fun mode within waits => ?_, fun mode within limit expires => ?_, fun away => ?_⟩
      · rw [located mode, phaseTests_search loc mode, searchPhase, if_neg (not_not_intro unknown), if_neg (by omega), nextSpeed_search loc mode]
      · rw [located mode, phaseTests_exhausted loc mode unknown far, nextSpeed_stopping (s := exhausted c s) rfl]
        rfl
      · rw [located mode, phaseTests_run loc mode, runPhase, if_neg (by exact away), nextSpeed_locateRun loc mode, runWant_eq]
        rfl
      · rw [located mode, phaseTests_settles loc mode within, nextSpeed_approach rfl (by exact mode)]
        simp only [Bool.or_eq_true, decide_eq_true_eq]
        rfl
      · have phases := phaseTests_closes loc phase closes
        have turned : (inApproach c s).motion.mode ≠ s.motion.mode := by rcases phase with m | ⟨m, -⟩ <;> simp [m]
        have moves : s.motion.mode.atRest = false := by rcases phase with m | ⟨m, -⟩ <;> rw [m] <;> rfl
        refine ⟨?_, fun tape => ?_⟩
        · rw [profileUpdate_vCmd moves, phases, nextSpeed_approach (s := inApproach c s) rfl rfl]
          simp only [decide_eq_true_eq]
          rfl
        · obtain ⟨v, b, l, update, kept, -⟩ := profileUpdate_of_turned phases tape turned
          obtain ⟨b', lowered⟩ := lowerLifters_only { inApproach c s with
            motion := { (inApproach c s).motion with vCmd := v, liftersUp := b, leader := none, loc := l } }
          rw [update, lowered]
          refine ⟨⟨rfl, rfl, fun b hb => ?_⟩, rfl, rfl, ?_⟩
          · cases b <;> simp at hb <;> rfl
          · have latches := congrArg (Option.map LocCtx.latch) (kept none)
            rw [Option.map_map, Option.map_map] at latches
            exact latches
      · rw [located mode, nextSpeed_creeps loc mode within]
      · rw [located mode, phaseTests_hold loc mode, holdPhase, if_neg (by exact Int.not_lt.mpr within), if_neg (by omega),
          nextSpeed_hold rfl (by exact mode)]
        rfl
      · rw [located mode, phaseTests_expired loc mode within limit expires]
        rfl
      · have phases := phaseTests_recedes loc away
        have turned : (inLocateRun c s).motion.mode ≠ s.motion.mode := by
          rcases away with ⟨m | m | m, -⟩ | ⟨m, -⟩ <;> simp [m]
        have moves : s.motion.mode.atRest = false := by rcases away with ⟨m | m | m, -⟩ | ⟨m, -⟩ <;> rw [m] <;> rfl
        refine ⟨?_, fun tape => ?_⟩
        · rw [profileUpdate_vCmd moves, phases, nextSpeed_locateRun (s := inLocateRun c s) rfl rfl, runWant_eq]
          rfl
        · obtain ⟨v, b, l, update, kept, up⟩ := profileUpdate_of_turned phases tape turned
          have up : b = true := up (by simp [Mode.liftersRow])
          rw [update, lowerLifters_of_row (by simp [Mode.liftersRow])]
          refine ⟨⟨rfl, rfl, fun b hb => ?_⟩, rfl, up, kept c.lastDir⟩
          cases b <;> simp at hb <;> rfl
    · have moves : s.motion.mode.atRest = false := by
        rcases modes with ⟨k, m⟩ | m | m | ⟨k, m⟩ | ⟨k, m⟩ <;> rw [m] <;> rfl
      obtain ⟨v, b, l, x, y, update⟩ := profileUpdate_counts tape moves same entry still
      rw [update]
      refine ⟨⟨rfl, rfl, fun b hb => ?_⟩, rfl⟩
      cases b <;> simp at hb <;> rfl

end Sys2Proof.Machine
end

section
/-!
ReadsJudged: address reads rejected, and the identification of the reel with the marks it claims (R6 to R10, R52).
-/

namespace Sys2Proof.Machine

open Sys2Proof.Safety

/-! ## Slots and tags (R51, R52) -/

/-- The slots in use, each with the tag of its mark. -/
abbrev tagsOf (t : MarkTable) : List (Nat × Option Nat) := t.map fun p => (p.1, p.2.tag)

theorem rising_of_tagsOf {t u : MarkTable} (h : tagsOf t = tagsOf u) (rising : Rising u) : Rising t := by
  have numbers : t.map Prod.fst = u.map Prod.fst := by
    have := congrArg (List.map Prod.fst) h
    simpa [Function.comp_def] using this
  unfold Rising
  rw [numbers]
  exact rising

/-- A mark put over one of its tag leaves slots and tags. -/
theorem tagsOf_slotPut {k : Nat} {a b : Mark} {t : MarkTable} (rising : Rising t) (found : slotGet k t = some b) (tag : a.tag = b.tag) :
    tagsOf (slotPut k a t) = tagsOf t := by
  induction t with
  | nil => cases found
  | cons p r ih =>
    obtain ⟨n, x⟩ := p
    have tail : Rising r := (List.pairwise_cons.mp rising).2
    have low : ∀ j ∈ r.map Prod.fst, n < j := (List.pairwise_cons.mp rising).1
    by_cases same : n = k
    · subst same
      rw [slotGet, if_pos rfl] at found
      cases found
      simp [slotPut, tag]
    · rw [slotGet, if_neg same] at found
      have above : n < k := low k (List.mem_map.mpr ⟨(k, b), slotGet_mem found, rfl⟩)
      have order : ¬ k < n := by omega
      simp only [slotPut, if_neg order, if_neg (Ne.symm same), tagsOf, List.map_cons]
      exact congrArg _ (ih tail found)

theorem clearedTable_tags (n : Nat) {t : MarkTable} (rising : Rising t) : tagsOf (clearedTable n t) = tagsOf t := by
  unfold clearedTable
  split
  next m found => exact tagsOf_slotPut rising found rfl
  · rfl

theorem unlinkedTable_tags (n : Nat) {t : MarkTable} (rising : Rising t) : tagsOf (unlinkedTable n t) = tagsOf t := by
  unfold unlinkedTable
  split
  next p _ =>
    have first := clearedTable_tags p rising
    exact (clearedTable_tags n (rising_of_tagsOf first rising)).trans first
  · rfl

theorem foldl_breakTable_tags (spb : Nat) (ns : List Nat) (acc : MarkTable × List Report) (rising : Rising acc.1) :
    tagsOf (ns.foldl (breakTable spb) acc).1 = tagsOf acc.1 := by
  induction ns generalizing acc with
  | nil => rfl
  | cons n r ih =>
    have first : tagsOf (breakTable spb acc n).1 = tagsOf acc.1 := by
      unfold breakTable
      split
      · split
        · rfl
        · exact unlinkedTable_tags n rising
      · rfl
    exact (ih _ (rising_of_tagsOf first rising)).trans first

section
variable {s : State}

theorem settlePairs_tags (tested : List Nat) (rs : List Report) (rising : Rising s.marks) :
    tagsOf (settlePairs tested rs s).marks = tagsOf s.marks := by
  rw [settlePairs_eq, (deliver_frame _ _).2.1]
  have kept := foldl_breakTable_tags (spb s) tested (s.marks, []) rising
  unfold raiseIf
  split <;> exact kept

theorem reMark_tag (m : Mark) : (reMark s m).tag = m.tag := by
  rw [reMark_keeps]

theorem tagsOf_slotMap {f : Mark → Mark} (tag : ∀ m, (f m).tag = m.tag) (t : MarkTable) : tagsOf (slotMap (fun _ m => f m) t) = tagsOf t := by
  simp [slotMap, tag]

theorem reevaluate_tags (rising : Rising s.marks) : tagsOf (reevaluate s).marks = tagsOf s.marks := by
  have marked : tagsOf (s.onMarks (slotMap fun _ m => reMark s m)).marks = tagsOf s.marks := tagsOf_slotMap reMark_tag s.marks
  exact (settlePairs_tags _ _ (rising_of_tagsOf marked rising)).trans marked

/-- After claiming every mark has a tag, and every slot is as it was. -/
theorem claim_tags (tag : Nat) (rising : Rising s.marks) :
    tagsOf (claim tag s).marks = s.marks.map fun p => (p.1, if p.2.tag = none then some tag else p.2.tag) := by
  have marked : tagsOf (s.onMarks (slotMap fun _ m => claimMark s tag m)).marks =
      s.marks.map fun p => (p.1, if p.2.tag = none then some tag else p.2.tag) := by
    simp [slotMap, claimMark_tag]
  have kept : Rising (s.onMarks (slotMap fun _ m => claimMark s tag m)).marks := by
    rw [State.onMarks_marks]
    exact slotMap_rising rising
  exact (settlePairs_tags _ _ kept).trans marked

theorem claim_rising (tag : Nat) (rising : Rising s.marks) : Rising (claim tag s).marks := by
  have numbers := congrArg (List.map Prod.fst) (claim_tags tag rising)
  simp only [List.map_map, Function.comp_def] at numbers
  unfold Rising
  rw [numbers]
  exact rising

theorem adoptReel_marks (id : ReelId) : (adoptReel id s).marks = (claim id.tag (loadedReel id s)).marks := by
  unfold adoptReel
  dsimp only
  split <;> simp [loadedReel]

theorem adoptReel_rising (id : ReelId) (rising : Rising s.marks) : Rising (adoptReel id s).marks := by
  rw [adoptReel_marks]
  exact claim_rising (s := loadedReel id s) id.tag rising

end

/-! ## Events raised stay raised (R187) -/

theorem Latches.via {s t u : State} (link : t.link = s.link) (h : Latches t u) : Latches s u := (Latches.of_link link).trans h

section
variable (s : State)

theorem settlePairs_latches (tested : List Nat) (rs : List Report) : Latches s (settlePairs tested rs s) := by
  rw [settlePairs_eq, raiseIf]
  split
  · exact ((Latches.of_link (t := s.onMarks _) rfl).trans (latches_raise .pairBroken _)).trans (deliver_latches _ _)
  · exact (Latches.of_link (t := s.onMarks _) rfl).trans (deliver_latches _ _)

theorem reevaluate_latches : Latches s (reevaluate s) :=
  (Latches.of_link (t := s.onMarks _) rfl).trans (settlePairs_latches _ _ _)

theorem closeManual_latches (x : Nat) : Latches s (closeManual x s) :=
  .of_link (by simp [closeManual])

theorem closeEntry_latches (e : Entry) (r : PunchResult) (x y : Addr) (n : Nat) : Latches s (closeEntry e r x y n s) := by
  have closed : Latches s (if e.rehearse then closeMonitors n s else closeGates n s) :=
    latches_ite (.of_link (by simp)) (.of_link (by simp))
  exact closed.trans (completeEntry_latches _ _ _ _ _)

theorem manualEdge_latches (b : Nat) : Latches s (manualEdge b s) := by
  unfold manualEdge
  split
  · exact latches_ite (.of_link rfl) (.of_link rfl)
  · exact latches_ite (closeManual_latches s _) (latches_ite (closeManual_latches s _) (.refl s))
  · exact closeManual_latches s _
  · exact .refl s

theorem activeEdge_latches (b : Nat) : Latches s (activeEdge b s) := by
  unfold activeEdge
  split
  · split
    · refine latches_ite (closeEntry_latches s _ _ _ _ _) ?_
      split
      · exact latches_ite (closeEntry_latches s _ _ _ _ _) (latches_ite (closeEntry_latches s _ _ _ _ _) (.refl s))
      · split
        · exact latches_ite (closeEntry_latches s _ _ _ _ _) (latches_ite (closeEntry_latches s _ _ _ _ _) (.refl s))
        · exact .refl s
    · exact .refl s
  · exact .refl s

theorem leadCheck_latches (n : Nat) : Latches s (leadCheck s n) := by
  unfold leadCheck
  split
  · split
    · exact latches_ite (latches_ite (completeEntry_latches s _ _ _ _) (latches_ite (.of_link rfl) (completeEntry_latches s _ _ _ _)))
        (.refl s)
    · exact .refl s
  · exact .refl s

theorem punchIn_latches (b : Nat) (n : Nat) : Latches s (punchIn b s n) := by
  unfold punchIn
  split
  · split
    · refine latches_ite (latches_ite (completeEntry_latches s _ _ _ _) (latches_ite (completeEntry_latches s _ _ _ _)
        (latches_ite (.refl s) ?_))) (.refl s)
      split
      · exact latches_ite (.of_link rfl) (.of_link rfl)
      · exact .refl s
    · exact .refl s
  · exact .refl s

theorem missEntry_latches (f : State → Entry → Bool) (n : Nat) : Latches s (missEntry f s n) := by
  unfold missEntry
  split
  · split
    · exact .refl s
    · exact latches_ite (.of_link rfl) (.refl s)
    · exact .refl s
  · exact .refl s

theorem blockEdge_latches (b : Nat) : Latches s (blockEdge b s) :=
  latches_ite (((((manualEdge_latches s b).trans (activeEdge_latches _ b)).trans (gateGuard_latches _)).trans
    (latches_foldl leadCheck_latches _ _)).trans (latches_foldl (fun s n => punchIn_latches s b n) _ _) |>.trans
    (latches_foldl (fun s n => missEntry_latches s _ n) _ _)) (.refl s)

theorem phaseEvent_latches (t : Count32) : Latches s (phaseEvent t s) := by
  unfold phaseEvent
  dsimp only
  split
  · exact Latches.trans (.of_link (by simp)) (gateGuard_latches _)
  · exact .of_link rfl

theorem handOn_latches (r : TapeRead) : Latches s (handOn r s) :=
  ((reevaluate_latches s).trans (blockEdge_latches _ _)).trans (phaseEvent_latches _ _)

theorem freshRead_latches (r : TapeRead) : Latches s (freshRead r s) :=
  latches_ite (.of_link rfl) ((Latches.of_link (t := s.onTracker _) rfl).trans (handOn_latches _ r))

theorem rebase_latches (r : TapeRead) : Latches s (rebase r s) :=
  ((Latches.of_link (t := s.onTracker _) rfl).trans (latches_raise .rebased _)).trans (handOn_latches _ r)

theorem acceptRead_latches (r : TapeRead) : Latches s (acceptRead r s) := by
  have noted : Latches s (s.onTracker fun t => { t with rejects := 0 }) := .of_link rfl
  refine noted.trans ?_
  unfold acceptRead
  dsimp only
  split
  · split
    · exact rebase_latches _ r
    · refine Latches.trans ?_ (freshRead_latches _ r)
      exact .of_link rfl
  · exact freshRead_latches _ r

theorem referenceTurned_latches : Latches s (referenceTurned s) :=
  (Latches.of_link (t := driveCapstan _) (by simp)).trans (gateGuard_latches _)

theorem moveRefState_latches (r : RefState) : Latches s (moveRefState r s) :=
  latches_ite (.refl s) (latches_ite
    (((Latches.of_link (t := s.onCapstan _) rfl).trans (latches_raise .referenceChange _)).trans (referenceTurned_latches _))
    ((Latches.of_link (t := s.onCapstan _) rfl).trans (latches_raise .referenceChange _)))

theorem spbChanged_latches : Latches s (spbChanged s) :=
  latches_ite (.refl s) ((moveRefState_latches s .qualifying).trans (.of_link rfl))

theorem adoptReel_latched (id : ReelId) : Latched .reelIdentified (adoptReel id s) := by
  unfold adoptReel
  dsimp only
  split
  · exact spbChanged_latches _ _ (raised_latched .reelIdentified _)
  · exact raised_latched .reelIdentified _

end

/-! ## What an accepted read leaves (R8, R16, R17) -/

section
variable {s : State}

theorem acceptRead_tracker (r : TapeRead) : ∃ j m, (acceptRead r s).tracker = { s.tracker with rejects := 0, jump := j, map := m } := by
  have fresh (u : State) : ∃ j m, (freshRead r u).tracker = { u.tracker with jump := j, map := m } := by
    unfold freshRead
    split
    · exact ⟨_, u.tracker.map, rfl⟩
    · exact ⟨u.tracker.jump, _, (handOn_frame r _).1⟩
  unfold acceptRead
  dsimp only
  split
  · split
    · exact ⟨none, _, (handOn_frame r _).1⟩
    · exact fresh _
  · exact fresh _

theorem handOn_tags (r : TapeRead) (rising : Rising s.marks) : tagsOf (handOn r s).marks = tagsOf s.marks := by
  rw [handOn, (phaseEvent_frame _ _).2.1, (blockEdge_frame _ _).2.1]
  exact reevaluate_tags rising

theorem acceptRead_tags (r : TapeRead) (rising : Rising s.marks) : tagsOf (acceptRead r s).marks = tagsOf s.marks := by
  have fresh (u : State) (marks : u.marks = s.marks) : tagsOf (freshRead r u).marks = tagsOf s.marks := by
    unfold freshRead
    split
    · exact congrArg tagsOf marks
    · exact (handOn_tags r (s := u.onTracker _) (by rw [State.onTracker_marks, marks]; exact rising)).trans (congrArg tagsOf marks)
  unfold acceptRead
  dsimp only
  split
  · split
    · exact handOn_tags r rising
    · exact fresh _ rfl
  · exact fresh _ rfl

theorem adoptReel_tracker (id : ReelId) : (adoptReel id s).tracker = { s.tracker with loaded := some id, candidate := none } := by
  unfold adoptReel
  dsimp only
  split <;> simp

/-! ## Rejected reads (R8) -/

theorem rejectRead_outside (outside : ¬ InReadWindow s) : rejectRead s = s := if_neg outside

theorem rejectRead_counts (inside : InReadWindow s) (more : s.tracker.rejects ≠ 15) : rejectRead s = { s with
    tracker := { s.tracker with rejects := min 65535 (s.tracker.rejects + 1) } } := by
  rw [rejectRead, if_pos inside, raiseIf, decide_eq_false more]
  rfl

theorem rejectRead_sixteenth (inside : InReadWindow s) (count : s.tracker.rejects = 15) : rejectRead s = { s with
    tracker := { s.tracker with rejects := 16 }
    link := raised .addressDropout s.link } := by
  rw [rejectRead, if_pos inside, raiseIf, decide_eq_true count]
  simp only [State.onTracker, count]
  rfl

/-- The card with the timebase at the read (R132). -/
abbrev timed (r : TapeRead) (s : State) : State := { s with capstan := { s.capstan with timebase := r.time } }

theorem addressRead_rejected {r : TapeRead} (other : ¬ GoodFormat r s ∨ (s.tracker.loaded ≠ none ∧ s.tracker.loaded ≠ some (readReel r))) :
    addressRead r s = rejectRead (timed r s) := by
  unfold addressRead
  dsimp only
  by_cases good : GoodFormat r s
  · obtain ⟨loaded, foreign⟩ := other.resolve_left (not_not_intro good)
    rw [if_pos (by exact good)]
    cases reel : s.tracker.loaded with
    | none => exact absurd reel loaded
    | some id =>
      have ne : readReel r ≠ id := by
        rintro rfl
        exact foreign reel
      have found : (s.onCapstan fun c => { c with timebase := r.time }).tracker.loaded = some id := reel
      rw [found]
      exact if_neg ne
  · exact if_neg good

theorem addressRead_unknown {r : TapeRead} (good : GoodFormat r s) (absent : s.tracker.loaded = none) :
    addressRead r s = identifyRead r (timed r s) := by
  unfold addressRead
  dsimp only
  rw [if_pos (by exact good)]
  have found : (s.onCapstan fun c => { c with timebase := r.time }).tracker.loaded = none := absent
  rw [found]
  rfl

end

/-- Settles O38: the classification of the read, and on an unknown reel its candidate. -/
theorem readsJudged : Obligations.ReadsJudged := by
  refine ⟨fun r s running other => ⟨fun outside => ?_, fun inside more => ?_, fun inside count => ?_⟩,
    fun r s running good absent form => ⟨fun first few => ?_, fun candidate => ?_⟩⟩
  · rw [exec_addressRead running, addressRead_rejected other, rejectRead_outside (by exact outside)]
  · rw [exec_addressRead running, addressRead_rejected other, rejectRead_counts (by exact inside) (by exact more)]
  · have read := exec_addressRead running r
    rw [addressRead_rejected other, rejectRead_sixteenth (by exact inside) (by exact count)] at read
    rw [(readRows running r _ read).1, if_pos ⟨count, rfl⟩]
  · have low : min 65535 (s.tracker.rejects + 1) = s.tracker.rejects + 1 := by omega
    rw [exec_addressRead running, addressRead_unknown good absent, identifyRead, if_neg (by exact first),
      rejectRead_counts (by exact good.2.1) (by change s.tracker.rejects ≠ 15; omega)]
    simp only [State.onTracker, low]
    rfl
  · have rising : Rising s.marks := form.1
    refine ⟨_, exec_addressRead running r, ?_⟩
    rw [addressRead_unknown good absent, identifyRead, if_pos (by exact candidate)]
    obtain ⟨j, m, tracker⟩ := acceptRead_tracker (s := adoptReel (readReel r) (timed r s)) r
    rw [adoptReel_tracker] at tracker
    have claimed : tagsOf (adoptReel (readReel r) (timed r s)).marks =
        s.marks.map fun p => (p.1, if p.2.tag = none then some r.tag else p.2.tag) := by
      rw [adoptReel_marks]
      exact claim_tags r.tag rising
    have kept := (acceptRead_tags r (s := adoptReel (readReel r) (timed r s)) (adoptReel_rising _ rising)).trans claimed
    refine ⟨?_, ?_, ?_, acceptRead_latches _ r _ (adoptReel_latched _ _), fun p hp => ?_, ?_⟩
    · rw [tracker]
      rfl
    · rw [tracker]
    · rw [tracker]
    · have mem : (p.1, p.2.tag) ∈ tagsOf (acceptRead r (adoptReel (readReel r) (timed r s))).marks := List.mem_map.mpr ⟨p, hp, rfl⟩
      rw [kept] at mem
      obtain ⟨q, -, eq⟩ := List.mem_map.mp mem
      have tag := congrArg Prod.snd eq
      dsimp only at tag
      rw [← tag]
      split
      · simp
      next claimed => exact claimed
    · have numbers := congrArg (List.map Prod.fst) kept
      simpa [Function.comp_def] using numbers

end Sys2Proof.Machine
end

section
/-!
ReadsPlaced: where an accepted read stands in the map: alone, beside the live anchor or in its place, held as the jump
candidate, or as the new base (R10, R16 to R18, R21, R141).
-/

namespace Sys2Proof.Machine

open Sys2Proof.Safety

/-! ## What a map change finds nothing to do for (R21, R49, R52) -/

section
variable {s : State}

/-- Firm marks are not evaluated again (R49). -/
theorem reevaluate_of_firm (firm : ∀ q ∈ s.marks, q.2.standing = .firm) : reevaluate s = s := by
  have same : ∀ q ∈ s.marks, reMark s q.2 = q.2 := fun q hq => by rw [reMark, firm q hq]
  have unchanged : (s.marks.filter fun p => reMark s p.2 ≠ p.2) = [] := List.filter_eq_nil_iff.mpr fun q hq => by simp [same q hq]
  have unmoved : (s.marks.filter fun p => (reMark s p.2).addr ≠ p.2.addr) = [] :=
    List.filter_eq_nil_iff.mpr fun q hq => by simp [same q hq]
  have table : slotMap (fun _ m => reMark s m) s.marks = s.marks := by
    have steps : slotMap (fun _ m => reMark s m) s.marks = s.marks.map id := List.map_congr_left fun q hq => Prod.ext rfl (same q hq)
    rw [steps, List.map_id]
  unfold reevaluate
  dsimp only
  rw [unchanged, unmoved, State.onMarks, table]
  rfl

theorem claim_nil (tag : Nat) (bare : s.marks = []) : claim tag s = s := by
  rw [claim, claimReports, State.onMarks, bare, List.flatMap_nil, List.map_nil]
  change { s with marks := [] } = s
  rw [← bare]

theorem identifyTarget_of_unlocated (loc : s.motion.loc = none) (held : s.motion.held = none) : identifyTarget s = s := by
  unfold identifyTarget
  simp only [loc, held]

theorem blockEdge_outside (b : Nat) (outside : ¬ InRun s) : blockEdge b s = s := if_neg outside

theorem phaseEvent_outside (t : Count32) (outside : ¬ InRun s) : phaseEvent t s = { s with
    capstan := { s.capstan with lastPhase := some (phaseError s.capstan t) } } := by
  unfold phaseEvent
  dsimp only
  rw [if_neg (by exact outside)]
  rfl

/-- Outside PLAY RUN an accepted read leaves its phase error alone, where every mark is firm. -/
theorem handOn_outside (r : TapeRead) (firm : ∀ q ∈ s.marks, q.2.standing = .firm) (outside : ¬ InRun s) : handOn r s = { s with
    capstan := { s.capstan with lastPhase := some (phaseError s.capstan r.time) } } := by
  rw [handOn, reevaluate_of_firm firm, blockEdge_outside _ outside, phaseEvent_outside _ outside]

/-- A reel adopted with no marks and no locate, where its spb is the one in force or the reference stays INTERNAL. -/
theorem adoptReel_quiet {id : ReelId} (absent : s.tracker.loaded = none) (bare : s.marks = []) (loc : s.motion.loc = none)
    (held : s.motion.held = none) (rate : id.rate = .r48000 ∨ s.capstan.refState = .internal) : adoptReel id s = { s with
      tracker := { s.tracker with loaded := some id, candidate := none }
      link := raised .reelIdentified s.link } := by
  unfold adoptReel
  dsimp only
  rw [claim_nil _ (by exact bare), identifyTarget_of_unlocated (by exact loc) (by exact held)]
  split
  next changed =>
    have internal : s.capstan.refState = .internal := rate.resolve_left fun fast => changed (by
      simp [spb, Tracker.spb, absent, fast, Rate.spb])
    rw [spbChanged, if_pos (by exact internal)]
    rfl
  · rfl

/-! ## The read and the jump candidate (R16, R17) -/

theorem addressRead_known {r : TapeRead} (good : GoodFormat r s) (loaded : s.tracker.loaded = some (readReel r)) :
    addressRead r s = acceptRead r (timed r s) := by
  unfold addressRead
  dsimp only
  rw [if_pos (by exact good)]
  have found : (s.onCapstan fun c => { c with timebase := r.time }).tracker.loaded = some (readReel r) := loaded
  rw [found]
  exact if_pos rfl

theorem acceptRead_fresh (r : TapeRead) (calm : s.tracker.jump = none) :
    acceptRead r s = freshRead r { s with tracker := { s.tracker with rejects := 0 } } := by
  unfold acceptRead
  have found : (s.onTracker fun t => { t with rejects := 0 }).tracker.jump = none := calm
  simp only [found]
  rfl

theorem acceptRead_rebases {r : TapeRead} {j : Jump} (jump : s.tracker.jump = some j) (agrees : JumpAgrees j r) :
    acceptRead r s = rebase r { s with tracker := { s.tracker with rejects := 0 } } := by
  unfold acceptRead
  have found : (s.onTracker fun t => { t with rejects := 0 }).tracker.jump = some j := jump
  simp only [found]
  rw [if_pos agrees]
  rfl

theorem freshRead_held {r : TapeRead} (begun : s.tracker.map ≠ []) (far : 5000 < mag (residual r s)) : freshRead r s = { s with
    tracker := { s.tracker with jump := some { count := r.latched, block := r.block } } } := if_pos ⟨begun, far⟩

theorem freshRead_placed {r : TapeRead} (near : s.tracker.map = [] ∨ mag (residual r s) ≤ 5000) : freshRead r s =
    handOn r { s with tracker := { s.tracker with map := placeAnchor (readAnchor r) s.tracker.map } } :=
  if_neg fun h => near.elim h.1 (by omega)

end

/-! ## Placements in a map of at most one anchor (R18) -/

section
variable {a l : Anchor}

theorem placeAnchor_nil : placeAnchor a [] = [a] := rfl

theorem placeAnchor_replaces (live : l.live = true) (near : mag (a.count - l.count) < 10000) : placeAnchor a [l] = [a] := by
  simp [placeAnchor, beforePlacement, liveAnchor, live, near, insertClean, thin, Config.maxAnchors]

theorem placeAnchor_joins (live : l.live = true) (far : 10000 ≤ a.count - l.count) (slope : SlopeOk (a.ticks - l.ticks) (a.count - l.count)) :
    placeAnchor a [l] = [{ l with live := false }, a] := by
  have apart : ¬ mag (a.count - l.count) < 10000 := by
    rw [mag, if_neg (by omega)]
    omega
  obtain ⟨slow, fast⟩ := slope
  have below : Below { l with live := false } a := ⟨by change l.ticks < a.ticks; omega, by change l.count < a.count; omega, slow, fast⟩
  have kept : l.count ≤ a.count := by omega
  have low : ¬ a.count < l.count := by omega
  simp [placeAnchor, beforePlacement, liveAnchor, live, apart, insertClean, thin, Config.maxAnchors, kept, low, below]

end

/-- Settles O39: each read through its classification, the jump candidate and the placement. -/
theorem readsPlaced : Obligations.ReadsPlaced := by
  refine ⟨fun r s running good absent candidate empty calm bare zones planned outside rate => ?_,
    fun r l j s running good loaded bare zones planned outside => ⟨fun map live calm small near => ?_,
      fun map live calm small far slow fast => ?_, fun begun calm large => ?_, fun jump agrees => ?_⟩⟩
  · obtain ⟨loc, held, -, -⟩ := planned
    rw [exec_addressRead running, addressRead_unknown good absent, identifyRead, if_pos (by exact candidate),
      adoptReel_quiet (by exact absent) (by exact bare) (by exact loc) (by exact held) (by exact rate),
      acceptRead_fresh r (by exact calm), freshRead_placed (.inl (by exact empty)),
      handOn_outside r (by simp [bare]) (by exact outside)]
    simp only [empty, placeAnchor_nil]
    rfl
  · rw [exec_addressRead running, addressRead_known good loaded, acceptRead_fresh r (by exact calm),
      freshRead_placed (.inr (by simpa [residual, readAnchor, map] using small)), handOn_outside r (by simp [bare]) (by exact outside)]
    simp only [map, placeAnchor_replaces (a := readAnchor r) live near]
    rfl
  · rw [exec_addressRead running, addressRead_known good loaded, acceptRead_fresh r (by exact calm),
      freshRead_placed (.inr (by simpa [residual, readAnchor, map] using small)), handOn_outside r (by simp [bare]) (by exact outside)]
    simp only [map, placeAnchor_joins (a := readAnchor r) live far ⟨slow, fast⟩]
    rfl
  · rw [exec_addressRead running, addressRead_known good loaded, acceptRead_fresh r (by exact calm),
      freshRead_held (by exact begun) (by exact large)]
  · rw [exec_addressRead running, addressRead_known good loaded, acceptRead_rebases (by exact jump) agrees, rebase,
      handOn_outside r (by simp [bare]) (by exact outside)]
    rfl

end Sys2Proof.Machine
end

section
/-!
PunchesMade: reads in PLAY RUN that agree with the map: the live anchor, the phase event with the lock, and the reads that
open and close the gates of a punch (R18, R141 to R143, R157, R158).
-/

namespace Sys2Proof.Machine

open Sys2Proof.Safety

/-! ## The live anchor of a placement (R18) -/

/-- The anchor of a read is the live anchor of the map it is placed in. -/
theorem placeAnchor_live {r : Anchor} {map : List Anchor} (h : MapOk map) (live : r.live = true) :
    liveAnchor (placeAnchor r map) = some r := by
  obtain ⟨room, chain, -, -⟩ := h
  have ordered := insertClean_ordered (r := r) (beforePlacement_ordered r.count (mapOrdered_iff.mp chain))
  have one := insertClean_live live (beforePlacement_settled r.count map)
  have length := insertClean_length r (beforePlacement r.count map)
  have length' := beforePlacement_length r.count map
  obtain ⟨-, sub, one'⟩ := thin_spec (by omega) ordered (by rw [one]; rfl)
  have kept : (placeAnchor r map).filter (fun a => a.live) = [r] := by
    rw [← one]
    refine (sub.filter _).eq_of_length ?_
    rw [one, one']
    rfl
  rw [liveAnchor, ← List.head?_filter, kept]
  rfl

/-! ## The phase event in PLAY RUN (R141 to R143) -/

/-- The capstan after a phase event in PLAY RUN, but for its outputs. -/
abbrev Capstan.phased (t : Count32) (c : Capstan) : Capstan :=
  judgeLock (phaseError c t) { c with
    lastPhase := some (phaseError c t), correction := clampInt (-500) 500 ((phaseError c t).tdiv 4), missed := 0 }

section
variable {s : State} {r : TapeRead}

theorem phaseEvent_run (t : Count32) (run : InRun s) : phaseEvent t s = gateGuard { s with
    capstan := (s.capstan.phased t).driven s.motion.mode } := by
  unfold phaseEvent
  dsimp only
  rw [if_pos (by exact run)]
  rfl

theorem judgeLock_far {e : Int} {c : Capstan} (unlocked : c.lock = false) (far : 1250 < mag e) : judgeLock e c = { c with lockCount := 0 } := by
  rw [judgeLock, if_neg (by simp [unlocked]), if_neg (by omega)]

theorem judgeLock_near {e : Int} {c : Capstan} (unlocked : c.lock = false) (near : mag e ≤ 1250) : judgeLock e c = { c with
    lock := decide (16 ≤ c.lockCount + 1), lockCount := c.lockCount + 1 } := by
  rw [judgeLock, if_neg (by simp [unlocked]), if_pos near]

theorem judgeLock_holds {e : Int} {c : Capstan} (locked : c.lock = true) (near : mag e ≤ 2500) : judgeLock e c = c := by
  rw [judgeLock, if_pos locked, if_neg (by omega)]

/-! ## A read that agrees with the map (R16, R21) -/

/-- The card with the read placed in the map. -/
abbrev anchored (r : TapeRead) (s : State) : State := { timed r s with
  tracker := { s.tracker with rejects := 0, map := placeAnchor (readAnchor r) s.tracker.map } }

theorem addressRead_agrees (good : GoodFormat r s) (loaded : s.tracker.loaded = some (readReel r)) (calm : s.tracker.jump = none)
    (small : mag ((r.block : Int) * 100 - estimateAt s.tracker.map r.latched) ≤ 5000) (firm : ∀ q ∈ s.marks, q.2.standing = .firm) :
    addressRead r s = phaseEvent r.time (blockEdge r.block (anchored r s)) := by
  rw [addressRead_known good loaded, acceptRead_fresh r (by exact calm), freshRead_placed (.inr (by exact small)), handOn,
    reevaluate_of_firm (by exact firm)]

/-- With an empty list and nothing recording a block edge finds nothing to do. -/
theorem blockEdge_of_idle (b : Nat) (run : InRun s) (empty : s.punch.entries = []) (quiet : NoRecording s) : blockEdge b s = s := by
  have manual : manualEdge b s = s := by rw [manualEdge, quiet.2.2]
  have active : activeEdge b s = s := by rw [activeEdge, activeEntry_of_idle (by simp [empty])]
  have keys : entryKeys s = [] := by rw [entryKeys, empty]; rfl
  unfold blockEdge
  rw [if_pos run]
  dsimp only
  rw [manual, active, gateGuard_of_noRecording quiet, keys, List.foldl_nil, keys, List.foldl_nil, keys, List.foldl_nil]

/-- With nothing planned the read moves the anchor and the capstan alone. -/
theorem addressRead_phases (good : GoodFormat r s) (run : InRun s) (loaded : s.tracker.loaded = some (readReel r))
    (bare : s.marks = []) (planned : NothingPlanned s) (calm : s.tracker.jump = none)
    (small : mag ((r.block : Int) * 100 - estimateAt s.tracker.map r.latched) ≤ 5000) : addressRead r s = { anchored r s with
      capstan := ((anchored r s).capstan.phased r.time).driven s.motion.mode } := by
  obtain ⟨-, -, empty, quiet⟩ := planned
  rw [addressRead_agrees good loaded calm small (by simp [bare]), blockEdge_of_idle _ (by exact run) (by exact empty) (by exact quiet),
    phaseEvent_run _ (by exact run), gateGuard_of_noRecording (by exact quiet)]

/-! ## The block edge of a punch (R157, R158) -/

section
variable {n p : Nat} {tk : Tracks} {ain : Addr} {m o : Mark}

/-- The entry that the statement is about, at one state of it. -/
abbrev recordingEntry (n p : Nat) (tk : Tracks) (x : EntryState) : Entry :=
  { inMark := n, outMark := p, tracks := tk, rehearse := false, state := x }

theorem punchIn_opens (single : s.punch.entries = [recordingEntry n p tk (.armed .cleared false)]) (clear : s.punch.zones = [])
    (tests : PunchTests s (recordingEntry n p tk (.armed .cleared false))) (mark : markAt s n = some m) :
    punchIn m.addr.block s n = s.onPunch fun u => { u with
      gateA := tk.hasA && !u.safeA, gateB := tk.hasB && !u.safeB, offset := m.addr.sample
      entries := [recordingEntry n p tk (.active false none m.addr)] } := by
  have block : markBlock s n = m.addr.block := by rw [markBlock, mark]
  have outside : ¬ InGuard s (estimate s) := by simp [InGuard, clear]
  have idle : activeEntry s = none := activeEntry_of_idle (by simp [single, Entry.isActive])
  have undropped : formDrop s (recordingEntry n p tk (.armed .cleared false)) = none := by rw [formDrop, clear]; rfl
  unfold punchIn
  rw [entryFor_single (e := recordingEntry n p tk (.armed .cleared false)) single]
  dsimp only
  rw [block, if_pos (.inl rfl), if_neg outside, if_neg (not_not_intro tests), if_neg (not_not_intro idle), mark]
  dsimp only
  rw [if_pos rfl, openEntry, undropped]
  simp [State.onPunch, putEntry, single]

/-- The read of the in block of a cleared entry opens its gates. -/
theorem blockEdge_opens (quiet : NoRecording s) (single : s.punch.entries = [recordingEntry n p tk (.armed .cleared false)])
    (clear : s.punch.zones = []) (tests : PunchTests s (recordingEntry n p tk (.armed .cleared false)))
    (mark : markAt s n = some m) : blockEdge m.addr.block s = s.onPunch fun u => { u with
      gateA := tk.hasA && !u.safeA, gateB := tk.hasB && !u.safeB, offset := m.addr.sample
      entries := [recordingEntry n p tk (.active false none m.addr)] } := by
  have manual : manualEdge m.addr.block s = s := by rw [manualEdge, quiet.2.2]
  have active : activeEdge m.addr.block s = s := by
    rw [activeEdge, activeEntry_of_idle (by simp [single, Entry.isActive])]
  have lead : leadCheck s n = s := by rw [leadCheck, entryFor_single (e := recordingEntry n p tk (.armed .cleared false)) single]
  have keys : entryKeys s = [n] := entryKeys_single single
  unfold blockEdge
  rw [if_pos tests.1]
  dsimp only
  rw [manual, active, gateGuard_of_noRecording quiet, keys, List.foldl_cons, List.foldl_nil, lead, keys, List.foldl_cons, List.foldl_nil,
    punchIn_opens single clear tests mark]
  generalize opened : (s.onPunch fun u => { u with
      gateA := tk.hasA && !u.safeA, gateB := tk.hasB && !u.safeB, offset := m.addr.sample
      entries := [recordingEntry n p tk (.active false none m.addr)] }) = t
  have single' : t.punch.entries = [recordingEntry n p tk (.active false none m.addr)] := by rw [← opened]; rfl
  rw [entryKeys_single single', List.foldl_cons, List.foldl_nil, missEntry, entryFor_single single']

theorem activeEdge_closes (single : s.punch.entries = [recordingEntry n p tk (.active false none ain)]) (on : GateOn s)
    (mark : markAt s n = some m) (out : markAt s p = some o) (ahead : m.addr.block ≤ o.addr.block) :
    activeEdge o.addr.block s = raise .punchDone (s.onPunch fun u => { u with
      gateA := false, gateB := false, offset := o.addr.sample
      entries := [recordingEntry n p tk (.complete .done (some ain) (some o.addr))]
      last := some (completion (recordingEntry n p tk (.active false none ain)) .done (some ain) (some o.addr)) }) := by
  have block : markBlock s n = m.addr.block := by rw [markBlock, mark]
  have closed : closeGates o.addr.sample s = s.onPunch fun u => { u with gateA := false, gateB := false, offset := o.addr.sample } := if_pos on
  unfold activeEdge
  rw [activeEntry_single (e := recordingEntry n p tk (.active false none ain)) single rfl]
  dsimp only
  rw [block, if_neg (by omega), out]
  dsimp only
  rw [if_pos rfl, closeEntry, if_neg (by simp), closed,
    completeEntry_single (e := recordingEntry n p tk (.active false none ain)) (by exact single)]
  rfl

/-- The read of the out block of a recording entry closes its gates. -/
theorem blockEdge_closes (run : InRun s) (off : s.punch.manual = .off) (silent : ¬ MonitorOn s)
    (single : s.punch.entries = [recordingEntry n p tk (.active false none ain)]) (on : GateOn s)
    (mark : markAt s n = some m) (out : markAt s p = some o) (ahead : m.addr.block ≤ o.addr.block) :
    blockEdge o.addr.block s = raise .punchDone (s.onPunch fun u => { u with
      gateA := false, gateB := false, offset := o.addr.sample
      entries := [recordingEntry n p tk (.complete .done (some ain) (some o.addr))]
      last := some (completion (recordingEntry n p tk (.active false none ain)) .done (some ain) (some o.addr)) }) := by
  have manual : manualEdge o.addr.block s = s := by rw [manualEdge, off]
  unfold blockEdge
  rw [if_pos run]
  dsimp only
  rw [manual, activeEdge_closes single on mark out ahead]
  generalize closed : raise .punchDone (s.onPunch fun u => { u with
      gateA := false, gateB := false, offset := o.addr.sample
      entries := [recordingEntry n p tk (.complete .done (some ain) (some o.addr))]
      last := some (completion (recordingEntry n p tk (.active false none ain)) .done (some ain) (some o.addr)) }) = t
  have quiet : NoRecording t := by
    rw [← closed]
    exact ⟨by simp [GateOn, State.onPunch, raise, State.onLink], silent, off⟩
  have single' : t.punch.entries = [recordingEntry n p tk (.complete .done (some ain) (some o.addr))] := by rw [← closed]; rfl
  have passed : punchIn o.addr.block t n = t := by rw [punchIn, entryFor_single single']
  rw [gateGuard_of_noRecording quiet, entryKeys_single single', List.foldl_cons, List.foldl_nil, leadCheck_of_complete single' rfl,
    entryKeys_single single', List.foldl_cons, List.foldl_nil, passed, entryKeys_single single', List.foldl_cons, List.foldl_nil,
    missEntry_of_complete _ single' rfl]

end

/-- The phase event of a read that keeps the lock leaves what the Punch Unit has done (R143, R151). -/
theorem phaseEvent_keeps {t : Count32} (run : InRun s) (locked : s.capstan.lock = true) (near : mag (phaseError s.capstan t) ≤ 2500)
    (gate : GateLaw s) (silent : ¬ MonitorOn s) (off : s.punch.manual = .off) : phaseEvent t s = { s with
      capstan := (s.capstan.phased t).driven s.motion.mode } := by
  have lock : ((s.capstan.phased t).driven s.motion.mode).lock = true := by
    change (s.capstan.phased t).lock = true
    rw [Capstan.phased, judgeLock_holds (by exact locked) near]
    exact locked
  rw [phaseEvent_run t run]
  exact gateGuard_of_lawful (fun on => ⟨⟨run, lock, (gate on).1.2.2⟩, (gate on).2⟩) (fun on => absurd on silent) off

end

/-- Settles O40: the read placed, its block edge, and its phase event. -/
theorem punchesMade : Obligations.PunchesMade := by
  refine ⟨fun r s running good run loaded bare planned map begun calm small zones unlocked => ?_,
    fun n p tk ain m o r s running good run loaded map begun calm small gate off zones silent locked mark out firm firm' allFirm near
      permit here => ?_⟩
  · have read := exec_addressRead running r
    rw [addressRead_phases good run loaded bare planned calm small] at read
    have live : liveAnchor (placeAnchor (readAnchor r) s.tracker.map) = some (readAnchor r) := placeAnchor_live map rfl
    have only {c : Capstan} : OnlyIn [.tracker, .capstan] s { anchored r s with capstan := c } := by
      refine ⟨rfl, rfl, fun b hb => ?_⟩
      cases b <;> simp at hb <;> rfl
    refine ⟨fun far => ⟨_, read, only, live, ?_⟩, fun close few => ⟨_, read, only, live, ?_⟩, fun close count => ?_⟩
    · dsimp only
      rw [driven_run run, Capstan.phased, judgeLock_far (by exact unlocked) (by exact far)]
      rfl
    · dsimp only
      rw [driven_run run, Capstan.phased, judgeLock_near (by exact unlocked) (by exact close)]
      have short : decide (16 ≤ s.capstan.lockCount + 1) = false := by simp; omega
      dsimp only
      rw [short, ← unlocked]
      rfl
    · have full : ((anchored r s).capstan.phased r.time).driven s.motion.mode = { s.capstan with
          timebase := r.time, lastPhase := some (phaseError s.capstan r.time)
          correction := clampInt (-500) 500 ((phaseError s.capstan r.time).tdiv 4), missed := 0, enable := true
          command := s.capstan.vRef + clampInt (-500) 500 ((phaseError s.capstan r.time).tdiv 4), lock := true, lockCount := 16 } := by
        rw [driven_run run, Capstan.phased, judgeLock_near (by exact unlocked) (by exact close)]
        dsimp only
        rw [count]
        rfl
      refine ⟨_, (readRows running r _ read).2.trans (congrArg _ (if_pos ⟨unlocked, ?_⟩)), only, live, full⟩
      dsimp only
      rw [full]
  · have read := exec_addressRead running r
    rw [addressRead_agrees good loaded calm small allFirm] at read
    have live : liveAnchor (placeAnchor (readAnchor r) s.tracker.map) = some (readAnchor r) := placeAnchor_live map rfl
    have quality : quality (anchored r s) = .locked := by
      have still : mag (s.tracker.counter - r.latched) ≤ 300 := by rw [here]; simp [mag]
      unfold Machine.quality
      rw [live]
      exact if_pos still
    have conditions : MonitorConditions (anchored r s) := ⟨run, locked, quality, by simp [InGuard, zones]⟩
    refine ⟨_, read, ?_, fun closed single free block => ?_, fun on single ahead block => ?_⟩
    · refine ⟨by simp, by simp, fun b hb => ?_⟩
      cases b <;> simp at hb <;> simp [kept]
    · rw [block, blockEdge_opens (s := anchored r s) ⟨closed, silent, off⟩ single zones
        ⟨run, locked, quality, off, .inr ⟨permit, free⟩⟩ mark]
      rw [phaseEvent_keeps (by exact run) (by exact locked) (by exact near)
        (by exact fun _ => ⟨conditions, permit, by simp [State.onPunch], by simp [State.onPunch]⟩) (by exact silent) (by exact off)]
      rfl
    · rw [block, blockEdge_closes (s := anchored r s) run off silent single on mark out (block ▸ ahead), phaseEvent_run _ (by exact run),
        gateGuard_of_noRecording ⟨by simp [GateOn, State.onPunch, raise, State.onLink], by exact silent, by exact off⟩]
      exact ⟨rfl, rfl⟩

end Sys2Proof.Machine
end

section
/-!
RetiredMarksGone: a retired mark leaves no armed entry and no locate, in progress or held, and RETIRE REEL leaves none of the
tag's marks that the requester may change (R43, R44, R84, R85, R162).
-/

namespace Sys2Proof.Machine

open Sys2Proof.Safety

/-! ## Entries after a removal (R162) -/

/-- Every entry of `t` has the marks of an entry of `s`. -/
def Drawn (s t : State) : Prop := ∀ f ∈ t.punch.entries, ∃ e ∈ s.punch.entries, e.key = f.key

section
variable {s t u : State}

theorem Drawn.trans (h : Drawn s t) (k : Drawn t u) : Drawn s u := fun f hf => by
  obtain ⟨e, he, same⟩ := k f hf
  obtain ⟨d, hd, same'⟩ := h e he
  exact ⟨d, hd, same'.trans same⟩

theorem Drawn.of_entries (h : t.punch.entries = s.punch.entries) : Drawn s t := fun f hf => ⟨f, h ▸ hf, rfl⟩

theorem Drawn.refl (s : State) : Drawn s s := .of_entries rfl

theorem Drawn.foldl {α : Type} {f : State → α → State} (h : ∀ s a, Drawn s (f s a)) (l : List α) (s : State) : Drawn s (l.foldl f s) := by
  induction l generalizing s with
  | nil => exact .refl s
  | cons a r ih => exact (h s a).trans (ih _)

theorem drawn_ite {p : Prop} [Decidable p] (h : Drawn s t) (k : Drawn s u) : Drawn s (if p then t else u) := by
  split
  · exact h
  · exact k

theorem Drawn.of_filter {q : Entry → Bool} (h : t.punch.entries = s.punch.entries.filter q) : Drawn s t := fun f hf =>
  ⟨f, (List.mem_filter.mp (h ▸ hf)).1, rfl⟩

theorem Drawn.of_put {e : Entry} (he : e ∈ s.punch.entries) (x : EntryState)
    (h : t.punch.entries = putEntry { e with state := x } s.punch.entries) : Drawn s t := fun f hf => by
  obtain ⟨d, hd, rfl⟩ := List.mem_map.mp (h ▸ hf)
  split
  · exact ⟨e, he, rfl⟩
  · exact ⟨d, hd, rfl⟩

/-- What holds of the marks of every entry goes on holding. -/
theorem Drawn.absent (h : Drawn s t) {q : Nat × Nat → Prop} (k : ∀ e ∈ s.punch.entries, q e.key) : ∀ f ∈ t.punch.entries, q f.key := by
  intro f hf
  obtain ⟨e, he, same⟩ := h f hf
  exact same ▸ k e he

end

section
variable (s : State)

theorem completeEntry_drawn {e : Entry} (he : e ∈ s.punch.entries) (r : PunchResult) (x y : Option Addr) :
    Drawn s (completeEntry e r x y s) := .of_put he _ rfl

theorem endActive_drawn (b : Bool) : Drawn s (endActive b s) := by
  unfold endActive
  split
  next e found =>
    split
    · exact drawn_ite (completeEntry_drawn s (activeEntry_spec found).1 _ _ _) (.refl s)
    · exact .refl s
  · exact .refl s

theorem dropGates_drawn : Drawn s (dropGates s) :=
  ((Drawn.of_entries (closeGates_entries s 0)).trans (endActive_drawn _ _)).trans (.of_entries rfl)

theorem dropMonitors_drawn : Drawn s (dropMonitors s) :=
  (Drawn.of_entries (closeMonitors_entries s 0)).trans (endActive_drawn _ _)

theorem abortActive_drawn : Drawn s (abortActive s) := (drawn_ite (dropGates_drawn s) (.refl s)).trans (dropMonitors_drawn _)

theorem dropPending_drawn : Drawn s (dropPending s) := by
  unfold dropPending
  split
  · exact drawn_ite (.of_entries rfl) (.refl s)
  · exact .refl s

theorem gateGuard_drawn : Drawn s (gateGuard s) :=
  ((drawn_ite (dropGates_drawn s) (.refl s)).trans (drawn_ite (dropMonitors_drawn _) (.refl _))).trans (dropPending_drawn _)

theorem judgeEntry_drawn (n : Nat) : Drawn s (judgeEntry s n) := by
  unfold judgeEntry
  split
  next e found =>
    have here := (entryFor_spec found).1
    split
    · exact drawn_ite (completeEntry_drawn s here _ _ _) (.refl s)
    · exact drawn_ite (abortActive_drawn s) (.of_put here _ rfl)
    · exact .refl s
  · exact .refl s

theorem reformManual_drawn : Drawn s (reformManual s) := by
  unfold reformManual
  split
  · exact .of_entries rfl
  · exact .of_entries rfl
  · exact .refl s

theorem guardReact_drawn : Drawn s (guardReact s) :=
  (((Drawn.of_entries rfl).trans (Drawn.foldl judgeEntry_drawn _ (recomputeZones s))).trans (reformManual_drawn _)).trans
    (gateGuard_drawn _)

theorem dropOverlapping_drawn (n : Nat) : Drawn s (dropOverlapping s n) := by
  unfold dropOverlapping
  split
  · exact drawn_ite (.of_filter rfl) (.refl s)
  · exact .refl s

theorem moveEntries_drawn (moved : List Nat) : Drawn s (moveEntries moved s) := by
  unfold moveEntries
  dsimp only
  generalize (orderEntries s _).map Entry.inMark = keys
  refine drawn_ite ((Drawn.foldl dropOverlapping_drawn keys s).trans fun f hf => ?_) (.refl s)
  obtain ⟨e, he, rfl⟩ := List.mem_map.mp ((sortByKey_perm _).mem_iff.mp hf)
  split
  · exact ⟨e, he, by simp [Entry.key, restage_keys]⟩
  · exact ⟨e, he, rfl⟩

theorem removeEntry_drawn (n : Nat) : Drawn s (removeEntry n s) :=
  (drawn_ite (abortActive_drawn s) (.refl s)).trans (.of_filter rfl)

theorem removeEntriesOf_drawn (n : Nat) : Drawn s (removeEntriesOf s n) := Drawn.foldl (fun s k => removeEntry_drawn s k) _ s

theorem foldl_removeEntry_absent (l : List Nat) : ∀ n ∈ l, ∀ e ∈ (l.foldl (fun s k => removeEntry k s) s).punch.entries, e.inMark ≠ n := by
  induction l generalizing s with
  | nil => simp
  | cons k r ih =>
    intro n hn
    rcases List.mem_cons.mp hn with rfl | hn
    · exact (Drawn.foldl (fun s k => removeEntry_drawn s k) r (removeEntry n s)).absent (q := fun x => x.1 ≠ n) (removeEntry_gone n s)
    · exact ih _ n hn

/-- The entries of a mark are gone, also from a list with an in-mark twice. -/
theorem removeEntriesOf_absent (n : Nat) : ∀ e ∈ (removeEntriesOf s n).punch.entries, e.inMark ≠ n ∧ e.outMark ≠ n := by
  intro e he
  by_contra touched
  obtain ⟨f, hf, same⟩ := removeEntriesOf_drawn s n e he
  simp only [Entry.key, Prod.mk.injEq] at same
  refine foldl_removeEntry_absent s _ e.inMark ?_ e he rfl
  refine List.mem_map.mpr ⟨f, List.mem_filter.mpr ⟨hf, ?_⟩, same.1⟩
  rw [decide_eq_true_iff, same.1, same.2]
  tauto

/-- After the reports of a step no entry has a mark whose pair they remove. -/
theorem reportToPunch_absent {rs : List Report} {n : Nat} {c : Change} (named : ({ mark := n, change := c } : Report) ∈ rs)
    (removes : c.Removes) : ∀ e ∈ (reportToPunch rs s).punch.entries, e.inMark ≠ n ∧ e.outMark ≠ n := by
  have listed : n ∈ (rs.filter fun r => r.change.Removes).map Report.mark :=
    List.mem_map.mpr ⟨_, List.mem_filter.mpr ⟨named, decide_eq_true removes⟩, rfl⟩
  obtain ⟨before, after, split⟩ := List.append_of_mem listed
  have gone : ∀ e ∈ (((rs.filter fun r => r.change.Removes).map Report.mark).foldl removeEntriesOf s).punch.entries,
      e.inMark ≠ n ∧ e.outMark ≠ n := by
    rw [split, List.foldl_append, List.foldl_cons]
    exact (Drawn.foldl removeEntriesOf_drawn after _).absent (q := fun x => x.1 ≠ n ∧ x.2 ≠ n) (removeEntriesOf_absent _ n)
  exact ((moveEntries_drawn _ _).trans (guardReact_drawn _)).absent (q := fun x => x.1 ≠ n ∧ x.2 ≠ n) gone

end

/-! ## A retired mark at the Motion Controller (R84, R85) -/

section
variable {n : Nat} {s : State}

/-- A report that neither moves nor loses a target is none of the Motion Controller's. -/
theorem reportToMotion_of_neither {r : Report} (still : ¬ r.change.Moves) (keeps : ¬ r.change.Loses) : reportToMotion s r = s := by
  have locate : reportToLocate r s = s := by
    unfold reportToLocate
    split
    · rw [if_neg still, if_neg keeps, ite_self]
    · rfl
  rw [reportToMotion, locate]
  unfold reportToHeld
  split
  · rw [if_neg still, if_neg keeps, ite_self]
  · rfl

theorem foldl_reportToMotion_unlinkReports (n : Nat) (s u : State) : (unlinkReports n s).foldl reportToMotion u = u := by
  unfold unlinkReports
  split
  · rw [List.foldl_cons, List.foldl_cons, List.foldl_nil, reportToMotion_of_neither (by simp) (by simp),
      reportToMotion_of_neither (by simp) (by simp)]
  · rfl

/-- One mark retired: the Motion Controller hears of it once, then the Punch Unit. -/
theorem retireMarks_one (n : Nat) (s : State) : retireMarks [n] s =
    reportToPunch ({ mark := n, change := .retired } :: unlinkReports n s)
      (reportToMotion (freeSlot n s) { mark := n, change := .retired }) := by
  simp only [retireMarks, List.foldl_cons, List.foldl_nil, retireOne, List.nil_append]
  rw [deliver, if_neg (by simp), List.foldl_cons, foldl_reportToMotion_unlinkReports]

theorem markAt_freeSlot (n : Nat) (s : State) : markAt (freeSlot n s) n = none := by
  rw [freeSlot_eq]
  exact (slotGet_freedTable n n s.marks).trans (if_pos rfl)

theorem retireMarks_free (n : Nat) (s : State) : slotGet n (retireMarks [n] s).marks = none := by
  rw [retireMarks_one, (reportToPunch_frame _ _).2.1, (reportToMotion_frame _ _).2.1]
  exact markAt_freeSlot n _

theorem freeSlot_motion (n : Nat) (s : State) : (freeSlot n s).motion = s.motion := by rw [freeSlot_eq]; rfl

theorem reportToLocate_retired_loc : (reportToLocate { mark := n, change := .retired } s).motion.loc.map LocCtx.target ≠ some (.mark n) := by
  unfold reportToLocate
  split
  next c loc =>
    split
    · rw [if_neg (by simp), if_pos (.inl rfl), endLocate_of_some loc]
      simp [enterStopping, Motion.entering]
    next other =>
      rw [loc]
      simpa using other
  next loc =>
    rw [loc]
    simp

theorem reportToHeld_retired (n : Nat) (s : State) : (reportToHeld { mark := n, change := .retired } s).motion.loc = s.motion.loc ∧
    ∀ c, (reportToHeld { mark := n, change := .retired } s).motion.held = some (.locate c) → c.target ≠ .mark n := by
  unfold reportToHeld
  split
  next d held =>
    split
    · rw [if_neg (by simp), if_pos (.inl rfl)]
      exact ⟨dropHeld_loc _ _, fun c h => by rw [dropHeld_held] at h; cases h⟩
    next other =>
      refine ⟨rfl, fun c h => ?_⟩
      rw [held] at h
      cases h
      exact other
  next away => exact ⟨rfl, fun c h => absurd h (away c)⟩

/-- A held LOCATE to the mark is dropped with its record. -/
theorem reportToMotion_retired_held {c : LocCtx} (loc : s.motion.loc = none) (held : s.motion.held = some (.locate c))
    (target : c.target = .mark n) : reportToMotion s { mark := n, change := .retired } =
    raise .locateDone (s.onMotion fun x => { x with result := some (locResult .targetLost c s), held := none }) := by
  have locate : reportToLocate { mark := n, change := .retired } s = s := by rw [reportToLocate, loc]
  rw [reportToMotion, locate, reportToHeld, held]
  dsimp only
  rw [if_pos target, if_neg (by simp), if_pos (.inl rfl), dropHeld, held]
  rfl

end

/-! ## The table after RETIRE REEL (R44) -/

theorem foldl_retireTable_fst (ns : List Nat) (acc : MarkTable × List Report) :
    (ns.foldl retireTable acc).1 = ns.foldl (fun t k => freedTable k t) acc.1 := by
  induction ns generalizing acc with
  | nil => rfl
  | cons n r ih => exact ih _

theorem retireMarks_marks (ns : List Nat) (s : State) : (retireMarks ns s).marks = ns.foldl (fun t k => freedTable k t) s.marks := by
  unfold retireMarks
  have fold := foldl_retireOne_eq s ns (s.marks, [])
  change ns.foldl retireOne (s, []) = _ at fold
  rw [fold, (deliver_frame _ _).2.1]
  exact foldl_retireTable_fst ns _

/-- Settles O56: the slot freed, then the reports at the Motion Controller and at the Punch Unit. -/
theorem retiredMarksGone : Obligations.RetiredMarksGone := by
  intro h n m tag s form
  refine ⟨fun hears low high mark own => ?_, fun hears => ?_⟩
  · have checked : checkMark n h.station (disregarding s) = .ok m := checkMark_passed (s := disregarding s) low high mark own
    have taken : reqMarkRetire n (asker (.markRetire h n)) (disregarding s) = (.okWith (n1 n), retireMarks [n] (disregarding s)) :=
      reqMarkRetire_taken checked
    refine ⟨_, exec_answered hears nofun taken (retireMarks_line _ _), ?_, ?_, fun c held => ?_, ?_, fun c held target context => ?_⟩
    · change slotGet n (retireMarks [n] (disregarding s)).marks = none
      exact retireMarks_free n _
    · dsimp only
      rw [retireMarks_one, (reportToPunch_frame _ _).2.2.1, reportToMotion, (reportToHeld_retired n _).1]
      exact reportToLocate_retired_loc
    · dsimp only at held
      rw [retireMarks_one, (reportToPunch_frame _ _).2.2.1] at held
      exact (reportToHeld_retired n _).2 c held
    · dsimp only
      rw [retireMarks_one]
      exact reportToPunch_absent _ List.mem_cons_self (.inr (.inl rfl))
    · have loc : s.motion.loc = none := by
        by_contra located
        have mode := context.2 (by simp [held])
        have locate := context.1 located
        rw [mode] at locate
        cases locate
      have moved := reportToMotion_retired_held (n := n) (s := freeSlot n (disregarding s)) (by rw [freeSlot_motion]; exact loc)
        (by rw [freeSlot_motion]; exact held) target
      dsimp only
      rw [retireMarks_one, (reportToPunch_frame _ _).2.2.1, moved]
      refine ⟨?_, reportToPunch_latches _ _ _ (raised_latched .locateDone _)⟩
      rw [freeSlot_eq, locResult, target]
      rfl
  · refine ⟨_, exec_answered (t := retireMarks (reelMarks tag h.station s) (disregarding s)) hears nofun (r := .okWith _) rfl
      (retireMarks_line _ _), ?_⟩
    dsimp only
    rw [retireMarks_marks]
    intro p hp
    have formed := foldl_freedTable_formed (ks := reelMarks tag h.station s) (formed_of_tableForm form)
    obtain ⟨away, q, x, hx, same⟩ := foldl_freedTable_origin ((slotGet_iff_mem formed.1).mpr hp)
    by_contra left
    simp only [same, not_or] at left
    obtain ⟨slot, kind, locked⟩ := left
    exact away (List.mem_map.mpr ⟨(p.1, x), List.mem_filter.mpr ⟨slotGet_mem hx, decide_eq_true ⟨slot, not_not.mp kind, locked⟩⟩, rfl⟩)

end Sys2Proof.Machine
end

section
/-!
MarkChangesFollowed, its locates: a locate whose mark moves or is retired, a locate that the update finds too far from its
target, and an address target expressed again at identification (R82, R83, R85 to R87, R97).
-/

namespace Sys2Proof.Machine

open Sys2Proof.Safety

/-! ## The target judged against the phase (R87) -/

section
variable {s : State} {c : LocCtx} {p : LocPhase}

/-- The card in APPROACH, no settle test made yet. -/
abbrev approaching (c : LocCtx) (s : State) : State := { s with
  motion := { s.motion with
    mode := .locate .approach, pinchIn := false, brakesOn := false, still := 0, loc := some c.begun }
  capstan := { s.capstan with enable := true, command := s.capstan.vRef } }

theorem toApproach_from (c : LocCtx) (mode : s.motion.mode = .locate p) : toApproach c s = approaching c s := by
  rw [toApproach, enterMode_from (m₀ := .locate p) (by exact mode) (by simp) (by simp)]
  rfl

theorem judgeTarget_first (mode : s.motion.mode = .locate p) (first : p = .search ∨ p = .run) : judgeTarget c s = setLoc c s := by
  rcases first with rfl | rfl <;> simp only [judgeTarget, mode]

theorem judgeTarget_far (mode : s.motion.mode = .locate p) (late : p = .approach ∨ p = .creep ∨ p = .hold)
    (far : c.approach < distance s c) : judgeTarget c s = inLocateRun c s := by
  rw [← toLocateRun_from c mode]
  rcases late with rfl | rfl | rfl <;> simp only [judgeTarget, mode, far, if_true]

theorem judgeTarget_mid (mode : s.motion.mode = .locate p) (late : p = .creep ∨ p = .hold) (off : 100 < distance s c)
    (near : distance s c ≤ c.approach) : judgeTarget c s = approaching c s := by
  have within : ¬ c.approach < distance s c := Int.not_lt.mpr near
  rw [← toApproach_from c mode]
  rcases late with rfl | rfl <;> simp only [judgeTarget, mode, within, off, if_true, if_false]

theorem judgeTarget_unlatches (mode : s.motion.mode = .locate .approach) (off : 100 < distance s c) (near : distance s c ≤ c.approach) :
    judgeTarget c s = setLoc { c with latch := false } s := by
  have within : ¬ c.approach < distance s c := Int.not_lt.mpr near
  simp only [judgeTarget, mode, within, off, if_true, if_false]

theorem judgeTarget_stays (mode : s.motion.mode = .locate p) (late : p = .approach ∨ p = .creep ∨ p = .hold)
    (there : distance s c ≤ 100) (wide : 100 ≤ c.approach) : judgeTarget c s = setLoc c s := by
  have within : ¬ c.approach < distance s c := by omega
  have close : ¬ 100 < distance s c := Int.not_lt.mpr there
  rcases late with rfl | rfl | rfl <;> simp only [judgeTarget, mode, within, close, if_false]

/-! ## A mark of the locate moved (R85) -/

theorem reportToMotion_moved {n : Nat} (loc : s.motion.loc = some c) (target : c.target = .mark n)
    (held : (judgeTarget (formTarget s c) s).motion.held = none) :
    reportToMotion s { mark := n, change := .address } = judgeTarget (formTarget s c) s := by
  have locate : reportToLocate { mark := n, change := .address } s = judgeTarget (formTarget s c) s := by
    rw [reportToLocate, loc]
    dsimp only
    rw [if_pos target, if_pos (.inl rfl)]
  rw [reportToMotion, locate, reportToHeld, held]

/-- The change of a mark's address with only the locate to hear of it. -/
theorem deliver_moved {n : Nat} {u : State} (loc : s.motion.loc = some c) (target : c.target = .mark n)
    (judged : judgeTarget (formTarget s c) s = u) (held : u.motion.held = none) (empty : u.punch.entries = []) (quiet : NoRecording u) :
    deliver [{ mark := n, change := .address }] s = recomputeZones u := by
  rw [deliver, if_neg (by simp), List.foldl_cons, List.foldl_nil, reportToMotion_moved loc target (by rw [judged]; exact held), judged,
    reportToPunch_of_empty empty quiet]

/-- The target that a mark gives once it stands FIRM at an address. -/
theorem formTarget_firm {n : Nat} {m : Mark} (target : c.target = .mark n) (mark : markAt s n = some m) (precise : m.spread = none) :
    formTarget s c = { c with
      targetTick := clampInt 0 ((((activeProfile s).nominal : Int) - 1) * 100) (tickOf m.addr (spb s) - c.preroll * 100)
      approach := 30000 } := by
  have base : targetBase s c.target = tickOf m.addr (spb s) := by rw [target, targetBase, markTick, mark]; rfl
  have near : approachDistance s c.target = 30000 := by
    rw [target, approachDistance, mark]
    simp [spreadOf, precise]
  rw [formTarget, targetTick, rawTarget, targetTop, base, near]

/-! ## The mark retired (R85) -/

theorem reportToMotion_retired_loc {n : Nat} (loc : s.motion.loc = some c) (target : c.target = .mark n) (held : s.motion.held = none) :
    reportToMotion s { mark := n, change := .retired } = enterStopping .normal (endLocate .targetLost s) := by
  have locate : reportToLocate { mark := n, change := .retired } s = enterStopping .normal (endLocate .targetLost s) := by
    rw [reportToLocate, loc]
    dsimp only
    rw [if_pos target, if_neg (by simp), if_pos (.inl rfl)]
  have held' : (enterStopping .normal (endLocate .targetLost s)).motion.held = none := by
    rw [endLocate_of_some loc]
    simp [enterStopping, Motion.entering, held]
  rw [reportToMotion, locate, reportToHeld, held']

/-! ## An update far from the target (R83, R97) -/

/-- A locate notes the direction in which the transport leaves the update. -/
theorem formSpeed_noted (mode : s.motion.mode = .locate p) (loc : s.motion.loc = some c) :
    ∀ x ∈ signDir (formSpeed s).motion.vCmd, (formSpeed s).motion.loc.map LocCtx.lastDir = some (some x) := by
  have noted {u : State} {d : LocCtx} (mode : u.motion.mode = .locate p) (loc : u.motion.loc = some d) :
      ∀ x ∈ signDir u.motion.vCmd, (noteDirection u).motion.loc.map LocCtx.lastDir = some (some x) := by
    intro x hx
    have turning : u.motion.vCmd ≠ 0 := fun zero => by simp [zero, signDir] at hx
    have going : travel u = some x := by
      rw [travel, mode, if_neg (by simp), directionOf, if_neg turning]
      exact hx
    unfold noteDirection
    simp only [mode, loc, going]
    rfl
  obtain ⟨d, first⟩ : ∃ d, (noteDirection s).motion.loc = some d := by
    have kept := noteDirection_loc (s := s) none
    rw [loc] at kept
    exact (Option.map_eq_some_iff.mp kept).imp fun _ h => h.1
  have mode' : (noteDirection s).motion.mode = .locate p := by
    obtain ⟨l, only⟩ := noteDirection_eq s
    rw [only]
    exact mode
  have after := noted (u := (noteDirection s).onMotion fun x => { x with vCmd := nextSpeed s }) mode' first
  rw [formSpeed, lowerLifters_eq]
  obtain ⟨l, only⟩ := noteDirection_eq ((noteDirection s).onMotion fun x => { x with vCmd := nextSpeed s })
  intro x hx
  refine after x ?_
  rw [only] at hx
  exact hx

/-- An update in APPROACH, CREEP or HOLD beyond the approach distance goes back to RUN. -/
theorem profileUpdate_recedes (loc : s.motion.loc = some c) (mode : s.motion.mode = .locate p)
    (late : p = .approach ∨ p = .creep ∨ p = .hold) (far : c.approach < distance s c) (tape : s.scanner.optical = .opaqueTape) :
    ∃ v l, profileUpdate s = { inLocateRun c s with
        motion := { (inLocateRun c s).motion with vCmd := v, leader := none, loc := l } } ∧
      (l.map fun x => { x with lastDir := none }) = some { c.begun with lastDir := none } ∧
      ∀ x ∈ signDir v, l.map LocCtx.lastDir = some (some x) := by
  have phases := phaseTests_recedes loc (.inl ⟨by rw [mode]; simpa using late, far⟩)
  have turned : (inLocateRun c s).motion.mode ≠ s.motion.mode := by
    rw [mode]
    rcases late with rfl | rfl | rfl <;> simp
  obtain ⟨v, b, l, part, kept, up⟩ := formedSpeed_frame (s := inLocateRun c s) tape
  have noted := formSpeed_noted (s := inLocateRun c s) rfl rfl
  rw [tapeEnd_of_opaque (by simpa using tape)] at part
  have speed : (formSpeed (inLocateRun c s)).motion.vCmd = v := congrArg (fun t => t.motion.vCmd) part
  have context : (formSpeed (inLocateRun c s)).motion.loc = l := congrArg (fun t => t.motion.loc) part
  rw [speed, context] at noted
  refine ⟨v, l, ?_, kept none, noted⟩
  have moving : speedPart s = { inLocateRun c s with
      motion := { (inLocateRun c s).motion with vCmd := v, leader := none, loc := l } } := by
    rw [speedPart, phases, tapeEnd_of_opaque (by simpa using tape), part, up (by simp [Mode.liftersRow])]
  unfold profileUpdate
  dsimp only
  rw [moving, if_neg (by exact turned), lowerLifters_of_row (by simp [Mode.liftersRow])]

/-- The mark of a locate in progress retired: the locate ends TARGET_LOST in a normal stop. -/
theorem retireMarks_target {n : Nat} (loc : s.motion.loc = some c) (target : c.target = .mark n) (held : s.motion.held = none) :
    (retireMarks [n] s).motion = { s.motion.entering (.stopping .normal) with
      loc := none, still := 0, result := some (locResult .targetLost c s) } ∧ Latched .locateDone (retireMarks [n] s) := by
  have located : (freeSlot n s).motion.loc = some c := by rw [freeSlot_motion]; exact loc
  have ended := reportToMotion_retired_loc (n := n) located target (by rw [freeSlot_motion]; exact held)
  rw [retireMarks_one, ended, endLocate_of_some located]
  refine ⟨?_, (enterStopping_latches _ _).trans (reportToPunch_latches _ _) _ (raised_latched .locateDone _)⟩
  rw [(reportToPunch_frame _ _).2.2.1, enterStopping, State.onMotion_motion, enterMode_motion, freeSlot_eq]
  rfl

end

/-- R85: MARK MOVE of a locate's mark, every phase. -/
theorem locateMark_moved {h : Hdr} {n : Nat} {a : Addr} {c : LocCtx} {m : Mark} {s : State} (loc : s.motion.loc = some c)
    (hears : Hears (.markMove h n a) s) (low : 1 ≤ n) (high : n ≤ 99) (target : c.target = .mark n)
    (empty : s.punch.entries = []) (mark : markAt s n = some m) (own : m.locked = false ∨ m.owner = h.station)
    (current : m.tag = loadedTag s) (alone : m.partner = none) (block : a.block ≤ 1048575) (sample : a.sample < spb s)
    {c' : LocCtx} (formed : c' = { c with
      targetTick := clampInt 0 ((((activeProfile s).nominal : Int) - 1) * 100) (tickOf a (spb s) - c.preroll * 100), approach := 30000 })
    {u : State} (judged : judgeTarget c' (setMark n { m with addr := a, standing := .firm, spread := none } (disregarding s)) = u)
    (held : u.motion.held = none) (entries : u.punch.entries = []) (quiet : NoRecording u) (link : u.link = (disregarding s).link) :
    exec (.markMove h n a) s = .next { recomputeZones u with
      link := answered (.markMove h n a) .ok (n1 n ++ n1 1 ++ addrField a) s } := by
  have checked : checkMark n h.station (disregarding s) = .ok m := checkMark_passed (s := disregarding s) low high mark own
  have taken := reqMarkMove_taken (s := disregarding s) (ctx := asker (.markMove h n a)) checked (not_inUse_of_empty empty n) current
    (addr_in (s := disregarding s) block sample) (by simp [PairHolds, alone])
  have placed : markAt (setMark n { m with addr := a, standing := .firm, spread := none } (disregarding s)) n =
      some { m with addr := a, standing := .firm, spread := none } := slotGet_slotPut_same _ _ _
  have aimed : formTarget (setMark n { m with addr := a, standing := .firm, spread := none } (disregarding s)) c = c' :=
    (formTarget_firm target placed rfl).trans formed.symm
  rw [deliver_moved (by exact loc) target (by rw [aimed]; exact judged) held entries quiet] at taken
  exact exec_silent (r := .okWith _) hears nofun taken link

/-! ## An address target at identification (R86) -/

section
variable {s : State} {c : LocCtx} {a : Addr}

theorem identifyTarget_search (mode : s.motion.mode = .locate .search) (loc : s.motion.loc = some c) (target : c.target = .address a)
    (held : s.motion.held = none) : identifyTarget s = setLoc (formTarget s { c with target := clampTarget s c.target }) s := by
  unfold identifyTarget
  simp only [loc, target, Target.isAddress, if_true]
  rw [judgeTarget_first mode (.inl rfl)]
  simp only [setLoc, State.onMotion, held]

/-- The context of an address target on a 44.1 kHz reel, its sample clamped. -/
abbrev expressedAgain (s : State) (c : LocCtx) (a : Addr) : LocCtx := { c with
  target := .address { block := a.block, sample := min a.sample 440 }, approach := 30000
  targetTick := clampInt 0 ((((activeProfile s).nominal : Int) - 1) * 100)
    ((a.block : Int) * 100 + (min a.sample 440 : Nat) * 100 / 441 - c.preroll * 100) }

theorem formTarget_clamped (rate : spb s = 441) (target : c.target = .address a) :
    formTarget s { c with target := clampTarget s c.target } = expressedAgain s c a := by
  have clamped : clampTarget s c.target = .address { block := a.block, sample := min a.sample 440 } := by
    rw [target, clampTarget]
    split
    next high => rw [Nat.min_eq_right (by omega)]
    next low =>
      have kept : min a.sample 440 = a.sample := Nat.min_eq_left (by simp only [rate, true_and] at low; omega)
      rw [kept]
  rw [formTarget, clamped]
  simp only [targetTick, rawTarget, targetBase, targetTop, tickOf, rate, approachDistance]
  rfl

/-- A 44.1 kHz reel adopted during a search for an address. -/
theorem adoptReel_searching {id : ReelId} (bare : s.marks = []) (mode : s.motion.mode = .locate .search)
    (loc : s.motion.loc = some c) (target : c.target = .address a) (held : s.motion.held = none) (rate : id.rate = .r44100)
    (internal : s.capstan.refState = .internal) : adoptReel id s = { s with
      tracker := { s.tracker with loaded := some id, candidate := none }
      motion := { s.motion with loc := some (expressedAgain s c a) }
      link := raised .reelIdentified s.link } := by
  have slow : spb (s.onTracker fun t => { t with loaded := some id, candidate := none }) = 441 := by
    simp [spb, Tracker.spb, State.onTracker, rate, Rate.spb]
  unfold adoptReel
  dsimp only
  rw [claim_nil _ (by exact bare), identifyTarget_search (by exact mode) (by exact loc) target (by exact held),
    formTarget_clamped slow target]
  split
  · rw [spbChanged, if_pos (by exact internal)]
    rfl
  · rfl

end

end Sys2Proof.Machine
end

section
/-!
MarkChangesFollowed, its guard zones: what a new guard mark does to the one entry of the list (R150, R151, R159, R161).
-/

namespace Sys2Proof.Machine

open Sys2Proof.Safety

/-! ## The lowest low bound ahead (R161) -/

theorem foldl_lowest (t top : Int) (zones : List Zone) (acc : Option Int) :
    zones.foldl
      (fun acc z =>
        if t < z.low ∧ (∀ h ∈ some top, z.low ≤ h) then
          match acc with
          | none => some z.low
          | some a => some (min a z.low)
        else acc)
      acc =
    (acc.toList ++ (zones.filter fun z => t < z.low ∧ z.low ≤ top).map Zone.low).min? := by
  induction zones generalizing acc with
  | nil => cases acc <;> rfl
  | cons z r ih =>
    rw [List.foldl_cons, ih]
    by_cases ahead : t < z.low ∧ z.low ≤ top
    · have ahead' : t < z.low ∧ ∀ h ∈ some top, z.low ≤ h := ⟨ahead.1, fun h hh => Option.some.inj hh ▸ ahead.2⟩
      rw [if_pos ahead', List.filter_cons_of_pos (by simpa using ahead)]
      cases acc <;> rfl
    · have ahead' : ¬ (t < z.low ∧ ∀ h ∈ some top, z.low ≤ h) := fun h => ahead ⟨h.1, h.2 top rfl⟩
      rw [if_neg ahead', List.filter_cons_of_neg (by simpa using ahead)]

/-- The lowest of the low bounds ahead, up to the top of the range. -/
theorem lowestAbove_eq_min? (zones : List Zone) (t top : Int) : lowestAbove zones t (some top) =
    ((zones.filter fun z => t < z.low ∧ z.low ≤ top).map Zone.low).min? := foldl_lowest t top zones none

theorem lowestAbove_eq_none {zones : List Zone} {t top : Int} (h : lowestAbove zones t (some top) = none) :
    ∀ z ∈ zones, ¬ (t < z.low ∧ z.low ≤ top) := by
  rw [lowestAbove_eq_min?, List.min?_eq_none_iff, List.map_eq_nil_iff] at h
  simpa using List.filter_eq_nil_iff.mp h

theorem lowestAbove_eq_some {zones : List Zone} {t top x : Int} (h : lowestAbove zones t (some top) = some x) :
    (∃ z ∈ zones, (t < z.low ∧ z.low ≤ top) ∧ z.low = x) ∧ ∀ z ∈ zones, t < z.low ∧ z.low ≤ top → x ≤ z.low := by
  rw [lowestAbove_eq_min?, List.min?_eq_some_iff] at h
  obtain ⟨mem, least⟩ := h
  obtain ⟨z, hz, low⟩ := List.mem_map.mp mem
  obtain ⟨here, ahead⟩ := List.mem_filter.mp hz
  exact ⟨⟨z, here, by simpa using ahead, low⟩, fun y hy ahead =>
    least _ (List.mem_map.mpr ⟨y, List.mem_filter.mpr ⟨hy, by simpa using ahead⟩, rfl⟩)⟩

/-! ## The zone set stays through the reactions (R150) -/

section
variable (s : State)

@[simp] theorem endActive_zones (b : Bool) : (endActive b s).punch.zones = s.punch.zones := by
  unfold endActive
  split
  · split
    · split <;> rfl
    · rfl
  · rfl

@[simp] theorem closeGates_zones (n : Nat) : (closeGates n s).punch.zones = s.punch.zones := by
  unfold closeGates
  split <;> rfl

@[simp] theorem closeMonitors_zones (n : Nat) : (closeMonitors n s).punch.zones = s.punch.zones := by
  unfold closeMonitors
  split <;> rfl

@[simp] theorem dropGates_zones : (dropGates s).punch.zones = s.punch.zones := by simp [dropGates, manualOff]

@[simp] theorem dropMonitors_zones : (dropMonitors s).punch.zones = s.punch.zones := by simp [dropMonitors]

@[simp] theorem dropPending_zones : (dropPending s).punch.zones = s.punch.zones := by
  unfold dropPending
  split
  · split <;> rfl
  · rfl

@[simp] theorem gateGuard_zones : (gateGuard s).punch.zones = s.punch.zones := by
  unfold gateGuard
  dsimp only
  rw [dropPending_zones, apply_ite (fun t : State => t.punch.zones), dropMonitors_zones, ite_self,
    apply_ite (fun t : State => t.punch.zones), dropGates_zones, ite_self]

@[simp] theorem abortActive_zones : (abortActive s).punch.zones = s.punch.zones := by
  rw [abortActive, dropMonitors_zones, apply_ite (fun t : State => t.punch.zones), dropGates_zones, ite_self]

@[simp] theorem judgeEntry_zones (n : Nat) : (judgeEntry s n).punch.zones = s.punch.zones := by
  unfold judgeEntry
  split
  · split
    · split <;> rfl
    · split
      · exact abortActive_zones s
      · rfl
    · rfl
  · rfl

@[simp] theorem reformManual_zones : (reformManual s).punch.zones = s.punch.zones := by
  unfold reformManual
  split <;> rfl

/-- After the reaction the zone set is that of the marks. -/
theorem guardReact_zones : (guardReact s).punch.zones = zonesOf s := by
  unfold guardReact
  dsimp only
  rw [gateGuard_zones, reformManual_zones]
  exact foldl_keeps (fun t : State => t.punch.zones) (by simp) _ _

theorem zonesOf_congr {t : State} (marks : t.marks = s.marks) (tracker : t.tracker = s.tracker) : zonesOf t = zonesOf s := by
  have zone (n : Nat) (m : Mark) : zoneOf t n m = zoneOf s n m := by
    simp only [zoneOf, tickValue, spb, markAt, marks, tracker]
  have tag : loadedTag t = loadedTag s := by rw [loadedTag, tracker, loadedTag]
  unfold zonesOf
  rw [marks]
  refine congrArg (List.flatMap · s.marks) (funext fun p => ?_)
  rw [zone]
  exact if_congr (by rw [IsCurrent, tag]) rfl rfl

end

/-! ## The one entry judged against a new set (R151, R161) -/

section
variable {s : State} {e : Entry} {ain : Addr} {late ms : Bool} {st : Stage} {drop : Option Int}
  (single : s.punch.entries = [e]) (off : s.punch.manual = .off)
include single off

omit off in
theorem guardReact_single {t : State} (judged : judgeEntry (recomputeZones s) e.inMark = t) (still : t.punch.manual = .off) :
    guardReact s = gateGuard t := by
  have keys : entryKeys (recomputeZones s) = [e.inMark] := entryKeys_single single
  unfold guardReact
  dsimp only
  rw [keys, List.foldl_cons, List.foldl_nil, judged, reformManual, still]

/-- An armed entry whose range a zone overlaps is GUARDED. -/
theorem guardReact_guards (armed : e.state = .armed st ms) (gates : ¬ GateOn s) (silent : ¬ MonitorOn s)
    (inside : ∃ z ∈ zonesOf s, OverlapsZone (entryIn s e) (entryTop s e) z) : guardReact s = raise .punchDone (s.onPunch fun p => { p with
      zones := zonesOf s, entries := [{ e with state := .complete .guarded none none }]
      last := some (completion e .guarded none none) }) := by
  have judged : judgeEntry (recomputeZones s) e.inMark = raise .punchDone (s.onPunch fun p => { p with
      zones := zonesOf s, entries := [{ e with state := .complete .guarded none none }]
      last := some (completion e .guarded none none) }) := by
    unfold judgeEntry
    rw [entryFor_single (by exact single)]
    dsimp only
    rw [armed]
    dsimp only
    rw [if_pos (by exact inside), completeEntry_single (by exact single)]
    rfl
  rw [guardReact_single single judged off, gateGuard_of_noRecording (by exact ⟨gates, silent, off⟩)]

/-- An armed entry clear of the zones stays as it is. -/
theorem guardReact_passes (armed : e.state = .armed st ms) (gates : ¬ GateOn s) (silent : ¬ MonitorOn s)
    (outside : ¬ ∃ z ∈ zonesOf s, OverlapsZone (entryIn s e) (entryTop s e) z) : guardReact s = recomputeZones s := by
  have judged : judgeEntry (recomputeZones s) e.inMark = recomputeZones s := by
    unfold judgeEntry
    rw [entryFor_single (by exact single)]
    dsimp only
    rw [armed]
    exact if_neg outside
  rw [guardReact_single single judged off, gateGuard_of_noRecording (by exact ⟨gates, silent, off⟩)]

/-- A recording that a zone holds ends ABORTED. -/
theorem guardReact_aborts (active : e.state = .active late drop ain) (recording : e.rehearse = false) (on : GateOn s)
    (silent : ¬ MonitorOn s) (inside : ∃ z ∈ zonesOf s, InZone z (estimate s)) :
    guardReact s = raise .punchDone (s.onPunch fun p => { p with
      zones := zonesOf s, gateA := false, gateB := false, offset := 0
      entries := [{ e with state := .complete .aborted (some ain) (some (placeHere s)) }]
      last := some (completion e .aborted (some ain) (some (placeHere s))) }) := by
  have judged : judgeEntry (recomputeZones s) e.inMark = raise .punchDone (s.onPunch fun p => { p with
      zones := zonesOf s, gateA := false, gateB := false, offset := 0
      entries := [{ e with state := .complete .aborted (some ain) (some (placeHere s)) }]
      last := some (completion e .aborted (some ain) (some (placeHere s))) }) := by
    unfold judgeEntry
    rw [entryFor_single (by exact single)]
    dsimp only
    rw [active]
    dsimp only
    rw [if_pos (by exact inside), abortActive_recording (by exact single) active recording (by exact on) (by exact silent),
      dropGates_single (by exact single) active recording (by exact on), ← off]
    rfl
  rw [guardReact_single single judged off, gateGuard_of_noRecording
    (by exact ⟨by simp [GateOn, State.onPunch, raise, State.onLink], silent, off⟩)]

/-- A recording short of every zone goes on, its drop point formed again. -/
theorem guardReact_redrops (active : e.state = .active late drop ain) (on : GateOn s) (gate : GateLaw s) (silent : ¬ MonitorOn s)
    (outside : ¬ ∃ z ∈ zonesOf s, InZone z (estimate s)) : guardReact s = s.onPunch fun p => { p with
      zones := zonesOf s
      entries := [{ e with state := .active late (lowestAbove (zonesOf s) (estimate s) (some (entryTop s e))) ain }] } := by
  have judged : judgeEntry (recomputeZones s) e.inMark = s.onPunch fun p => { p with
      zones := zonesOf s
      entries := [{ e with state := .active late (lowestAbove (zonesOf s) (estimate s) (some (entryTop s e))) ain }] } := by
    unfold judgeEntry
    rw [entryFor_single (by exact single)]
    dsimp only
    rw [active]
    dsimp only
    rw [if_neg (by exact outside)]
    simp only [recomputeZones, State.onPunch, single, putEntry, List.map_cons, List.map_nil, if_true]
    rfl
  obtain ⟨⟨run, lock, locked, -⟩, lines⟩ := gate on
  rw [guardReact_single single judged off, gateGuard_of_lawful (by exact fun _ => ⟨⟨run, lock, locked, outside⟩, lines⟩)
    (by exact fun h => absurd h silent) (by exact off)]

end

/-! ## A new guard mark heard by the Punch Unit (R48) -/

section
variable {n : Nat} {m : Mark} {s : State} {e : Entry}

theorem markTick_setMark_other {k : Nat} (ne : k ≠ n) : markTick (setMark n m s) k = markTick s k := by
  have same : markAt (setMark n m s) k = markAt s k := slotGet_slotPut_other ne m s.marks
  rw [markTick, same]
  rfl

theorem entryIn_setMark_other (ne : e.inMark ≠ n) : entryIn (setMark n m s) e = entryIn s e := markTick_setMark_other ne

theorem entryOut_setMark_other (ne : e.outMark ≠ n) : entryOut (setMark n m s) e = entryOut s e := markTick_setMark_other ne

/-- A claiming change that touches no entry only moves the zones. -/
theorem deliver_current (loc : s.motion.loc = none) (held : s.motion.held = none)
    (untouched : ∀ e ∈ s.punch.entries, e.inMark ≠ n ∧ e.outMark ≠ n) : deliver [{ mark := n, change := .current }] s = guardReact s := by
  have moved : moveEntries [n] s = s := by
    rw [moveEntries_eq, if_neg]
    rintro ⟨e, he, -, named⟩
    exact named.elim (fun h => (untouched e he).1 (List.mem_singleton.mp h)) fun h => (untouched e he).2 (List.mem_singleton.mp h)
  rw [deliver_of_unlocated (by simp) loc held]
  change guardReact (moveEntries [n] s) = guardReact s
  rw [moved]

/-- MARK SET of a guard mark into a free slot that no entry names. -/
theorem exec_guardMark {h : Hdr} {k : Nat} {a : Addr} (hears : Hears (.markSet h n k a []) s) (kind : k = 3 ∨ k = 4) (low : 1 ≤ n)
    (high : n ≤ 99) (free : markAt s n = none) (block : a.block ≤ 1048575) (sample : a.sample < spb s) (loc : s.motion.loc = none)
    (held : s.motion.held = none) (untouched : ∀ e ∈ s.punch.entries, e.inMark ≠ n ∧ e.outMark ≠ n) : ∃ m ps, m.addr = a ∧
      exec (.markSet h n k a []) s = .next { guardReact (setMark n m (disregarding s)) with
        link := { answered (.markSet h n k a []) .ok ps s with summary := (guardReact (setMark n m (disregarding s))).link.summary } } := by
  obtain ⟨g, guard⟩ : ∃ g, kindOf k = some g := by rcases kind with rfl | rfl <;> exact ⟨_, rfl⟩
  have checked : checkSlot n h.station (disregarding s) = .ok n :=
    checkSlot_passed (s := disregarding s) (.inl free) (.inl ⟨rfl, low, high⟩)
  have taken := reqMarkSet_taken (s := disregarding s) (ctx := asker (.markSet h n k a [])) (l := []) checked guard (by simp [PlainLabel])
    (addr_in (s := disregarding s) block sample)
  have written (m : Mark) : writeMark n m (disregarding s) = guardReact (setMark n m (disregarding s)) := by
    unfold writeMark
    rw [show markAt (disregarding s) n = none from free]
    exact deliver_current (s := setMark n m (disregarding s)) loc held untouched
  rw [written] at taken
  exact ⟨_, _, rfl, exec_answered (r := .okWith _) hears nofun taken (guardReact_line (setMark n _ (disregarding s)))⟩

end

end Sys2Proof.Machine
end

section
/-!
MarkChangesFollowed, its armed entries: an in-mark moved, its entry taken out where its range overlaps the other's, and put in
its place with a fresh stage otherwise (R152, R160).
-/

namespace Sys2Proof.Machine

open Sys2Proof.Safety

/-! ## Nothing for the zones to react to (R150) -/

section
variable {s : State}

theorem zonesOf_of_plain (plain : ∀ q ∈ s.marks, q.2.kind ≠ .guardStart ∧ q.2.kind ≠ .guardEnd) : zonesOf s = [] := by
  rw [zonesOf, List.flatMap_eq_nil_iff]
  intro q hq
  obtain ⟨start, stop⟩ := plain q hq
  split
  · unfold zoneOf
    split
    next kind => exact absurd kind start
    next kind => exact absurd kind stop
    · rfl
  · rfl

theorem judgeEntry_of_clear (clear : s.punch.zones = []) (idle : ∀ e ∈ s.punch.entries, e.isActive = false) (n : Nat) :
    judgeEntry s n = s := by
  unfold judgeEntry
  split
  next e found =>
    split
    · exact if_neg (by simp [OverlapsGuard, clear])
    next active =>
      have idle := idle e (entryFor_spec found).1
      rw [Entry.isActive, active] at idle
      cases idle
    · rfl
  · rfl

theorem guardReact_of_clear (plain : zonesOf s = []) (clear : s.punch.zones = []) (idle : ∀ e ∈ s.punch.entries, e.isActive = false)
    (quiet : NoRecording s) : guardReact s = s := by
  have same : recomputeZones s = s := by rw [recomputeZones, State.onPunch, plain, ← clear]
  have judged (l : List Nat) : l.foldl judgeEntry s = s := by
    induction l with
    | nil => rfl
    | cons n r ih => rw [List.foldl_cons, judgeEntry_of_clear clear idle, ih]
  unfold guardReact
  dsimp only
  rw [same, judged, reformManual, quiet.2.2]
  exact gateGuard_of_noRecording quiet

end

/-! ## One of two entries moved (R160) -/

section
variable {v : State} {e f : Entry} (two : v.punch.entries = [e, f] ∨ v.punch.entries = [f, e]) (other : f.inMark ≠ e.inMark)
include two other

theorem entryFor_two : entryFor v e.inMark = some e := by
  rcases two with entries | entries <;> simp [entryFor, entries, other]

theorem movedKeys_two (idle : e.isActive = false) (other' : f.outMark ≠ e.inMark) : movedKeys [e.inMark] v = [e.inMark] := by
  have touched : (v.punch.entries.filter fun x => Touched [e.inMark] x) = [e] := by
    rcases two with entries | entries <;> simp [entries, Touched, Names, idle, other, other']
  rw [movedKeys, touched]
  rfl

theorem dropOverlapping_two : dropOverlapping v e.inMark =
    if RangesOverlap v e f then v.onPunch fun p => { p with entries := [f] } else v := by
  have any : (∃ x ∈ v.punch.entries, x.inMark ≠ e.inMark ∧ RangesOverlap v e x) ↔ RangesOverlap v e f := by
    rcases two with entries | entries <;> simp [entries, other]
  have left : (v.punch.entries.filter fun x => x.inMark ≠ e.inMark) = [f] := by
    rcases two with entries | entries <;> simp [entries, other]
  unfold dropOverlapping
  rw [entryFor_two two other]
  dsimp only
  rw [if_congr any rfl rfl, State.onPunch, left]
  rfl

/-- The list after the move of the first of two entries that would not stand at one tick. -/
theorem moveEntries_two (idle : e.isActive = false) (other' : f.outMark ≠ e.inMark)
    (apart : ¬ RangesOverlap v e f → entryIn v e ≠ entryIn v f) : moveEntries [e.inMark] v = v.onPunch fun p => { p with
      entries :=
        if RangesOverlap v e f then [f] else if entryIn v e < entryIn v f then [restage v e, f] else [f, restage v e] } := by
  have keys := movedKeys_two two other idle other'
  have touched : ∃ x ∈ v.punch.entries, Touched [e.inMark] x :=
    ⟨e, by rcases two with entries | entries <;> simp [entries], idle, .inl List.mem_cons_self⟩
  have kept : movedEntry [e.inMark] v f = f := if_neg (List.mem_singleton.not.mpr other)
  have moved : movedEntry [e.inMark] v e = restage v e := if_pos List.mem_cons_self
  have same : entryIn v (restage v e) = entryIn v e := entryIn_congr rfl rfl (restage_keys v e).1
  rw [moveEntries_eq, if_pos touched, untangled, keys, List.foldl_cons, List.foldl_nil, dropOverlapping_two two other]
  by_cases overlap : RangesOverlap v e f
  · rw [if_pos overlap, if_pos overlap]
    have stays (w : State) : movedEntry [e.inMark] w f = f := if_neg (List.mem_singleton.not.mpr other)
    simp only [State.onPunch, List.map_cons, List.map_nil, stays]
    rfl
  · have ne := apart overlap
    rw [if_neg overlap, if_neg overlap, State.onPunch, State.onPunch]
    have order : orderEntries v (v.punch.entries.map (movedEntry [e.inMark] v)) =
        if entryIn v e < entryIn v f then [restage v e, f] else [f, restage v e] := by
      rcases two with entries | entries
      · rw [entries, List.map_cons, List.map_cons, List.map_nil, kept, moved]
        change (if entryIn v f < entryIn v (restage v e) then [f, restage v e] else [restage v e, f]) = _
        rw [same]
        rcases Int.lt_or_gt_of_ne ne with lt | gt
        · rw [if_neg (by omega), if_pos lt]
        · rw [if_pos gt, if_neg (by omega)]
      · rw [entries, List.map_cons, List.map_cons, List.map_nil, kept, moved]
        change (if entryIn v (restage v e) < entryIn v f then [restage v e, f] else [f, restage v e]) = _
        rw [same]
    rw [order]

end

/-! ## MARK MOVE of the in-mark of an armed entry (R37, R160) -/

section
variable {s : State} {e f : Entry} {m : Mark} {a : Addr}

/-- An in-mark moved within the order of its pair keeps its entry's range upright. -/
theorem entryIn_le_entryTop_setMark (entry : EntryMarks s e) (mark : markAt s e.inMark = some m)
    (pair : ∀ p ∈ m.partner, ∀ o ∈ markAt s p, OrderHolds m.kind (tickOf a (spb s)) o.kind (tickValue s o)) :
    entryIn (setMark e.inMark { m with addr := a, standing := .firm, spread := none } s) e ≤
      entryTop (setMark e.inMark { m with addr := a, standing := .firm, spread := none } s) e := by
  obtain ⟨m', hm, o, ho, kind, partner, -⟩ := entry
  have same : m = m' := Option.some.inj (mark.symm.trans hm)
  subst same
  have order := pair _ partner o ho
  simp only [OrderHolds, kind, reduceCtorEq, false_and, or_false, true_and] at order
  obtain ⟨out, le⟩ := order
  have apart : e.outMark ≠ e.inMark := fun eq => by
    rw [eq, hm] at ho
    cases ho
    rw [kind] at out
    cases out
  have low : entryIn (setMark e.inMark { m with addr := a, standing := .firm, spread := none } s) e = tickOf a (spb s) := by
    rw [entryIn, markTick, show markAt (setMark e.inMark _ s) e.inMark = some _ from slotGet_slotPut_same _ _ _]
    rfl
  have high : entryOut (setMark e.inMark { m with addr := a, standing := .firm, spread := none } s) e = tickValue s o := by
    rw [entryOut_setMark_other apart, entryOut, markTick, show markAt s e.outMark = some o from ho]
  rw [low, entryTop, high]
  omega

/-- The reports of the move with no locate, no zone and nothing recording. -/
theorem deliver_movedEntry (loc : s.motion.loc = none) (held : s.motion.held = none) (quiet : NoRecording s)
    (two : s.punch.entries = [e, f] ∨ s.punch.entries = [f, e]) (other : f.inMark ≠ e.inMark) (other' : f.outMark ≠ e.inMark)
    (idle : e.isActive = false) (idle' : f.isActive = false) (clear : s.punch.zones = [])
    (plain : ∀ q ∈ s.marks, q.2.kind ≠ .guardStart ∧ q.2.kind ≠ .guardEnd) (upright : entryIn s e ≤ entryTop s e)
    (upright' : entryIn s f ≤ entryTop s f) : deliver [{ mark := e.inMark, change := .address }] s = s.onPunch fun p => { p with
      entries :=
        if RangesOverlap s e f then [f] else if entryIn s e < entryIn s f then [restage s e, f] else [f, restage s e] } := by
  have apart (clearOf : ¬ RangesOverlap s e f) : entryIn s e ≠ entryIn s f := fun same =>
    clearOf ⟨by rw [same]; exact upright', by rw [← same]; exact upright⟩
  have fresh : (restage s e).isActive = false := by
    by_contra active
    rw [restage_eq s e (by simpa using active), idle] at active
    exact active rfl
  rw [deliver_of_unlocated (by simp) loc held]
  change guardReact (moveEntries [e.inMark] s) = _
  rw [moveEntries_two two other idle other' apart]
  refine guardReact_of_clear ((zonesOf_congr s rfl rfl).trans (zonesOf_of_plain plain)) clear (fun x hx => ?_) quiet
  dsimp only [State.onPunch] at hx
  split at hx
  · rw [List.mem_singleton.mp hx]
    exact idle'
  · split at hx <;> simp only [List.mem_cons, List.not_mem_nil, or_false] at hx <;> rcases hx with rfl | rfl <;> assumption

end

end Sys2Proof.Machine
end

section
/-!
MarkChangesFollowed: what follows a change of the marks in the same step, at locates, guard zones and armed entries.
-/

namespace Sys2Proof.Machine

open Sys2Proof.Safety

/-! ## A new guard mark at the one entry of the list (R150, R151, R161) -/

/-- `t` is the state after a new guard mark: the Punch Unit's reaction to the changed table `w`, which finds the entry, the
lines and the place as they stood in `s`. -/
structure GuardHeard (e : Entry) (s w t : State) : Prop where
  punch : t.punch = (guardReact w).punch
  set : zonesOf t = zonesOf w
  drops : formDrop t e = lowestAbove (zonesOf w) (estimate s) (some (entryOut s e + 100))
  latches : Latches (guardReact w) t
  before : w.punch = s.punch
  inAt : entryIn w e = entryIn s e
  outAt : entryTop w e = entryOut s e + 100
  place : estimate w = estimate s
  here : placeHere w = placeHere s
  single : w.punch.entries = [e]
  off : w.punch.manual = .off
  silent : ¬ MonitorOn w
  gate : GateLaw w

section
variable {n : Nat} {m : Mark} {s w t : State} {e : Entry} {ain : Addr} {late ms : Bool} {st : Stage} {drop : Option Int}

theorem guardHeard_of_setMark (apartIn : e.inMark ≠ n) (apartOut : e.outMark ≠ n) (single : s.punch.entries = [e])
    (off : s.punch.manual = .off) (silent : ¬ MonitorOn s) (gate : GateLaw s) (wire : Link)
    (summary : wire.summary = (guardReact (setMark n m (disregarding s))).link.summary) :
    GuardHeard e s (setMark n m (disregarding s)) { guardReact (setMark n m (disregarding s)) with link := wire } := by
  obtain ⟨tracker, marks, -⟩ := guardReact_frame (setMark n m (disregarding s))
  have outAt : entryTop (setMark n m (disregarding s)) e = entryOut s e + 100 := congrArg (· + 100) (entryOut_setMark_other apartOut)
  have top := entryTop_congr (s := setMark n m (disregarding s)) (t := { guardReact (setMark n m (disregarding s)) with link := wire })
    (e := e) (f := e) marks (congrArg Tracker.loaded tracker) rfl
  have place := estimate_congr (s := setMark n m (disregarding s)) (t := { guardReact (setMark n m (disregarding s)) with link := wire })
    tracker
  refine { punch := rfl, set := zonesOf_congr _ marks tracker, drops := ?_, latches := fun x h => ?_, before := rfl,
           inAt := entryIn_setMark_other apartIn, outAt := outAt, place := rfl, here := rfl, single := single, off := off,
           silent := silent, gate := gate }
  · rw [formDrop, top, outAt, place]
    dsimp only
    rw [guardReact_zones]
    rfl
  · unfold Latched
    dsimp only
    rw [summary]
    exact h

/-- MARK SET of a guard mark, and what the Punch Unit hears of it. -/
theorem exec_guardHeard {h : Hdr} {k : Nat} {a : Addr} (hears : Hears (.markSet h n k a []) s) (kind : k = 3 ∨ k = 4) (low : 1 ≤ n)
    (high : n ≤ 99) (free : markAt s n = none) (block : a.block ≤ 1048575) (sample : a.sample < spb s) (loc : s.motion.loc = none)
    (held : s.motion.held = none) (apartIn : e.inMark ≠ n) (apartOut : e.outMark ≠ n) (single : s.punch.entries = [e])
    (off : s.punch.manual = .off) (silent : ¬ MonitorOn s) (gate : GateLaw s) :
    ∃ t w, exec (.markSet h n k a []) s = .next t ∧ OnlyIn [.marks, .punch, .link] s t ∧ (markAt t n).map Mark.addr = some a ∧
      GuardHeard e s w t := by
  obtain ⟨m, ps, addr, took⟩ := exec_guardMark hears kind low high free block sample loc held
    (by simpa [single] using ⟨apartIn, apartOut⟩)
  refine ⟨_, setMark n m (disregarding s), took, ⟨by simp [setMark], by simp [setMark], fun b hb => ?_⟩, ?_,
    guardHeard_of_setMark apartIn apartOut single off silent gate _ rfl⟩
  · cases b <;> simp at hb <;> simp [kept, setMark]
  · change (slotGet n (guardReact (setMark n m (disregarding s))).marks).map Mark.addr = some a
    rw [(guardReact_frame _).2.1]
    exact (congrArg (Option.map Mark.addr) (slotGet_slotPut_same n m s.marks)).trans (congrArg some addr)

namespace GuardHeard

variable (heard : GuardHeard e s w t)
include heard

theorem zonesOf_punch : t.punch.zones = zonesOf t := by rw [heard.punch, guardReact_zones, heard.set]

theorem gates_iff : GateOn w ↔ GateOn s := by rw [GateOn, heard.before]

theorem guards (armed : e.state = .armed st ms) (gates : ¬ GateOn s) (inside : OverlapsGuard t (entryIn s e) (entryOut s e + 100)) :
    t.punch = { s.punch with
      zones := zonesOf t, entries := [{ e with state := .complete .guarded none none }]
      last := some { inMark := e.inMark, outMark := e.outMark, tracks := e.tracks, rehearse := e.rehearse
                     result := .guarded, actualIn := none, actualOut := none } } ∧ Latched .punchDone t := by
  rw [OverlapsGuard, heard.zonesOf_punch, heard.set, ← heard.inAt, ← heard.outAt] at inside
  have guards := guardReact_guards heard.single heard.off armed (heard.gates_iff.not.mpr gates) heard.silent inside
  refine ⟨?_, heard.latches _ ?_⟩
  · rw [heard.punch, guards, heard.set, ← heard.before]
    rfl
  · rw [guards]
    exact raised_latched _ _

theorem passes (armed : e.state = .armed st ms) (gates : ¬ GateOn s) (outside : ¬ OverlapsGuard t (entryIn s e) (entryOut s e + 100)) :
    t.punch = { s.punch with zones := zonesOf t } := by
  rw [OverlapsGuard, heard.zonesOf_punch, heard.set, ← heard.inAt, ← heard.outAt] at outside
  rw [heard.punch, guardReact_passes heard.single heard.off armed (heard.gates_iff.not.mpr gates) heard.silent outside, heard.set,
    ← heard.before]
  rfl

theorem aborts (active : e.state = .active late drop ain) (recording : e.rehearse = false) (on : GateOn s)
    (inside : InGuard t (estimate s)) : t.punch = { s.punch with
      zones := zonesOf t, gateA := false, gateB := false, offset := 0
      entries := [{ e with state := .complete .aborted (some ain) (some (placeHere s)) }]
      last := some { inMark := e.inMark, outMark := e.outMark, tracks := e.tracks, rehearse := false, result := .aborted
                     actualIn := some ain, actualOut := some (placeHere s) } } ∧ Latched .punchDone t := by
  rw [InGuard, heard.zonesOf_punch, heard.set, ← heard.place] at inside
  have aborts := guardReact_aborts heard.single heard.off active recording (heard.gates_iff.mpr on) heard.silent inside
  refine ⟨?_, heard.latches _ ?_⟩
  · rw [heard.punch, aborts, heard.set, ← heard.before, ← heard.here, completion, recording]
    rfl
  · rw [aborts]
    exact raised_latched _ _

theorem redrops (active : e.state = .active late drop ain) (on : GateOn s) (outside : ¬ InGuard t (estimate s)) :
    t.punch = { s.punch with zones := zonesOf t, entries := [{ e with state := .active late (formDrop t e) ain }] } := by
  rw [InGuard, heard.zonesOf_punch, heard.set, ← heard.place] at outside
  rw [heard.punch, guardReact_redrops heard.single heard.off active (heard.gates_iff.mpr on) heard.gate heard.silent outside, heard.set,
    heard.drops, ← heard.before, heard.place, heard.outAt]
  rfl

end GuardHeard

end

/-- Settles O58: each change through its report, to the locate, to the guard zones and to the armed entries. -/
theorem markChangesFollowed : Obligations.MarkChangesFollowed := by
  refine ⟨fun h n a c m p s loc mode => ⟨fun hears low high target held empty quiet mark own current alone block sample => ?_,
      fun hears low high target context form mark own => ?_, fun running late far tape => ?_⟩, ?_, ?_, ?_⟩
  · intro u tick d moved fresh drive base kept toRun toApproach
    refine ⟨fun first => ?_, fun late => ⟨fun far => ?_, fun off near ne => ?_, fun off near same => ?_, fun there => ?_⟩⟩
    · exact locateMark_moved loc hears low high target empty mark own current alone block sample (c' := moved) rfl
        (judgeTarget_first (by exact mode) first) held empty quiet rfl
    · exact locateMark_moved loc hears low high target empty mark own current alone block sample (c' := moved) rfl
        (judgeTarget_far (by exact mode) late far) held empty quiet rfl
    · exact locateMark_moved loc hears low high target empty mark own current alone block sample (c' := moved) rfl
        (judgeTarget_mid (by exact mode) (late.resolve_left ne) off near) held empty quiet rfl
    · exact locateMark_moved loc hears low high target empty mark own current alone block sample (c' := moved) rfl
        (judgeTarget_unlatches (by rw [← same]; exact mode) off near) held empty quiet rfl
    · exact locateMark_moved loc hears low high target empty mark own current alone block sample (c' := moved) rfl
        (judgeTarget_stays (by exact mode) late there (by simp [moved])) held empty quiet rfl
  · have checked : checkMark n h.station (disregarding s) = .ok m := checkMark_passed (s := disregarding s) low high mark own
    have taken : reqMarkRetire n (asker (.markRetire h n)) (disregarding s) = (.okWith (n1 n), retireMarks [n] (disregarding s)) :=
      reqMarkRetire_taken checked
    have held : s.motion.held = none := by
      by_contra held
      have restoring := context.2 held
      rw [mode] at restoring
      cases restoring
    obtain ⟨motion, done⟩ := retireMarks_target (s := disregarding s) loc target held
    refine ⟨_, exec_answered hears nofun taken (retireMarks_line _ _), ?_, ?_, ?_, ?_, ?_⟩
    · change slotGet n (retireMarks [n] (disregarding s)).marks = none
      exact retireMarks_free n _
    · exact congrArg Motion.mode motion
    · exact congrArg Motion.loc motion
    · refine (congrArg Motion.result motion).trans ?_
      simp only [locResult, target]
      rfl
    · change Latched .locateDone (retireMarks [n] (disregarding s))
      exact done
  · obtain ⟨v, l, update, kept, noted⟩ := profileUpdate_recedes loc mode late far tape
    refine ⟨_, exec_profileUpdate running, ?_⟩
    rw [update]
    exact ⟨rfl, rfl, kept, noted⟩
  · intro r c a s running good absent candidate rate internal empty calm bare zones entries quiet held mode loc target b
    have read := exec_addressRead running r
    rw [addressRead_unknown good absent, identifyRead, if_pos (by exact candidate),
      adoptReel_searching (by exact bare) (by exact mode) (by exact loc) target (by exact held) (by exact rate) (by exact internal),
      acceptRead_fresh r (by exact calm), freshRead_placed (.inl (by exact empty)),
      handOn_outside r (by simp [bare]) (by simp [mode])] at read
    refine ⟨_, read, raised_latched .reelIdentified s, ⟨rfl, rfl, fun b hb => ?_⟩, rfl⟩
    cases b <;> simp at hb <;> rfl
  · intro h n k a ain late drop st ms e s hears kind low high free block sample loc held off single apartIn apartOut gate silent
    obtain ⟨t, w, took, only, mark, heard⟩ := exec_guardHeard hears kind low high free block sample loc held apartIn apartOut single off
      silent gate
    refine ⟨t, took, only, mark, heard.zonesOf_punch, fun armed gates => ⟨heard.guards armed gates, heard.passes armed gates⟩,
      fun active recording on => ⟨heard.aborts active recording on, fun outside => ⟨heard.redrops active on outside, fun none => ?_,
        fun x hx => ?_⟩⟩⟩
    · rw [heard.zonesOf_punch, heard.set]
      exact lowestAbove_eq_none (heard.drops.symm.trans none)
    · rw [heard.zonesOf_punch, heard.set]
      exact lowestAbove_eq_some (heard.drops.symm.trans hx)
  · rintro h n a m e f s marks armed hears low high mark own current block sample pair loc held quiet two idle idle' rfl other other'
      clear plain v
    have checked : checkMark e.inMark h.station (disregarding s) = .ok m := checkMark_passed (s := disregarding s) low high mark own
    have unused : ¬ InUse (disregarding s) e.inMark := by
      have calm : activeEntry s = none := activeEntry_of_idle (by rcases two with l | l <;> simp [l, idle, idle'])
      rintro ⟨x, hx, -⟩
      rw [show activeEntry (disregarding s) = none from calm] at hx
      cases hx
    have taken := reqMarkMove_taken (s := disregarding s) (ctx := asker (.markMove h e.inMark a)) checked unused current
      (addr_in (s := disregarding s) block sample) pair
    have listed : ∀ x ∈ [e, f], EntryMarks s x := fun x hx => (armed.2.2.2 x (by rcases two with l | l <;> rw [l] <;> simpa [or_comm] using hx)).1
    have upright' : entryIn (setMark e.inMark { m with addr := a, standing := .firm, spread := none } s) f ≤
        entryTop (setMark e.inMark { m with addr := a, standing := .firm, spread := none } s) f := by
      rw [entryIn_setMark_other other, entryTop, entryOut_setMark_other other']
      exact entryIn_le_entryTop marks (listed f (by simp))
    rw [deliver_movedEntry (f := f) (by exact loc) (by exact held) (by exact quiet) (by exact two) other other' idle idle' (by exact clear)
      (fun q hq => ?_) (by exact entryIn_le_entryTop_setMark (listed e (by simp)) mark pair) (by exact upright')] at taken
    · exact exec_silent (r := .okWith _) hears nofun taken rfl
    · rcases slotPut_mem hq with rfl | hq
      · exact plain (_, m) (slotGet_mem mark)
      · exact plain q hq

end Sys2Proof.Machine
end
